-- ==== Sys2Proof/Word.lean ====
section
/-!
DEFINITION. The plainest words of the model: a byte, a string of bytes, and a finite map held as an association list.
Field extraction, signs, byte order and every operation on these are in Sys2Proof/Machine/Bits.lean.
-/
namespace Sys2Proof

/-- One byte (R6: a byte is 8 bits). -/
abbrev Byte := BitVec 8

/-- A string of bytes, the first byte first. -/
abbrev Bytes := List Byte

/-- A finite map from Nat keys as plain data: pairs in strictly rising key order (the canonical form of `FMap.wf`). -/
abbrev FMap (α : Type) := List (Nat × α)

/-- The canonical form: keys strictly rising. -/
def FMap.wf {α : Type} : FMap α → Bool
  | [] => true
  | [_] => true
  | (k, _) :: (k', v') :: m => decide (k < k') && FMap.wf ((k', v') :: m)

end Sys2Proof
end

