-- ==== Sys2Proof/Syntax.lean ====
section
/-!
DEFINITION. The commands of the block: `Instr` has one constructor per row of spec/opcode_table.json.
The first operand `x` of every command but the action-program words is the capture instant X of R75 (units of 125 ps:
raw count times 8 plus phase) at which the command happens.
Operands whose width the spec fixes are bounded by Sys2Proof/WellFormed.lean.
-/
namespace Sys2Proof

/-- Who makes a dictionary request: the master ID of R14 and, for a Prosta requester (0x20), its session ID (0 none). -/
structure Requester where
  master  : Nat
  session : Nat
  deriving DecidableEq, Repr

/-- One reading of the strap pins (R567). -/
structure Straps where
  bootSrc    : BitVec 2
  testMode   : Bool
  cascMaster : Bool
  deriving DecidableEq, Repr

/-- The boot state copy in use (R546): its SEQ, the CONFIRMED bank and the TRIAL bank, if any. -/
structure BootState where
  seq       : Nat
  confirmed : Nat
  trial     : Option Nat
  deriving DecidableEq, Repr

/-- What moves the preemption verification of R135: a verify frame, a respond frame or the end of the verify timer. -/
inductive VerifyEvent where
  | verifyFrame | respondFrame | timerEnd
  deriving DecidableEq, Repr

/-- A cascade frame (R414): destination, source, type, flags, sequence number, payload, and whether its CRC was good. -/
structure CascFrame where
  dest    : Nat
  src     : Nat
  type    : Nat
  flags   : Nat
  seq     : Nat
  payload : Bytes
  crc     : Nat
  deriving DecidableEq, Repr

/-- One image of a cascade master's flash section (R546): KIND, TARGET and the image. -/
structure CascEntry where
  kind   : Nat
  target : Nat
  image  : Bytes
  deriving DecidableEq, Repr

/-- The outcome of an ECC check of HBM (R490, R491). -/
inductive EccResult where
  | clean | corrected | uncorrected
  deriving DecidableEq, Repr

/-- What the receive side of a port has counted since the tail before: the preemption fragments that a frame came in (R138), LPI codes (R120),
and codewords that its FEC corrected or could not (R137). -/
structure RxTally where
  fragments      : Nat := 0
  lpi            : Nat := 0
  fecCorrected   : Nat := 0
  fecUncorrected : Nat := 0
  deriving DecidableEq, Repr

/-- How a reception ends (R136, R591): whether an error ended it, and what its port has counted. -/
structure RxTail where
  ended   : Bool := false
  counted : RxTally := {}
  deriving DecidableEq, Repr

/-- The agent on whose bus a CAN frame is, and its identifier (R63). -/
structure CanId where
  agent : Nat
  id    : Nat
  deriving DecidableEq, Repr

/-- A deep access of a paddock slot with the ECC result of its bucket (R384, R490). -/
structure SlotRead where
  slot : Nat
  ecc  : EccResult
  deriving DecidableEq, Repr

/-- An access of the internal bus (R530): whether it writes, and the opcode, index and sub-index where it is a dictionary operation. -/
structure BusAccess where
  write : Bool
  op    : Option (Nat × Nat × Nat)
  deriving DecidableEq, Repr

/-- A fault as a mechanism presents it to the fault collector (R524): source row of FaultReactions, the captured address,
the master and access fields, and whether the access was a write. -/
structure FaultReport where
  source : Nat
  addr   : Nat
  master : Nat
  access : Nat
  deriving DecidableEq, Repr

/-- The commands of the block, one constructor per row of spec/opcode_table.json, in its order. -/
inductive Instr where
  /-- `SUPPLY_VALID` (R543): The last rail becomes valid (T0); the control island starts, straps and fuses are read and the start-up timeline begins. -/
  | supplyValid (x : Nat) (samples : List Straps) (factoryLock : Bool)
  /-- `RAIL_LOSS` (R542): A main rail leaves its range for more than 10 µs; all outputs go to high impedance and the device waits for the next T0. -/
  | railLoss (x : Nat) (aon : Bool)
  /-- `DICTIONARY_IMAGE_LOAD` (R548): The boot sequencer finishes reading a dictionary image, checks it and applies its records, or refuses it and tries the other slot or defaults. -/
  | dictionaryImageLoad (x : Nat) (flashBytes : Nat) (slotA : Option Bytes) (slotB : Option Bytes) (casc : List CascEntry)
  /-- `FIRMWARE_LOAD` (R473): The firmware bank read finishes; the image is checked by R470 and the cores start, or the other bank or no firmware is used. -/
  | firmwareLoad (x : Nat) (bank0 : Option Bytes) (bank1 : Option Bytes) (boot : Option BootState)
  /-- `TICK_BOUNDARY` (R19): At a tick boundary the device runs its six duties in order: snapshots, servo writes, epoch switch, weave and yard, setpoint install and transfers, residue and heartbeat. -/
  | tickBoundary (x : Nat)
  /-- `SERVO_TIMEOUT` (R83): ServoTimeout ticks pass without a servo write; the tracking domain enters HOLDOVER, Locked clears and class S is raised. -/
  | servoTimeout (x : Nat) (d : Nat)
  /-- `RESIDUE_LIMIT_EXPIRY` (R268): A residue entry reaches ResidueLimitTicks and is dropped; the next entry of its key is tried. -/
  | residueLimitExpiry (x : Nat)
  /-- `RECOVERY_RESET_EXPIRY` (R204): RESET_TICKS boundaries pass without a pass and a recovery function resets to take_any. -/
  | recoveryResetExpiry (x : Nat) (fn : Nat)
  /-- `MATE_LOST` (R401): MISS_COUNT reaches HbMissLimit; MateState becomes LOST and class P is raised. -/
  | mateLost (x : Nat)
  /-- `PATH_SILENT` (R402): One heartbeat path stays silent for HbMissLimit ticks while the mate is alive; class P is raised. -/
  | pathSilent (x : Nat) (path : Nat)
  /-- `GENERATOR_FIRE` (R346): A generator's period comes round and it schedules a start on each OUTPUT line it drives. -/
  | generatorFire (x : Nat) (g : Nat)
  /-- `YARD_EVENT_FIRE` (R344): A queued one-shot pulse reaches its start time and is tested and released. -/
  | yardEventFire (x : Nat) (line : Nat)
  /-- `START_GROUP_RELEASE` (R348): A start held by its start group's spacing is released to its ball. -/
  | startGroupRelease (x : Nat) (grp : Nat)
  /-- `PULSE_END` (R342): WIDTH ns after its start, an OUTPUT line returns to its inactive level. -/
  | pulseEnd (x : Nat) (line : Nat)
  /-- `YARD_EDGE_CAPTURE` (R350): A CAPTURE line sees a deglitched edge and records its timestamp in YardCaptures. -/
  | yardEdgeCapture (x : Nat) (line : Nat) (rising : Bool) (heldNs : Nat)
  /-- `WEAVE_WINDOW_OPEN` (R291): A weave window's start time is reached and the port's gates change to its GATES. -/
  | weaveWindowOpen (x : Nat) (port : Nat)
  /-- `SAMPLE_GROUP_BUILD` (R366): A due sample group builds its template frame at S and offers it on port 98 to its pipeline. -/
  | sampleGroupBuild (x : Nat) (g : Nat)
  /-- `SWEEP_DUE` (R509): Sweep sets due at a boundary are latched into a free snapshot bank, or skipped. -/
  | sweepDue (x : Nat)
  /-- `SWEEP_DUMP_DONE` (R512): A sweep record's last word is written; SweepHead and SweepRecords advance. -/
  | sweepDumpDone (x : Nat) (set : Nat) (ok : Bool)
  /-- `BANDWIDTH_WINDOW_END` (R520): A bandwidth window ends and PortBandwidth rows are computed. -/
  | bandwidthWindowEnd (x : Nat)
  /-- `TICK_IRQ` (R454): Every TickIrqDivider ticks the tick vector is raised. -/
  | tickIrq (x : Nat)
  /-- `SETPOINT_STORE_CLOSE` (R361): The setpoint store closes for tick n + 1 and the halter evaluates every word. -/
  | setpointStoreClose (x : Nat) (pp : Nat)
  /-- `STALE_TICKS_EXPIRY` (R364): A missing word's MISS first exceeds STALE_TICKS; its target becomes SAFE. -/
  | staleTicksExpiry (x : Nat) (word : Nat)
  /-- `LOOP_OVERRUN_LIMIT` (R467): Consecutive overruns reach LoopOverrunLimit and the halter acts by LoopOverrunAction. -/
  | loopOverrunLimit (x : Nat) (pair : Nat) (port : Nat)
  /-- `PP_TRANSFER_END` (R357): A process-port transfer ends; DI CRCs are checked and samples become readable. -/
  | ppTransferEnd (x : Nat) (pp : Nat) (status : Nat) (words : List Nat) (crcs : List Nat)
  /-- `SIGNAL_DETECT` (R121): An enabled DOWN port detects signal and enters NEGOTIATING or TRAINING. -/
  | signalDetect (x : Nat) (p : Nat)
  /-- `AUTONEG_DONE` (R119): Clause 73 negotiation resolves a common ability, or fails and retries. -/
  | autonegDone (x : Nat) (p : Nat) (partner : Nat)
  /-- `TRAINING_DONE` (R121): PCS and FEC lock with no local fault; the port enters UP. -/
  | trainingDone (x : Nat) (p : Nat)
  /-- `TRAINING_TIMEOUT` (R119): Link training times out and the port returns to NEGOTIATING. -/
  | trainingTimeout (x : Nat) (p : Nat)
  /-- `LINK_LOSS` (R122): Loss of lock, signal or a local fault moves an UP port to HOLDING. -/
  | linkLoss (x : Nat) (p : Nat)
  /-- `LINK_RESTORE` (R122): Lock returns during HOLDING and the port returns to UP without flush. -/
  | linkRestore (x : Nat) (p : Nat)
  /-- `LINK_DOWN_HOLD_EXPIRY` (R122): LinkDownHold ends in HOLDING and the port enters DOWN. -/
  | linkDownHoldExpiry (x : Nat) (p : Nat)
  /-- `REMOTE_FAULT` (R122): A received remote fault sequence stops frame transmission for its duration. -/
  | remoteFault (x : Nat) (p : Nat)
  /-- `PORT_CALIBRATION_DONE` (R96): The post-link-up latency calibration ends in CalState 2, or 3 with class S. -/
  | portCalibrationDone (x : Nat) (p : Nat) (ok : Bool) (rxPs : Nat) (txPs : Nat)
  /-- `PREEMPT_VERIFY` (R135): A verify or respond frame is received or the verify timer ends, moving VerifyStatus. -/
  | preemptVerify (x : Nat) (p : Nat) (ev : VerifyEvent)
  /-- `FRAME_INGRESS` (R125): A frame's head enters its pipeline and runs parse, classify, lookup and action stages. -/
  | frameIngress (x : Nat) (port : Nat) (pl : Nat) (frame : Bytes) (fragmented : Bool) (hold : Bool)
  /-- `FRAME_TAIL_ARRIVAL` (R591): A frame's last byte arrives and it proves good or bad. -/
  | frameTailArrival (x : Nat) (port : Nat) (fragmented : Bool) (fcsOk : Bool) (last : RxTail)
  /-- `COPY_ADMISSION` (R266): A replicated frame's copies are admitted in spare admission decisions. -/
  | copyAdmission (x : Nat) (pl : Nat)
  /-- `EGRESS_SELECT` (R285): An egress MAC can start a frame and takes its candidate from the first band that offers one. -/
  | egressSelect (x : Nat) (port : Nat) (ecc : EccResult)
  /-- `TRANSMIT_COMPLETE` (R249): A frame's last byte is sent and its cells pass to Releasing. -/
  | transmitComplete (x : Nat) (port : Nat) (ecc : EccResult)
  /-- `CELL_RELEASE` (R249): Releasing cells return to Free. -/
  | cellRelease (x : Nat) (n : Nat)
  /-- `DHOP_LAUNCH` (R134): A D_HOP frame's target arrives and it is sent, or judged late. -/
  | dhopLaunch (x : Nat) (port : Nat)
  /-- `LAUNCH_TARGET` (R299): A launched frame's target arrives and it is sent, or judged late. -/
  | launchTarget (x : Nat) (port : Nat) (q : Nat)
  /-- `SPILL_WRITE` (R262): The spill engine writes tail frames to the HBM part. -/
  | spillWrite (x : Nat) (row : Nat)
  /-- `SPILL_READBACK` (R262): HBM frames move back into the on-chip head. -/
  | spillReadback (x : Nat) (row : Nat)
  /-- `RECIRCULATION` (R124): A frame leaving port 99 re-enters its pipeline with its edits, or is dropped on the fifth pass. -/
  | recirculation (x : Nat) (pl : Nat)
  /-- `SAMPLER_RECORD` (R272): A sampled frame's last byte arrives and its record goes to the host ring or firmware. -/
  | samplerRecord (x : Nat) (pl : Nat) (sampler : Nat)
  /-- `LEARN_APPLY` (R183): A learn request installs an entry in an update slot. -/
  | learnApply (x : Nat) (pl : Nat)
  /-- `MOVE_APPLY` (R184): A move request is applied or held off as a flap. -/
  | moveApply (x : Nat) (pl : Nat)
  /-- `AGEING_VISIT` (R187): An ageing visit clears HIT or removes a learned row. -/
  | ageingVisit (x : Nat) (pl : Nat) (row : Nat)
  /-- `TABLE_UPDATE_APPLY` (R165): A software table write is applied in an update slot. -/
  | tableUpdateApply (x : Nat) (pl : Nat)
  /-- `SCRUB_READ` (R494): A grooming slot makes a scrub read of an on-chip row. -/
  | scrubRead (x : Nat) (pl : Nat) (table : Nat) (row : Nat) (bad : Bool)
  /-- `SHADOW_REPAIR` (R210): A grooming slot rewrites a bad row from its shadow, or invalidates a learned row. -/
  | shadowRepair (x : Nat) (pl : Nat)
  /-- `END` (R224): Ends the action program. -/
  | endOp (pl : Nat) (w : BitVec 26)
  /-- `SET_CTQ` (R226): Sets class, colour and queue. -/
  | setCtq (pl : Nat) (w : BitVec 26)
  /-- `FWD` (R227): Sets DEST from the bridged destination, NH, an immediate or TAG. -/
  | fwd (pl : Nat) (w : BitVec 26)
  /-- `DROP` (R224): Drops the frame and ends the program. -/
  | drop (pl : Nat) (w : BitVec 26)
  /-- `SKIP_IF` (R228): Skips forward N words when its condition holds. -/
  | skipIf (pl : Nat) (w : BitVec 26)
  /-- `COUNT` (R229): Adds the frame to its ActionCounters row. -/
  | count (pl : Nat) (w : BitVec 26)
  /-- `VLAN_PUSH` (R230): Adds an outermost VLAN tag. -/
  | vlanPush (pl : Nat) (w : BitVec 26)
  /-- `VLAN_POP` (R230): Removes outermost VLAN tags. -/
  | vlanPop (pl : Nat) (w : BitVec 26)
  /-- `VLAN_SET` (R230): Rewrites fields of the outermost tag. -/
  | vlanSet (pl : Nat) (w : BitVec 26)
  /-- `MAC_SET` (R230): Overwrites DMAC, SMAC or both. -/
  | macSet (pl : Nat) (w : BitVec 26)
  /-- `TTL_DEC` (R230): Decrements TTL or hop limit, acting by ON_EXPIRY on expiry. -/
  | ttlDec (pl : Nat) (w : BitVec 26)
  /-- `DSCP_SET` (R230): Rewrites DSCP. -/
  | dscpSet (pl : Nat) (w : BitVec 26)
  /-- `RTAG_PUSH` (R231): Adds an R-tag with a SeqGen number. -/
  | rtagPush (pl : Nat) (w : BitVec 26)
  /-- `RTAG_POP` (R230): Removes the R-tag. -/
  | rtagPop (pl : Nat) (w : BitVec 26)
  /-- `HSR_PUSH` (R230): Adds an HSR tag with a SeqGen number. -/
  | hsrPush (pl : Nat) (w : BitVec 26)
  /-- `HSR_POP` (R230): Removes the HSR tag. -/
  | hsrPop (pl : Nat) (w : BitVec 26)
  /-- `PRP_ADD` (R230): Appends a PRP trailer. -/
  | prpAdd (pl : Nat) (w : BitVec 26)
  /-- `PRP_STRIP` (R230): Removes the PRP trailer. -/
  | prpStrip (pl : Nat) (w : BitVec 26)
  /-- `MIRROR` (R271): Makes a mirror copy to a session. -/
  | mirror (pl : Nat) (w : BitVec 26)
  /-- `SAMPLE` (R272): Offers the frame to a sampler. -/
  | sample (pl : Nat) (w : BitVec 26)
  /-- `PUNT` (R235): Sends the frame to host, firmware or the paddock. -/
  | punt (pl : Nat) (w : BitVec 26)
  /-- `LAUNCH` (R236): Sets the frame's launch target. -/
  | launch (pl : Nat) (w : BitVec 26)
  /-- `SETPOINT` (R237): Reads a setpoint block for delivery to process ports. -/
  | setpoint (pl : Nat) (w : BitVec 26)
  /-- `PTP_SYNC_RECEIVE` (R102): A domain Sync is corrected, relayed or time-stamped into the ring by port role. -/
  | ptpSyncReceive (x : Nat) (p : Nat) (frame : Bytes)
  /-- `PTP_FOLLOW_UP_RECEIVE` (R101): A Follow_Up is matched to a pending Sync and corrected. -/
  | ptpFollowUpReceive (x : Nat) (p : Nat) (frame : Bytes)
  /-- `FOLLOW_UP_MISSING` (R101): A pending two-step Sync finds no Follow_Up in four intervals and is freed. -/
  | followUpMissing (x : Nat) (p : Nat)
  /-- `PTP_DELAY_REQ_RECEIVE` (R100): A master port answers a Delay_Req. -/
  | ptpDelayReqReceive (x : Nat) (p : Nat) (frame : Bytes)
  /-- `PTP_DELAY_RESP_RECEIVE` (R104): A slave port records a Delay_Resp in TimeEvents. -/
  | ptpDelayRespReceive (x : Nat) (p : Nat) (frame : Bytes)
  /-- `PTP_PDELAY_REQ_RECEIVE` (R103): The device answers a Pdelay_Req in hardware. -/
  | ptpPdelayReqReceive (x : Nat) (p : Nat) (frame : Bytes)
  /-- `PTP_PDELAY_RESP_RECEIVE` (R103): A peer delay exchange completes and link delay and rate ratio are updated. -/
  | ptpPdelayRespReceive (x : Nat) (p : Nat) (frame : Bytes)
  /-- `PDELAY_LOST` (R103): An exchange has no response before the next request; after three losses LinkDelayValid clears. -/
  | pdelayLost (x : Nat) (p : Nat)
  /-- `PTP_GENERAL_MESSAGE` (R100): Announce, Signaling or Management goes to firmware or is discarded. -/
  | ptpGeneralMessage (x : Nat) (p : Nat) (frame : Bytes)
  /-- `SYNC_ORIGINATE` (R102): A boundary master port sends Sync every SyncIntervalTicks. -/
  | syncOriginate (x : Nat) (d : Nat) (p : Nat)
  /-- `DELAY_REQ_SEND` (R100): A slave port sends Delay_Req every DelayReqIntervalTicks. -/
  | delayReqSend (x : Nat) (d : Nat) (p : Nat)
  /-- `PDELAY_REQ_SEND` (R103): A port sends Pdelay_Req every PdelayIntervalTicks. -/
  | pdelayReqSend (x : Nat) (p : Nat)
  /-- `PPS_IN_EDGE` (R109): A PPS input edge is captured into TimeEvents. -/
  | ppsInEdge (x : Nat) (i : Nat) (rising : Bool)
  /-- `PPS_MISSING` (R109): No PPS edge arrives within 1 s ± 1 ms. -/
  | ppsMissing (x : Nat) (i : Nat)
  /-- `PPS_OUT_EDGE` (R108): A PPS output emits its edge at a whole second plus OutOffset. -/
  | ppsOutEdge (x : Nat) (i : Nat)
  /-- `PLL_REF_LOSS` (R106): The PLL's reference is lost and it enters holdover. -/
  | pllRefLoss (x : Nat)
  /-- `READ` (R44): Returns an entry's active value. -/
  | read (x : Nat) (r : Requester) (idx : Nat) (sub : Nat)
  /-- `WRITE` (R36): Writes or stages an entry's value after the checks of R36. -/
  | write (x : Nat) (r : Requester) (idx : Nat) (sub : Nat) (ty : Nat) (data : Bytes)
  /-- `READ_STAGED` (R325): Returns the staged value of an entry. -/
  | readStaged (x : Nat) (r : Requester) (idx : Nat) (sub : Nat)
  /-- `READ_ROW` (R590): Returns whole rows of a TABLE. -/
  | readRow (x : Nat) (r : Requester) (idx : Nat) (sub : Nat) (first : Nat) (count : Nat)
  /-- `WRITE_ROW` (R589): Writes rows of a TABLE as a whole. -/
  | writeRow (x : Nat) (r : Requester) (idx : Nat) (sub : Nat) (first : Nat) (count : Nat) (data : Bytes)
  /-- `BULK_READ` (R590): Returns bytes of a DOMAIN or TABLE. -/
  | bulkRead (x : Nat) (r : Requester) (idx : Nat) (sub : Nat) (off : Nat) (len : Nat)
  /-- `BULK_WRITE` (R47): Adds one part of a bulk write, taking effect after the last byte. -/
  | bulkWrite (x : Nat) (r : Requester) (idx : Nat) (sub : Nat) (off : Nat) (total : Nat) (data : Bytes)
  /-- `BULK_WRITE_TIMEOUT` (R47): A gap over 1 s aborts a bulk write with TIMEOUT. -/
  | bulkWriteTimeout (x : Nat) (master : Nat) (idx : Nat) (sub : Nat)
  /-- `SUBSCRIBE` (R60): Creates a subscription to a notification object. -/
  | subscribe (x : Nat) (r : Requester) (idx : Nat) (sub : Nat)
  /-- `UNSUBSCRIBE` (R60): Removes a subscription. -/
  | unsubscribe (x : Nat) (r : Requester) (idx : Nat) (sub : Nat)
  /-- `SESSION_OPEN` (R53): Opens an authenticated Prosta session. -/
  | sessionOpen (x : Nat) (slot : Nat) (nonce : Bytes) (authentic : Bool)
  /-- `SESSION_CLOSE` (R54): Closes a session. -/
  | sessionClose (x : Nat) (r : Requester)
  /-- `COMMIT` (R330): Checks and seals the open stage into a pending batch for a named tick. -/
  | commit (x : Nat) (r : Requester) (flags : Nat) (id : Nat) (tick : Nat)
  /-- `ABORT` (R334): Withdraws the open stage or a pending batch, re-checking later batches. -/
  | abort (x : Nat) (r : Requester) (flags : Nat) (id : Nat) (tick : Nat)
  /-- `ECHO` (R44): Returns its bytes with receipt and reply times. -/
  | echo (x : Nat) (r : Requester) (data : Bytes)
  /-- `NOTIFY_DELIVER` (R62): A queued NOTIFY record is delivered to its subscriber. -/
  | notifyDeliver (x : Nat) (r : Requester)
  /-- `BATCH_FOLD_DONE` (R333): A batch is folded into active storage and its staged rows return. -/
  | batchFoldDone (x : Nat)
  /-- `LPM_RESERVE_RETURN` (R194): 5 µs after the boundary, the LPM reserve is returned. -/
  | lpmReserveReturn (x : Nat)
  /-- `PROSTA_FRAME_RECEIVE` (R57): A Prosta frame is checked, then executed, routed in transit or dropped. -/
  | prostaFrameReceive (x : Nat) (port : Nat) (frame : Bytes)
  /-- `SESSION_IDLE_TIMEOUT` (R54): A session is idle for SessionIdleTimeout and closes. -/
  | sessionIdleTimeout (x : Nat) (sid : Nat)
  /-- `CAN_SEGMENT_SINGLE` (R64): A single segment carries a whole request for execution. -/
  | canSegmentSingle (x : Nat) (bus : CanId) (seg : Bytes)
  /-- `CAN_SEGMENT_FIRST` (R64): A first segment opens a transfer. -/
  | canSegmentFirst (x : Nat) (bus : CanId) (seg : Bytes)
  /-- `CAN_SEGMENT_CONSECUTIVE` (R65): A consecutive segment continues a transfer. -/
  | canSegmentConsecutive (x : Nat) (bus : CanId) (seg : Bytes)
  /-- `CAN_SEGMENT_ABORT` (R64): An abort segment ends a transfer. -/
  | canSegmentAbort (x : Nat) (bus : CanId) (seg : Bytes)
  /-- `CAN_TRANSFER_TIMEOUT` (R65): A gap over 100 ms aborts a transfer with TIMEOUT. -/
  | canTransferTimeout (x : Nat) (agent : Nat)
  /-- `CAN_RESPONSE_SEND` (R66): A response transfer is sent on the response identifier. -/
  | canResponseSend (x : Nat) (agent : Nat)
  /-- `CAN_NOTIFY_SEND` (R66): A notification transfer is sent. -/
  | canNotifySend (x : Nat) (agent : Nat)
  /-- `WINDOW_GO` (R67): A write of GO to HB_WIN_REQ starts a window request. -/
  | windowGo (x : Nat) (m : Nat) (atomic : Bool) (len : Nat)
  /-- `WINDOW_DONE` (R67): A window request completes; DONE is set and the vector raised. -/
  | windowDone (x : Nat)
  /-- `SET_TIME` (R80): Stages a SetTime for the next boundary. -/
  | setTime (x : Nat) (r : Requester) (d : Nat) (t : Nat)
  /-- `RATE_WORD` (R80): Stages a rate word for the next boundary. -/
  | rateWord (x : Nat) (r : Requester) (d : Nat) (w : Int)
  /-- `PHASE_ADJUST` (R80): Adds a phase adjustment for the next boundary. -/
  | phaseAdjust (x : Nat) (r : Requester) (d : Nat) (v : Int)
  /-- `REACQUIRE` (R85): Returns a domain to ACQUIRE at the next boundary. -/
  | reacquire (x : Nat) (r : Requester) (d : Nat) (v : Nat)
  /-- `OUTPUT_REACQUIRE` (R87): Returns output time to ACQUIRE at the next boundary. -/
  | outputReacquire (x : Nat) (r : Requester) (v : Nat)
  /-- `OUTPUT_DOMAIN_WRITE` (R89): Selects the output domain from the next boundary. -/
  | outputDomainWrite (x : Nat) (r : Requester) (v : Nat)
  /-- `PROFILE_PRESET` (R105): Sets a domain's entries to a preset. -/
  | profilePreset (x : Nat) (r : Requester) (d : Nat) (v : Nat)
  /-- `STORE_IMAGE` (R550): Starts storing the active dictionary to flash. -/
  | storeImage (x : Nat) (r : Requester) (v : Nat)
  /-- `STORE_COMPLETE` (R550): The flash store ends as stored or failed. -/
  | storeComplete (x : Nat) (ok : Bool)
  /-- `L2_INSERT` (R189): Inserts an L2 row in masked pipelines. -/
  | l2Insert (x : Nat) (r : Requester) (data : Nat)
  /-- `L2_DELETE` (R189): Removes an L2 key from masked pipelines. -/
  | l2Delete (x : Nat) (r : Requester) (data : Nat)
  /-- `L2_QUERY` (R189): Returns each pipeline's row for a key. -/
  | l2Query (x : Nat) (r : Requester) (key : Nat)
  /-- `L2_FLUSH` (R189): Starts removing learned L2 entries. -/
  | l2Flush (x : Nat) (r : Requester) (v : Nat)
  /-- `L2_FLUSH_COMPLETE` (R189): The flush ends and L2FlushBusy clears. -/
  | l2FlushComplete (x : Nat)
  /-- `EM_INSERT` (R199): Inserts an exact-match entry, moving entries if needed. -/
  | emInsert (x : Nat) (r : Requester) (data : Nat)
  /-- `EM_DELETE` (R199): Removes an exact-match key. -/
  | emDelete (x : Nat) (r : Requester) (key : Nat)
  /-- `EM_QUERY` (R199): Returns an exact-match row. -/
  | emQuery (x : Nat) (r : Requester) (key : Nat)
  /-- `DEEP_INSERT` (R208): Issues a deep-table insert through the paddock. -/
  | deepInsert (x : Nat) (r : Requester) (data : Nat)
  /-- `DEEP_DELETE` (R208): Issues a deep-table delete through the paddock. -/
  | deepDelete (x : Nat) (r : Requester) (data : Nat)
  /-- `DEEP_QUERY` (R375): Issues a deep-table read through the paddock. -/
  | deepQuery (x : Nat) (r : Requester) (data : Nat)
  /-- `PADDOCK_COMPLETE` (R386): Settles a SERVICE operation with a verdict. -/
  | paddockComplete (x : Nat) (r : Requester) (data : Nat)
  /-- `STREAM_UNBLOCK` (R311): Clears stream BLOCKED latches. -/
  | streamUnblock (x : Nat) (r : Requester) (v : Nat)
  /-- `GATE_UNLATCH` (R311): Clears gate latches. -/
  | gateUnlatch (x : Nat) (r : Requester) (v : Nat)
  /-- `HISTOGRAM_CLEAR` (R313): Clears histogram rows at the next boundary. -/
  | histogramClear (x : Nat) (r : Requester) (v : Nat)
  /-- `QUEUE_HIGH_WATER_CLEAR` (R281): Resets HIGH_WATER to OCC. -/
  | queueHighWaterClear (x : Nat) (r : Requester) (v : Nat)
  /-- `YARD_EVENT_PUSH` (R344): Queues a one-shot pulse on a line. -/
  | yardEventPush (x : Nat) (r : Requester) (line : Nat) (tick : Nat) (offq : Nat) (width : Nat)
  /-- `YARD_EVENT_FLUSH` (R344): Empties a line's event queue. -/
  | yardEventFlush (x : Nat) (r : Requester) (line : Nat)
  /-- `YARD_SAFE_REQUEST` (R353): Puts the yard in its safe state. -/
  | yardSafeRequest (x : Nat) (r : Requester) (v : Nat)
  /-- `YARD_SAFE_RELEASE` (R353): Releases the safe state at the next boundary. -/
  | yardSafeRelease (x : Nat) (r : Requester) (v : Nat)
  /-- `TC_LOOP_WORD` (R465): A tick-core pair stages one loop word for tick n + 1. -/
  | tcLoopWord (x : Nat) (pair : Nat) (w : BitVec 64)
  /-- `TC_LOOP_DONE` (R465): A tick-core pair completes tick n + 1 for named ports. -/
  | tcLoopDone (x : Nat) (pair : Nat) (mask : BitVec 32)
  /-- `MIRROR_RESYNC` (R405): Starts resending learned entries and recovery state to the mate. -/
  | mirrorResync (x : Nat) (r : Requester) (v : Nat)
  /-- `MIRROR_RESYNC_DONE` (R405): The resync's last record is sent and MirrorState settles. -/
  | mirrorResyncDone (x : Nat)
  /-- `TAKEOVER_ARM` (R409): Arms or disarms the takeover. -/
  | takeoverArm (x : Nat) (r : Requester) (v : Nat)
  /-- `OWN_CLAIM` (R407): Starts claiming shared wiring. -/
  | ownClaim (x : Nat) (r : Requester) (v : Nat)
  /-- `OWN_RELEASE` (R407): Gives up shared wiring at the next boundary. -/
  | ownRelease (x : Nat) (r : Requester) (v : Nat)
  /-- `OWN_GNT_HIGH` (R407): The mate's claim rises; member B yields. -/
  | ownGntHigh (x : Nat)
  /-- `OWN_SETTLE_EXPIRY` (R407): OWN_GNT stays low for OwnSettleNs and the member becomes OWNER. -/
  | ownSettleExpiry (x : Nat)
  /-- `YIELD_COMPLETE` (R407): 200 ns after yielding the member drops OWN_REQ. -/
  | yieldComplete (x : Nat)
  /-- `TETHER_FRAME_RECEIVE` (R399): A tether frame is deduplicated, ordered and its records applied. -/
  | tetherFrameReceive (x : Nat) (path : Nat) (pdu : Bytes)
  /-- `TETHER_GAP_TIMEOUT` (R399): A frame waiting for a missing predecessor is applied after 2 µs. -/
  | tetherGapTimeout (x : Nat)
  /-- `HEARTBEAT` (R398): A HEARTBEAT record marks the tether path alive or reveals a role conflict. -/
  | heartbeat (x : Nat) (path : Nat) (role : Nat) (body : Bytes)
  /-- `TETHER_L2` (R403): An L2 record installs a learned entry at the mate. -/
  | tetherL2 (x : Nat) (body : Bytes)
  /-- `TETHER_RECOVERY` (R403): A RECOVERY record updates the recovery shadow. -/
  | tetherRecovery (x : Nat) (body : Bytes)
  /-- `TETHER_DICT` (R404): A DICT record's operations execute as master 0x30. -/
  | tetherDict (x : Nat) (body : Bytes)
  /-- `TETHER_SETPOINT` (R403): A SETPOINT record updates mirrored word state. -/
  | tetherSetpoint (x : Nat) (body : Bytes)
  /-- `TETHER_SERVO` (R403): A SERVO record updates MateServo and PairTickSkew. -/
  | tetherServo (x : Nat) (body : Bytes)
  /-- `PAIR_HB_IN_TOGGLE` (R401): A toggle on PAIR_HB_IN marks the sideband path alive. -/
  | pairHbInToggle (x : Nat)
  /-- `ENUM` (R416): A cascade ENUM assigns positions. -/
  | enum (x : Nat) (f : CascFrame)
  /-- `ENUM_RETRY` (R416): The master resends ENUM every 10 ms until READY. -/
  | enumRetry (x : Nat)
  /-- `IMAGE` (R415): A cascade IMAGE part is received. -/
  | image (x : Nat) (f : CascFrame)
  /-- `IMAGE_END` (R418): A cascade image is checked against IMAGE_END. -/
  | imageEnd (x : Nat) (f : CascFrame)
  /-- `CASCADE_IMAGE_APPLIED` (R418): A target finishes applying an image and reports STATUS. -/
  | cascadeImageApplied (x : Nat)
  /-- `STATUS` (R417): A slave STATUS reaches CascadeReplies. -/
  | status (x : Nat) (f : CascFrame)
  /-- `DICT` (R417): A slave executes cascade DICT records as master 0x31. -/
  | dict (x : Nat) (f : CascFrame)
  /-- `DICT_RESP` (R417): A DICT_RESP reaches CascadeReplies. -/
  | dictResp (x : Nat) (f : CascFrame)
  /-- `TEST` (R420): A target starts a lane pattern test. -/
  | test (x : Nat) (f : CascFrame)
  /-- `CASCADE_TEST_DONE` (R420): DURATION_MS ends and the result is sent. -/
  | cascadeTestDone (x : Nat) (results : List Nat)
  /-- `TEST_RESULT` (R417): A TEST_RESULT reaches CascadeReplies. -/
  | testResult (x : Nat) (f : CascFrame)
  /-- `RESET` (R415): A cascade RESET restarts its targets. -/
  | reset (x : Nat) (f : CascFrame)
  /-- `CASCADE_SEND` (R417): The master sends a frame written by the host or firmware. -/
  | cascadeSend (x : Nat) (r : Requester) (data : Bytes)
  /-- `CASCADE_CLOCK_LOSS` (R420): Clock or data is lost; CascadeState goes DOWN or role becomes none. -/
  | cascadeClockLoss (x : Nat)
  /-- `CASCADE_BOOT_WAIT_EXPIRY` (R419): No valid cascade image arrives and the slave starts from defaults. -/
  | cascadeBootWaitExpiry (x : Nat)
  /-- `DEEP_SEARCH_COMPLETE` (R384): A deep search finishes and its slot becomes DONE. -/
  | deepSearchComplete (x : Nat) (slot : Nat) (ecc : EccResult)
  /-- `DEEP_LEARN_COMPLETE` (R208): A deep learn sets HIT, moves or inserts. -/
  | deepLearnComplete (x : Nat) (slot : Nat)
  /-- `DEEP_ACCESS_COMPLETE` (R384): A master's deep write, read or bulk operation finishes. -/
  | deepAccessComplete (x : Nat) (acc : SlotRead)
  /-- `REQUEST_QUEUE_ALLOCATE` (R381): A waiting request operation takes a freed slot. -/
  | requestQueueAllocate (x : Nat)
  /-- `REQUEST_QUEUE_TIMEOUT` (R381): A waiting operation times out with TIMEOUT. -/
  | requestQueueTimeout (x : Nat)
  /-- `PADDOCK_OP_TIMEOUT` (R390): An ACTIVE operation reaches OpTimeoutUs and becomes DONE. -/
  | paddockOpTimeout (x : Nat) (slot : Nat)
  /-- `PADDOCK_RELEASE` (R389): DONE operations are released in source order. -/
  | paddockRelease (x : Nat)
  /-- `PADDOCK_REENTRY` (R383): A released frame re-enters its pipeline on port 100. -/
  | paddockReentry (x : Nat) (pl : Nat)
  /-- `DEVICE_RESET` (R436): The device restarts as from supplies valid. -/
  | deviceReset (x : Nat) (m : Nat) (key : Nat)
  /-- `MGMT_RESET` (R436): M0–M3 reset and restart. -/
  | mgmtReset (x : Nat) (m : Nat) (key : Nat)
  /-- `TICK_CORE_RESET` (R436): T0–T7 reset. -/
  | tickCoreReset (x : Nat) (m : Nat) (key : Nat)
  /-- `YARD_SAFE_REQ` (R435): HB_CTRL bit requests the yard safe state. -/
  | yardSafeReq (x : Nat) (m : Nat) (key : Nat)
  /-- `YARD_SAFE_REL` (R435): HB_CTRL bit releases the yard safe state. -/
  | yardSafeRel (x : Nat) (m : Nat) (key : Nat)
  /-- `HOST_RESET` (R435): HB_CTRL bit resets the host function as FLR. -/
  | hostReset (x : Nat) (m : Nat) (key : Nat)
  /-- `DMA_QUIESCE` (R435): Stops or resumes rings starting descriptors. -/
  | dmaQuiesce (x : Nat) (m : Nat) (on : Bool)
  /-- `PE_PERST` (R431): PE_PERST_N causes a conventional reset of the host function. -/
  | pePerst (x : Nat)
  /-- `HOT_RESET` (R431): A hot reset or link down resets the host function as FLR. -/
  | hotReset (x : Nat)
  /-- `FLR` (R431): Function Level Reset returns the host function to reset values. -/
  | flr (x : Nat)
  /-- `D3HOT_ENTRY` (R431): D3hot stops DMA and MSI-X. -/
  | d3hotEntry (x : Nat)
  /-- `D0_RETURN` (R431): Return to D0 resumes the rings from HEAD. -/
  | d0Return (x : Nat)
  /-- `HB_TIME_LATCH` (R437): Latches output time and the raw counter. -/
  | hbTimeLatch (x : Nat) (m : Nat) (v : BitVec 32)
  /-- `CAP_REARM` (R438): Clears capture VALID and MORE. -/
  | capRearm (x : Nat) (m : Nat)
  /-- `FAULT_N_RELEASE` (R532): Releases FAULT_N now or when its width ends. -/
  | faultNRelease (x : Nat) (m : Nat)
  /-- `HB_REGISTER_WRITE` (R432): A write to a BAR0 register without its own row. -/
  | hbRegisterWrite (x : Nat) (m : Nat) (off : Nat) (size : Nat) (v : Nat)
  /-- `MBX_TX` (R440): Posts one mailbox word. -/
  | mbxTx (x : Nat) (m : Nat) (ch : Nat) (v : BitVec 32)
  /-- `MBX_RX_DATA` (R440): Reads and removes the head mailbox word. -/
  | mbxRxData (x : Nat) (m : Nat) (ch : Nat)
  /-- `MBX_RX_STAMP_DATA` (R440): A 64-bit read returns stamp and data of one word and removes it. -/
  | mbxRxStampData (x : Nat) (m : Nat) (ch : Nat)
  /-- `HB_SEM_ACQUIRE` (R445): A read of HB_SEM attempts to acquire a semaphore. -/
  | hbSemAcquire (x : Nat) (m : Nat) (sem : Nat)
  /-- `HB_SEM_RELEASE` (R445): A write releases a held semaphore. -/
  | hbSemRelease (x : Nat) (m : Nat) (sem : Nat) (v : BitVec 32)
  /-- `HB_DB_SET` (R444): Rings doorbells. -/
  | hbDbSet (x : Nat) (m : Nat) (v : BitVec 64)
  /-- `HB_DB_CLR` (R444): Clears doorbells. -/
  | hbDbClr (x : Nat) (m : Nat) (v : BitVec 64)
  /-- `RING_ENABLE` (R447): Enables a DMA ring with HEAD 0. -/
  | ringEnable (x : Nat) (ring : Nat) (v : BitVec 32)
  /-- `RING_DISABLE` (R447): Finishes the entry in progress and stops a ring. -/
  | ringDisable (x : Nat) (ring : Nat)
  /-- `RING_TAIL_WRITE` (R447): Hands entries to the device. -/
  | ringTailWrite (x : Nat) (ring : Nat) (v : BitVec 32)
  /-- `PUNT_RECORD_WRITE` (R448): A punt record is written to host buffers. -/
  | puntRecordWrite (x : Nat) (ring : Nat)
  /-- `INJECT_DESCRIPTOR` (R452): An inject descriptor completes an operation and/or injects a frame. -/
  | injectDescriptor (x : Nat) (ring : Nat) (desc : BitVec 256) (frame : Option Bytes)
  /-- `NOTIFY_RING_WRITE` (R453): A NOTIFY record is written to the notification ring. -/
  | notifyRingWrite (x : Nat)
  /-- `MSIX_MESSAGE` (R454): A vector's cause bit rises and its message is sent. -/
  | msixMessage (x : Nat) (v : Nat)
  /-- `MSIX_HOLDOFF_EXPIRY` (R454): A ring vector's holdoff ends and its message is sent. -/
  | msixHoldoffExpiry (x : Nat) (v : Nat)
  /-- `BAR2_READ` (R455): A host read of HBM through BAR2. -/
  | bar2Read (x : Nat) (off : Nat) (len : Nat) (ecc : EccResult)
  /-- `BAR2_WRITE` (R455): A host write of HBM through BAR2. -/
  | bar2Write (x : Nat) (off : Nat) (data : Bytes)
  /-- `SWAP_PREPARE` (R475): Starts loading the standby image. -/
  | swapPrepare (x : Nat) (r : Requester) (v : Nat)
  /-- `SWAP_PREPARE_DONE` (R475): The standby image is loaded and checked: PREPARED or FAILED. -/
  | swapPrepareDone (x : Nat) (image : Bytes)
  /-- `SWAP_REQUEST` (R475): Arms a swap for tick m. -/
  | swapRequest (x : Nat) (r : Requester) (tick : Nat)
  /-- `SWAP_HANDOFF_INTERRUPT` (R475): At boundary m − 1 the handoff interrupt is raised. -/
  | swapHandoffInterrupt (x : Nat)
  /-- `HANDOFF_READY` (R475): Firmware marks the handoff block complete. -/
  | handoffReady (x : Nat) (r : Requester) (v : Nat) (block : Bytes)
  /-- `SWAP_EXECUTE` (R475): At boundary m cores restart in standby memory or the swap is abandoned. -/
  | swapExecute (x : Nat)
  /-- `BANK_CONFIRM` (R476): Makes the trial bank the confirmed bank. -/
  | bankConfirm (x : Nat) (r : Requester) (v : Nat)
  /-- `FIRMWARE_BANK_WRITE` (R474): Receives a bank image by bulk write, stores and checks it. -/
  | firmwareBankWrite (x : Nat) (r : Requester) (bank : Nat) (off : Nat) (total : Nat) (data : Bytes)
  /-- `KEY_REVOKE` (R471): Revokes a firmware key slot. -/
  | keyRevoke (x : Nat) (r : Requester) (slot : Nat)
  /-- `ROLLBACK_COMMIT` (R472): Raises the rollback level by blowing fuses. -/
  | rollbackCommit (x : Nat) (r : Requester) (level : Nat)
  /-- `LOOP_RESUME` (R467): Resumes suspended loops at the next boundary. -/
  | loopResume (x : Nat) (r : Requester) (pair : Nat) (v : Nat)
  /-- `TICK_CORE_MISMATCH` (R460): Lockstep outputs differ; the pair is stopped and restarted. -/
  | tickCoreMismatch (x : Nat) (pair : Nat)
  /-- `MGMT_WATCHDOG_EXPIRY` (R533): WdMgmtMs passes without a kick; M0–M3 stop. -/
  | mgmtWatchdogExpiry (x : Nat)
  /-- `MGMT_WATCHDOG_RESTART` (R533): 10 ms after expiry the device performs MGMT_RESET if allowed. -/
  | mgmtWatchdogRestart (x : Nat)
  /-- `WD_MGMT_KICK` (R533): Restarts the management watchdog. -/
  | wdMgmtKick (x : Nat) (r : Requester) (v : Nat)
  /-- `TICK_CORE_WATCHDOG_EXPIRY` (R534): WdTickTicks pass without a kick; the pair is restarted. -/
  | tickCoreWatchdogExpiry (x : Nat) (pair : Nat)
  /-- `WD_TICK_KICK` (R534): Arms or restarts a tick-core watchdog. -/
  | wdTickKick (x : Nat) (r : Requester) (pair : Nat) (v : Nat)
  /-- `HOST_WATCHDOG_EXPIRY` (R535): HostWdTicks pass without a host access. -/
  | hostWatchdogExpiry (x : Nat)
  /-- `HBM_RETRAIN` (R483): Runs the training sequence again. -/
  | hbmRetrain (x : Nat) (r : Requester) (v : Nat)
  /-- `HBM_OFFLINE` (R483): Takes HBM out of service into self-refresh. -/
  | hbmOffline (x : Nat) (r : Requester) (v : Nat)
  /-- `HBM_TRAINING_DONE` (R483): Training ends: regions initialised or kept and READY, or FAILED. -/
  | hbmTrainingDone (x : Nat) (results : List Nat) (failing : Option Nat) (stored : Bool) (timeUs : Nat)
  /-- `SET_DELAYS` (R486): Firmware sets a pseudo-channel's training delays. -/
  | setDelays (x : Nat) (r : Requester) (cmd : BitVec 192)
  /-- `WRITE_PATTERN` (R486): Writes a pattern to a pseudo-channel. -/
  | writePattern (x : Nat) (r : Requester) (cmd : BitVec 192)
  /-- `READ_COMPARE` (R486): Reads and compares a pattern. -/
  | readCompare (x : Nat) (r : Requester) (cmd : BitVec 192) (failBlocks : Nat) (failBits : Nat)
  /-- `WRITE_THEN_COMPARE` (R486): Writes then compares a pattern. -/
  | writeThenCompare (x : Nat) (r : Requester) (cmd : BitVec 192) (failBlocks : Nat) (failBits : Nat)
  /-- `HBM_TRAIN_END` (R486): Ends firmware-driven training, proceeding to READY or FAILED. -/
  | hbmTrainEnd (x : Nat) (r : Requester) (cmd : BitVec 192)
  /-- `HBM_TRAIN_SESSION_TIMEOUT` (R486): No command for 1 s ends the training session. -/
  | hbmTrainSessionTimeout (x : Nat)
  /-- `HBM_RETRAIN_SLICE` (R489): A pseudo-channel's periodic retraining slice adjusts delays. -/
  | hbmRetrainSlice (x : Nat) (pc : Nat) (rdEye : Nat) (wrEye : Nat) (rdStep : Int) (wrStep : Int)
  /-- `HBM_REFRESH` (R487): A bank's refresh falls due and is made. -/
  | hbmRefresh (x : Nat) (pc : Nat) (bank : Nat) (postpone : Bool)
  /-- `HBM_TEMP_READ` (R487): Stack temperatures are read every 1 ms. -/
  | hbmTempRead (x : Nat) (t0 : Int) (t1 : Int)
  /-- `HBM_SELF_REFRESH_ENTRY` (R488): An idle pseudo-channel enters self-refresh. -/
  | hbmSelfRefreshEntry (x : Nat) (pc : Nat)
  /-- `HBM_SELF_REFRESH_WAKE` (R488): An access wakes a pseudo-channel from self-refresh. -/
  | hbmSelfRefreshWake (x : Nat) (pc : Nat)
  /-- `HBM_PATROL_READ` (R490): The patrol reads an address and corrects or reports errors. -/
  | hbmPatrolRead (x : Nat) (addr : Nat) (ecc : EccResult)
  /-- `HBM_ROW_REPAIR` (R493): A row reaching the threshold is soft-repaired. -/
  | hbmRowRepair (x : Nat) (pc : Nat) (bank : Nat) (row : Nat)
  /-- `BUFFER_CELL_PATROL` (R492): A free cell is tested and replaced on failure. -/
  | bufferCellPatrol (x : Nat) (cell : Nat) (bad : Bool)
  /-- `ALLOC` (R498): Allocates a pool buffer. -/
  | alloc (x : Nat) (r : Requester) (flags : Nat) (size : Nat)
  /-- `FREE` (R500): Frees a pool buffer. -/
  | free (x : Nat) (r : Requester) (handle : Nat)
  /-- `SHARE` (R499): Sets a buffer's owner set. -/
  | share (x : Nat) (r : Requester) (handle : Nat) (owners : Nat)
  /-- `RELEASE` (R499): Removes an owner from a shared set. -/
  | release (x : Nat) (r : Requester) (handle : Nat)
  /-- `QUERY` (R497): Returns a buffer's state. -/
  | query (x : Nat) (r : Requester) (handle : Nat)
  /-- `RECLAIM` (R501): Removes a master from every owner set, freeing its sole buffers. -/
  | reclaim (x : Nat) (r : Requester) (master : Nat)
  /-- `FAULT_RAISE` (R528): A fault is counted, captured, logged and reacted to. -/
  | faultRaise (x : Nat) (rep : Option FaultReport)
  /-- `FAULT_N_WIDTH_END` (R532): FAULT_N's minimum width ends; a waiting release takes effect. -/
  | faultNWidthEnd (x : Nat)
  /-- `INTERNAL_BUS_TIMEOUT` (R530): An interconnect access exceeds 100 µs and is ended. -/
  | internalBusTimeout (x : Nat) (m : Nat) (addr : Nat) (access : BusAccess)
  /-- `FAULT_N_RELEASE_ENTRY` (R532): FaultNRelease dictionary write releases FAULT_N. -/
  | faultNReleaseEntry (x : Nat) (r : Requester) (v : Nat)
  /-- `FAULT_CLASS_CLEAR` (R539): Clears CLASS_SEEN bits. -/
  | faultClassClear (x : Nat) (r : Requester) (v : Nat)
  /-- `CAPTURE_REARM` (R529): Dictionary write clearing capture VALID and MORE. -/
  | captureRearm (x : Nat) (r : Requester) (v : Nat)
  /-- `PORT_SHUT_CLEAR` (R527): Ends a port shut; the port restarts from DOWN. -/
  | portShutClear (x : Nat) (r : Requester) (v : Nat)
  /-- `SHED_REQUEST` (R552): Enters shed mode. -/
  | shedRequest (x : Nat) (r : Requester) (v : Nat)
  /-- `SHED_EXIT` (R554): Starts leaving shed mode. -/
  | shedExit (x : Nat) (r : Requester) (v : Nat)
  /-- `SHED_AUTO_EXIT` (R554): 10 s cool after a thermal entry starts shed exit. -/
  | shedAutoExit (x : Nat)
  /-- `SHED_RESTORE_DONE` (R554): Restore ends; PowerMode returns to RUN. -/
  | shedRestoreDone (x : Nat)
  /-- `STABLED_REQUEST` (R555): Requests stabled mode by write. -/
  | stabledRequest (x : Nat) (r : Requester) (v : Nat)
  /-- `STABLE_REQ_PIN` (R555): AON_STABLE_REQ_N low for 1 ms requests stabled mode. -/
  | stableReqPin (x : Nat)
  /-- `STABLED_ENTRY` (R555): After words reach SAFE or the ramp limit, transfers stop and domains power off. -/
  | stabledEntry (x : Nat)
  /-- `AON_COMPARATOR_SAMPLE` (R556): A comparator samples its input every 40 µs. -/
  | aonComparatorSample (x : Nat) (c : Nat) (mv : Nat)
  /-- `TIME_ALARM_FIRE` (R556): A time alarm reaches its time. -/
  | timeAlarmFire (x : Nat) (a : Nat)
  /-- `LINK_ENERGY_DETECT` (R557): Energy on a field lane persists for LinkEnergyUs. -/
  | linkEnergyDetect (x : Nat) (lane : Nat) (us : Nat)
  /-- `STABLE_REQ_RELEASE` (R557): AON_STABLE_REQ_N high for 1 ms is a wake cause. -/
  | stableReqRelease (x : Nat)
  /-- `WAKE` (R557): An enabled wake cause drives AON_WAKE_N and starts the device. -/
  | wake (x : Nat) (cause : Nat)
  /-- `THERMAL_SAMPLE` (R558): Sensors are read and ThrottleLevel set. -/
  | thermalSample (x : Nat) (temps : List Int)
  /-- `AVS_UPDATE` (R560): The core voltage target is computed and requested. -/
  | avsUpdate (x : Nat) (correctionMv : Int) (measuredMv : Nat) (ok : Bool)
  /-- `AVS_RETRY` (R560): A failed AVSBus transaction is retried after 1 ms. -/
  | avsRetry (x : Nat) (measuredMv : Nat) (ok : Bool)
  /-- `PPS_OUT_PULSE_END` (R108): OutWidth after its rising edge, a PPS output returns low. -/
  | ppsOutPulseEnd (x : Nat) (i : Nat)
  /-- `PLL_REF_LOCK` (R106): The core timing PLL locks on its selected reference, or regains it after a loss, and PllState moves to locked. -/
  | pllRefLock (x : Nat)
  /-- `REF_OFFSET_MEASUREMENT` (R107): Each one-second measurement of the selected reference against the AON crystal updates RefOffsetPpb once eight exist after lock. -/
  | refOffsetMeasurement (x : Nat) (ppb : Int)
  /-- `OWN_GNT_LOW` (R407): The mate's claim on OWN_GNT falls, starting the OwnSettleNs interval of a claiming member. -/
  | ownGntLow (x : Nat)
  /-- `PCIE_LINK_UP` (R429): The PCI Express link completes training after PE_PERST_N is released and LinkStatus takes its width and speed. -/
  | pcieLinkUp (x : Nat) (width : Nat) (speed : Nat)
  /-- `HB_REGISTER_READ` (R432): A host or firmware read of a BAR0 register with side effects, such as latching the high half of a 64-bit register or restarting the host watchdog. -/
  | hbRegisterRead (x : Nat) (m : Nat) (off : Nat) (size : Nat)
  /-- `TAP_CLOCK` (R585): A TCK edge, with TMS, TDI and TRST_N, steps the IEEE 1149.1 test access port and its instruction and boundary registers. -/
  | tapClock (rising : Bool) (tms : Bool) (tdi : Bool) (trstN : Bool) (pins : BitVec 337)
  /-- `CLASSICAL_CAN_FRAME` (R63): A classical CAN frame, remote frame, or CAN FD frame with a data length below 64 bytes reaches an agent and is ignored and counted in SegmentErrors. -/
  | classicalCanFrame (x : Nat) (bus : CanId)
  /-- `REMOTE_FAULT_END` (R122): A received remote fault sequence ends and the UP port resumes frame transmission. -/
  | remoteFaultEnd (x : Nat) (p : Nat)
  /-- `SIGNAL_LOSS` (R121): An enabled port in NEGOTIATING or TRAINING loses signal and returns to DOWN. -/
  | signalLoss (x : Nat) (p : Nat)
  /-- `LANE_EYE_MARGIN_UPDATE` (R495): Every 100 ms each lane's eye monitor updates its LaneEyeMargin row. -/
  | laneEyeMarginUpdate (x : Nat) (lane : Nat) (hMui : Nat) (vMv : Nat)
  deriving DecidableEq, Repr

end Sys2Proof
end

