-- ==== Sys2Proof/Config.lean ====
section
/-!
DEFINITION. What the spec leaves to the unit, the board, a cryptographic standard or nobody: constants with no body. A claim
about the model holds whatever they are. Each is named in a log entry (notes/assumptions).
-/
namespace Sys2Proof.Config

/-- A value the spec leaves open (log 3): State.frees counts the values taken, and the n-th is `freeValue n`. -/
opaque freeValue : Nat → Nat

/-- What an HBM byte that nothing has written reads as (R485; log 8). -/
opaque hbmFree : Nat → BitVec 8

/-- SiliconStep (R69), fused (log 4). -/
opaque siliconStep : BitVec 16

/-- UniqueId (R69), fused (log 4). -/
opaque uniqueId : BitVec 64

/-- AvsFusedMv (R562), fused (log 4). -/
opaque avsFusedMv : BitVec 16

/-- The public key of firmware key slot k (R471), fused: 96 bytes (log 4). -/
opaque keySlotPublic : Nat → Bytes

/-- The status of firmware key slot k as the unit is delivered: 0 blank, 1 enabled, 2 revoked (R471; log 4). -/
opaque keySlotStatus : Nat → Nat

/-- The fused rollback level as the unit is delivered (R472; log 4). -/
opaque rollbackLevel : Nat

/-- Hard repairs made over the life of pseudo-channel pc's stack, read from the stack (R493; log 4). -/
opaque hardRepairsUsed : Nat → Nat

/-- Hard repairs still available in pseudo-channel pc, read from the stack (R493; log 4). -/
opaque hardRepairsLeft : Nat → Nat

/-- Hard repairs that bank b (PC * 32 + bank) has left as the unit is delivered, read from the stack (R493; log 4). -/
opaque bankRepairsLeft : Nat → Nat

/-- The identifier read from stack s (R484; log 4). -/
opaque stackId : Nat → BitVec 64

/-- The n-th output of the hardware random bit generator of R53 (NIST SP 800-90A), 16 bytes where it is a nonce (log 4). -/
opaque drbg : Nat → Bytes

/-- The offset of the device's session IDs (R53 leaves the choice open but for 0 and reuse; log 9). -/
opaque sessionSalt : Nat

/-- The first index of the layout area 0x0040 to 0x00FF that a row layout takes (R34 leaves the numbering open; log 10). -/
opaque layoutSalt : Nat

/-- AES-256-GCM encryption (R52): key, nonce, additional data, plaintext; ciphertext then a 16-byte tag (log 4). -/
opaque gcmSeal : Bytes → Bytes → Bytes → Bytes → Bytes

/-- AES-256-GCM decryption (R52): key, nonce, additional data, ciphertext, tag; none where the tag fails (log 4). -/
opaque gcmOpen : Bytes → Bytes → Bytes → Bytes → Bytes → Option Bytes

/-- HMAC-SHA-384 (R53): key and message (log 4). -/
opaque hmacSha384 : Bytes → Bytes → Bytes

/-- SHA-384 (R468; log 4). -/
opaque sha384 : Bytes → Bytes

/-- ECDSA P-384 verification (R470): public key, digest, signature (log 4). -/
opaque ecdsaVerify : Bytes → Bytes → Bytes → Bool

/-- The device key of R549 (log 4). -/
opaque deviceKey : Bytes

end Sys2Proof.Config
end

