-- ==== Sys2Proof/Machine/Bits.lean ====
section
/-!
DEFINITION. Bit fields, two's complement, byte order (R5 to R7) and the finite maps that the state is held in.
A row, a register or a word is a Nat whose bit 0 is the least significant bit.
-/
namespace Sys2Proof.Machine

/-- Bits [hi:lo] of r (R5). -/
def fld (r hi lo : Nat) : Nat := r / 2 ^ lo % 2 ^ (hi + 1 - lo)

/-- r with bits [hi:lo] replaced by v. -/
def setFld (r hi lo v : Nat) : Nat := r - fld r hi lo * 2 ^ lo + v % 2 ^ (hi + 1 - lo) * 2 ^ lo

/-- Bit i of r. -/
def bit (r i : Nat) : Bool := r / 2 ^ i % 2 == 1




/-- r with bit i set to b. -/
def setBit (r i : Nat) (b : Bool) : Nat := setFld r i i b.toNat

/-- The two's complement number that the low w bits of n spell. -/
def sgn (w n : Nat) : Int := if n % 2 ^ w < 2 ^ (w - 1) then (n % 2 ^ w : Int) else (n % 2 ^ w : Int) - 2 ^ w

/-- The low w bits of an integer. -/
def enc (w : Nat) (i : Int) : Nat := (i % 2 ^ w).toNat

/-- i held between lo and hi. -/
def clampInt (i lo hi : Int) : Int := max lo (min hi i)

/-- Absolute difference of two naturals. -/
def absDiff (a b : Nat) : Nat := (a - b) + (b - a)

/-- Division rounded up. -/
def cdiv (a b : Nat) : Nat := (a + b - 1) / b

/-- Division rounded to nearest, halves up. -/
def rdiv (a b : Nat) : Nat := (2 * a + b) / (2 * b)

/-- The low len bytes of n, most significant first (R7, on the wire and in the dictionary). -/
def toBE : Nat → Nat → Bytes
  | 0, _ => []
  | len + 1, n => BitVec.ofNat 8 (n / 256 ^ len) :: toBE len n

/-- The number that bytes spell, most significant first. -/
def fromBE (b : Bytes) : Nat := b.foldl (fun a x => a * 256 + x.toNat) 0

/-- The low len bytes of n, least significant first (R7, over PCIe). -/
def toLE (len n : Nat) : Bytes := (toBE len n).reverse

/-- The number that bytes spell, least significant first. -/
def fromLE (b : Bytes) : Nat := fromBE b.reverse

/-- n bytes of b from offset off; bytes beyond the end are absent. -/
def slice (b : Bytes) (off n : Nat) : Bytes := (b.drop off).take n

/-- The number in n bytes of b at offset off, most significant first; bytes beyond the end read as 0. -/
def beAt (b : Bytes) (off n : Nat) : Nat :=
  let s := slice b off n
  fromBE s * 256 ^ (n - s.length)

/-- b with the bytes v written at offset off (b is lengthened with zeros where it is too short). -/
def patch (b : Bytes) (off : Nat) (v : Bytes) : Bytes :=
  let p := b ++ List.replicate (off - b.length) 0
  p.take off ++ v ++ p.drop (off + v.length)

/-- b cut or padded with zeros to n bytes. -/
def fitBytes (n : Nat) (b : Bytes) : Bytes := (b ++ List.replicate (n - b.length) 0).take n

end Sys2Proof.Machine

namespace Sys2Proof

/-- The value at key k. -/
def FMap.get? {α : Type} (k : Nat) : FMap α → Option α
  | [] => none
  | (k', v) :: m => if k = k' then some v else if k < k' then none else FMap.get? k m

/-- The value at key k, or d. -/
def FMap.getD {α : Type} (m : FMap α) (k : Nat) (d : α) : α := (FMap.get? k m).getD d

/-- m with v at key k, keys kept in rising order. -/
def FMap.set {α : Type} (k : Nat) (v : α) : FMap α → FMap α
  | [] => [(k, v)]
  | (k', v') :: m =>
    if k < k' then (k, v) :: (k', v') :: m
    else if k = k' then (k, v) :: m
    else (k', v') :: FMap.set k v m

/-- m without key k. -/
def FMap.erase {α : Type} (k : Nat) (m : FMap α) : FMap α := m.filter fun e => e.1 != k

/-- The keys from lo to hi - 1 with their values. -/
def FMap.between {α : Type} (m : FMap α) (lo hi : Nat) : FMap α := m.filter fun e => decide (lo ≤ e.1 ∧ e.1 < hi)

end Sys2Proof
end

