-- ==== Sys2Proof/Machine/Keys.lean ====
section
/-!
DEFINITION. The names of the object dictionary: the key (index * 256 + sub-index, R31) of every scalar, STR and DOMAIN entry and
the index of every TABLE. Made from the entry tables of the spec's chapters; the rule that gives each entry stands beside it.
-/
namespace Sys2Proof.Machine
namespace E

/-- VendorName (R69). -/
def VendorName : Nat := 0x10001
/-- DeviceName (R69). -/
def DeviceName : Nat := 0x10002
/-- OrderingCode (R69). -/
def OrderingCode : Nat := 0x10003
/-- SiliconStep (R69). -/
def SiliconStep : Nat := 0x10004
/-- UniqueId (R69). -/
def UniqueId : Nat := 0x10005
/-- DictionaryVersion (R69). -/
def DictionaryVersion : Nat := 0x10006
/-- ImageVersion (R69). -/
def ImageVersion : Nat := 0x10007
/-- FirmwareVersion (R69). -/
def FirmwareVersion : Nat := 0x10008
/-- NodeName (R69). -/
def NodeName : Nat := 0x10009
/-- ExternalPorts (R69). -/
def ExternalPorts : Nat := 0x11001
/-- Pipelines (R69). -/
def Pipelines : Nat := 0x11002
/-- BufferCells (R69). -/
def BufferCells : Nat := 0x11003
/-- HbmBytes (R69). -/
def HbmBytes : Nat := 0x11004
/-- PaddockSlots (R69). -/
def PaddockSlots : Nat := 0x11005
/-- YardLines (R69). -/
def YardLines : Nat := 0x11006
/-- ProcessPorts (R69). -/
def ProcessPorts : Nat := 0x11007
/-- MaxDomainNodes (R69). -/
def MaxDomainNodes : Nat := 0x11008
/-- MaxSessions (R69). -/
def MaxSessions : Nat := 0x11009
/-- MaxSubscriptions (R69). -/
def MaxSubscriptions : Nat := 0x1100A
/-- WindowBytes (R69). -/
def WindowBytes : Nat := 0x1100B
/-- MaxProstaPayload (R69). -/
def MaxProstaPayload : Nat := 0x1100C
/-- DictionarySource (R70). -/
def DictionarySource : Nat := 0x20001
/-- Modified (R70). -/
def Modified : Nat := 0x20002
/-- StoreImage (R70). -/
def StoreImage : Nat := 0x20003
/-- StoreStatus (R70). -/
def StoreStatus : Nat := 0x20004
/-- AccessErrors (R70). -/
def AccessErrors : Nat := 0x20005
/-- ProstaEtherType (R70). -/
def ProstaEtherType : Nat := 0x21001
/-- ProstaEnable (R70). -/
def ProstaEnable : Nat := 0x21002
/-- NodeId (R70). -/
def NodeId : Nat := 0x21003
/-- DefaultHopLimit (R70). -/
def DefaultHopLimit : Nat := 0x21004
/-- ProstaPortsLow (R70). -/
def ProstaPortsLow : Nat := 0x21005
/-- ProstaPortsHigh (R70). -/
def ProstaPortsHigh : Nat := 0x21006
/-- ProstaQueue (R70). -/
def ProstaQueue : Nat := 0x21007
/-- SessionIdleTimeout (R70). -/
def SessionIdleTimeout : Nat := 0x21008
/-- RxDropped (R70). -/
def RxDropped : Nat := 0x21009
/-- AuthFailures (R70). -/
def AuthFailures : Nat := 0x2100A
/-- ReplaysRejected (R70). -/
def ReplaysRejected : Nat := 0x2100B
/-- Unreachable (R70). -/
def Unreachable : Nat := 0x2100C
/-- HopLimitExpired (R70). -/
def HopLimitExpired : Nat := 0x2100D
/-- TransitFrames (R70). -/
def TransitFrames : Nat := 0x2100E
/-- CanEnable (R70), one per instance i. -/
def CanEnable (i : Nat) : Nat := 0x22001 + i * 0x100
/-- CanRequestId (R70), one per instance i. -/
def CanRequestId (i : Nat) : Nat := 0x22002 + i * 0x100
/-- CanResponseId (R70), one per instance i. -/
def CanResponseId (i : Nat) : Nat := 0x22003 + i * 0x100
/-- CanPrivilege (R70), one per instance i. -/
def CanPrivilege (i : Nat) : Nat := 0x22004 + i * 0x100
/-- NominalBitRate (R70), one per instance i. -/
def NominalBitRate (i : Nat) : Nat := 0x22005 + i * 0x100
/-- DataBitRate (R70), one per instance i. -/
def DataBitRate (i : Nat) : Nat := 0x22006 + i * 0x100
/-- SegmentErrors (R70), one per instance i. -/
def SegmentErrors (i : Nat) : Nat := 0x22007 + i * 0x100
/-- SessionKey (R71), sub-index i + 1. -/
def SessionKey (i : Nat) : Nat := 0x30001 + i
/-- KeySlotEnable (R71), sub-index i + 1. -/
def KeySlotEnable (i : Nat) : Nat := 0x30101 + i
/-- KeySlotReadOnly (R71), sub-index i + 1. -/
def KeySlotReadOnly (i : Nat) : Nat := 0x30201 + i
/-- KeySlotOpens (R71), sub-index i + 1. -/
def KeySlotOpens (i : Nat) : Nat := 0x30301 + i
/-- RawCount (R110). -/
def RawCount : Nat := 0x200001
/-- PllRefSelect (R110). -/
def PllRefSelect : Nat := 0x200002
/-- SyncEPort (R110). -/
def SyncEPort : Nat := 0x200003
/-- PllState (R110). -/
def PllState : Nat := 0x200004
/-- RefOffsetPpb (R110). -/
def RefOffsetPpb : Nat := 0x200005
/-- RefLossCount (R110). -/
def RefLossCount : Nat := 0x200006
/-- TimeMessageQueue (R110). -/
def TimeMessageQueue : Nat := 0x205001
/-- TimeEventCount (R110). -/
def TimeEventCount : Nat := 0x206101
/-- DomainState (R111), one per instance i. -/
def DomainState (i : Nat) : Nat := 0x201001 + i * 0x100
/-- DomainTime (R111), one per instance i. -/
def DomainTime (i : Nat) : Nat := 0x201002 + i * 0x100
/-- SetTime (R111), one per instance i. -/
def SetTime (i : Nat) : Nat := 0x201003 + i * 0x100
/-- RateWord (R111), one per instance i. -/
def RateWord (i : Nat) : Nat := 0x201004 + i * 0x100
/-- PhaseAdjust (R111), one per instance i. -/
def PhaseAdjust (i : Nat) : Nat := 0x201005 + i * 0x100
/-- RateStepClamp (R111), one per instance i. -/
def RateStepClamp (i : Nat) : Nat := 0x201006 + i * 0x100
/-- PhaseClamp (R111), one per instance i. -/
def PhaseClamp (i : Nat) : Nat := 0x201007 + i * 0x100
/-- ServoTimeout (R111), one per instance i. -/
def ServoTimeout (i : Nat) : Nat := 0x201008 + i * 0x100
/-- Locked (R111), one per instance i. -/
def Locked (i : Nat) : Nat := 0x201009 + i * 0x100
/-- Reacquire (R111), one per instance i. -/
def Reacquire (i : Nat) : Nat := 0x20100A + i * 0x100
/-- ClampEvents (R111), one per instance i. -/
def ClampEvents (i : Nat) : Nat := 0x20100B + i * 0x100
/-- StepCount (R111), one per instance i. -/
def StepCount (i : Nat) : Nat := 0x20100C + i * 0x100
/-- DomainNumber (R111), one per instance i. -/
def DomainNumber (i : Nat) : Nat := 0x20100D + i * 0x100
/-- MajorSdoId (R111), one per instance i. -/
def MajorSdoId (i : Nat) : Nat := 0x20100E + i * 0x100
/-- Transport (R111), one per instance i. -/
def Transport (i : Nat) : Nat := 0x20100F + i * 0x100
/-- DelayMechanism (R111), one per instance i. -/
def DelayMechanism (i : Nat) : Nat := 0x201010 + i * 0x100
/-- MasterMode (R111), one per instance i. -/
def MasterMode (i : Nat) : Nat := 0x201011 + i * 0x100
/-- OneStep (R111), one per instance i. -/
def OneStep (i : Nat) : Nat := 0x201012 + i * 0x100
/-- SyncIntervalTicks (R111), one per instance i. -/
def SyncIntervalTicks (i : Nat) : Nat := 0x201013 + i * 0x100
/-- DelayReqIntervalTicks (R111), one per instance i. -/
def DelayReqIntervalTicks (i : Nat) : Nat := 0x201014 + i * 0x100
/-- ProfilePreset (R111), one per instance i. -/
def ProfilePreset (i : Nat) : Nat := 0x201015 + i * 0x100
/-- FollowUpMissing (R111), one per instance i. -/
def FollowUpMissing (i : Nat) : Nat := 0x201016 + i * 0x100
/-- OutputDomain (R112). -/
def OutputDomain : Nat := 0x202001
/-- OutputSlewLimit (R112). -/
def OutputSlewLimit : Nat := 0x202002
/-- OutputState (R112). -/
def OutputState : Nat := 0x202003
/-- OutputTime (R112). -/
def OutputTime : Nat := 0x202004
/-- OutputError (R112). -/
def OutputError : Nat := 0x202005
/-- AutoSwitch (R112). -/
def AutoSwitch : Nat := 0x202006
/-- OutputReacquire (R112). -/
def OutputReacquire : Nat := 0x202007
/-- DomainSwitches (R112). -/
def DomainSwitches : Nat := 0x202008
/-- AcqSteps (R112). -/
def AcqSteps : Nat := 0x202009
/-- TickPeriod (R112). -/
def TickPeriod : Nat := 0x203001
/-- TickPhase (R112). -/
def TickPhase : Nat := 0x203002
/-- TickNumber (R112). -/
def TickNumber : Nat := 0x203003
/-- DiscardedByStep (R112). -/
def DiscardedByStep : Nat := 0x203004
/-- OutSource (R112), one per instance i. -/
def OutSource (i : Nat) : Nat := 0x204001 + i * 0x100
/-- OutWidth (R112), one per instance i. -/
def OutWidth (i : Nat) : Nat := 0x204002 + i * 0x100
/-- OutOffset (R112), one per instance i. -/
def OutOffset (i : Nat) : Nat := 0x204003 + i * 0x100
/-- OutGate (R112), one per instance i. -/
def OutGate (i : Nat) : Nat := 0x204004 + i * 0x100
/-- InEnable (R112), one per instance i. -/
def InEnable (i : Nat) : Nat := 0x204005 + i * 0x100
/-- InEdge (R112), one per instance i. -/
def InEdge (i : Nat) : Nat := 0x204006 + i * 0x100
/-- InRatePpb (R112), one per instance i. -/
def InRatePpb (i : Nat) : Nat := 0x204007 + i * 0x100
/-- InMissing (R112), one per instance i. -/
def InMissing (i : Nat) : Nat := 0x204008 + i * 0x100
/-- RoleA (R113), one per instance i. -/
def RoleA (i : Nat) : Nat := 0x210001 + i * 0x100
/-- RoleB (R113), one per instance i. -/
def RoleB (i : Nat) : Nat := 0x210002 + i * 0x100
/-- TxTrim (R113), one per instance i. -/
def TxTrim (i : Nat) : Nat := 0x210003 + i * 0x100
/-- RxTrim (R113), one per instance i. -/
def RxTrim (i : Nat) : Nat := 0x210004 + i * 0x100
/-- Asymmetry (R113), one per instance i. -/
def Asymmetry (i : Nat) : Nat := 0x210005 + i * 0x100
/-- PdelayIntervalTicks (R113), one per instance i. -/
def PdelayIntervalTicks (i : Nat) : Nat := 0x210006 + i * 0x100
/-- MeanLinkDelay (R113), one per instance i. -/
def MeanLinkDelay (i : Nat) : Nat := 0x210007 + i * 0x100
/-- NeighborRateRatio (R113), one per instance i. -/
def NeighborRateRatio (i : Nat) : Nat := 0x210008 + i * 0x100
/-- LinkDelayValid (R113), one per instance i. -/
def LinkDelayValid (i : Nat) : Nat := 0x210009 + i * 0x100
/-- CalState (R113), one per instance i. -/
def CalState (i : Nat) : Nat := 0x21000A + i * 0x100
/-- PdelayLost (R113), one per instance i. -/
def PdelayLost (i : Nat) : Nat := 0x21000B + i * 0x100
/-- TwoStepOverflow (R113), one per instance i. -/
def TwoStepOverflow (i : Nat) : Nat := 0x21000C + i * 0x100
/-- PortEnable (R137), one per instance i. -/
def PortEnable (i : Nat) : Nat := 0x100001 + i * 0x1000
/-- PortMode (R137), one per instance i. -/
def PortMode (i : Nat) : Nat := 0x100002 + i * 0x1000
/-- Medium (R137), one per instance i. -/
def Medium (i : Nat) : Nat := 0x100003 + i * 0x1000
/-- FecMode (R137), one per instance i. -/
def FecMode (i : Nat) : Nat := 0x100004 + i * 0x1000
/-- AnEnable (R137), one per instance i. -/
def AnEnable (i : Nat) : Nat := 0x100005 + i * 0x1000
/-- AnAdvertise (R137), one per instance i. -/
def AnAdvertise (i : Nat) : Nat := 0x100006 + i * 0x1000
/-- MaxFrameBytes (R137), one per instance i. -/
def MaxFrameBytes (i : Nat) : Nat := 0x100007 + i * 0x1000
/-- LinkDownHold (R137), one per instance i. -/
def LinkDownHold (i : Nat) : Nat := 0x100008 + i * 0x1000
/-- CutThrough (R137), one per instance i. -/
def CutThrough (i : Nat) : Nat := 0x100009 + i * 0x1000
/-- RxInvert (R137), one per instance i. -/
def RxInvert (i : Nat) : Nat := 0x10000A + i * 0x1000
/-- TxInvert (R137), one per instance i. -/
def TxInvert (i : Nat) : Nat := 0x10000B + i * 0x1000
/-- PortState (R137), one per instance i. -/
def PortState (i : Nat) : Nat := 0x100101 + i * 0x1000
/-- ResolvedMode (R137), one per instance i. -/
def ResolvedMode (i : Nat) : Nat := 0x100102 + i * 0x1000
/-- ResolvedFec (R137), one per instance i. -/
def ResolvedFec (i : Nat) : Nat := 0x100103 + i * 0x1000
/-- AnStatus (R137), one per instance i. -/
def AnStatus (i : Nat) : Nat := 0x100104 + i * 0x1000
/-- LinkUps (R137), one per instance i. -/
def LinkUps (i : Nat) : Nat := 0x100105 + i * 0x1000
/-- LinkDowns (R137), one per instance i. -/
def LinkDowns (i : Nat) : Nat := 0x100106 + i * 0x1000
/-- FlushedFrames (R137), one per instance i. -/
def FlushedFrames (i : Nat) : Nat := 0x100107 + i * 0x1000
/-- FlushedBytes (R137), one per instance i. -/
def FlushedBytes (i : Nat) : Nat := 0x100108 + i * 0x1000
/-- FecCorrected (R137), one per instance i. -/
def FecCorrected (i : Nat) : Nat := 0x100109 + i * 0x1000
/-- FecUncorrected (R137), one per instance i. -/
def FecUncorrected (i : Nat) : Nat := 0x10010A + i * 0x1000
/-- DhopNs (R137), one per instance i. -/
def DhopNs (i : Nat) : Nat := 0x100201 + i * 0x1000
/-- DhopQueues (R137), one per instance i. -/
def DhopQueues (i : Nat) : Nat := 0x100202 + i * 0x1000
/-- DhopLateTolerance (R137), one per instance i. -/
def DhopLateTolerance (i : Nat) : Nat := 0x100203 + i * 0x1000
/-- DhopLateAction (R137), one per instance i. -/
def DhopLateAction (i : Nat) : Nat := 0x100204 + i * 0x1000
/-- DhopSent (R137), one per instance i. -/
def DhopSent (i : Nat) : Nat := 0x100205 + i * 0x1000
/-- DhopLate (R137), one per instance i. -/
def DhopLate (i : Nat) : Nat := 0x100206 + i * 0x1000
/-- PreemptEnable (R137), one per instance i. -/
def PreemptEnable (i : Nat) : Nat := 0x100207 + i * 0x1000
/-- PreemptableQueues (R137), one per instance i. -/
def PreemptableQueues (i : Nat) : Nat := 0x100208 + i * 0x1000
/-- AddFragSize (R137), one per instance i. -/
def AddFragSize (i : Nat) : Nat := 0x100209 + i * 0x1000
/-- VerifyDisable (R137), one per instance i. -/
def VerifyDisable (i : Nat) : Nat := 0x10020A + i * 0x1000
/-- VerifyTimeMs (R137), one per instance i. -/
def VerifyTimeMs (i : Nat) : Nat := 0x10020B + i * 0x1000
/-- VerifyStatus (R137), one per instance i. -/
def VerifyStatus (i : Nat) : Nat := 0x10020C + i * 0x1000
/-- CutThroughFrames (R137), one per instance i. -/
def CutThroughFrames (i : Nat) : Nat := 0x10020D + i * 0x1000
/-- DhopInternalDrops (R137), one per instance i. -/
def DhopInternalDrops (i : Nat) : Nat := 0x10020E + i * 0x1000
/-- RecircLimit (R137). -/
def RecircLimit : Nat := 0x163005
/-- RxFrames (R138), one per instance i. -/
def RxFrames (i : Nat) : Nat := 0x100301 + i * 0x1000
/-- TxFrames (R138), one per instance i. -/
def TxFrames (i : Nat) : Nat := 0x100401 + i * 0x1000
/-- RxOctets (R138), one per instance i. -/
def RxOctets (i : Nat) : Nat := 0x100302 + i * 0x1000
/-- TxOctets (R138), one per instance i. -/
def TxOctets (i : Nat) : Nat := 0x100402 + i * 0x1000
/-- RxUnicast (R138), one per instance i. -/
def RxUnicast (i : Nat) : Nat := 0x100303 + i * 0x1000
/-- TxUnicast (R138), one per instance i. -/
def TxUnicast (i : Nat) : Nat := 0x100403 + i * 0x1000
/-- RxMulticast (R138), one per instance i. -/
def RxMulticast (i : Nat) : Nat := 0x100304 + i * 0x1000
/-- TxMulticast (R138), one per instance i. -/
def TxMulticast (i : Nat) : Nat := 0x100404 + i * 0x1000
/-- RxBroadcast (R138), one per instance i. -/
def RxBroadcast (i : Nat) : Nat := 0x100305 + i * 0x1000
/-- TxBroadcast (R138), one per instance i. -/
def TxBroadcast (i : Nat) : Nat := 0x100405 + i * 0x1000
/-- RxFcsErrors (R138), one per instance i. -/
def RxFcsErrors (i : Nat) : Nat := 0x100306 + i * 0x1000
/-- TxErrorEnded (R138), one per instance i. -/
def TxErrorEnded (i : Nat) : Nat := 0x100406 + i * 0x1000
/-- RxUndersize (R138), one per instance i. -/
def RxUndersize (i : Nat) : Nat := 0x100307 + i * 0x1000
/-- TxHolds (R138), one per instance i. -/
def TxHolds (i : Nat) : Nat := 0x100407 + i * 0x1000
/-- RxOversize (R138), one per instance i. -/
def RxOversize (i : Nat) : Nat := 0x100308 + i * 0x1000
/-- TxPreempted (R138), one per instance i. -/
def TxPreempted (i : Nat) : Nat := 0x100408 + i * 0x1000
/-- RxJabber (R138), one per instance i. -/
def RxJabber (i : Nat) : Nat := 0x100309 + i * 0x1000
/-- TxFragments (R138), one per instance i. -/
def TxFragments (i : Nat) : Nat := 0x100409 + i * 0x1000
/-- RxPcsErrors (R138), one per instance i. -/
def RxPcsErrors (i : Nat) : Nat := 0x10030A + i * 0x1000
/-- TxVerifyFrames (R138), one per instance i. -/
def TxVerifyFrames (i : Nat) : Nat := 0x10040A + i * 0x1000
/-- RxMacControl (R138), one per instance i. -/
def RxMacControl (i : Nat) : Nat := 0x10030B + i * 0x1000
/-- RxLpi (R138), one per instance i. -/
def RxLpi (i : Nat) : Nat := 0x10030C + i * 0x1000
/-- RxAssemblyErrors (R138), one per instance i. -/
def RxAssemblyErrors (i : Nat) : Nat := 0x10030D + i * 0x1000
/-- RxFragments (R138), one per instance i. -/
def RxFragments (i : Nat) : Nat := 0x10030E + i * 0x1000
/-- RxReassembled (R138), one per instance i. -/
def RxReassembled (i : Nat) : Nat := 0x10030F + i * 0x1000
/-- ExtraTpid (R171). -/
def ExtraTpid : Nat := 0x300001
/-- ParseWindowBytes (R171). -/
def ParseWindowBytes : Nat := 0x300002
/-- ParseFlagCount (R171), sub-index i + 1. -/
def ParseFlagCount (i : Nat) : Nat := 0x300101 + i
/-- UdfDef (R171), sub-index i + 1. -/
def UdfDef (i : Nat) : Nat := 0x300201 + i
/-- TreeMatches (R171), sub-index i + 1. -/
def TreeMatches (i : Nat) : Nat := 0x300801 + i
/-- AssocMatches (R171), sub-index i + 1. -/
def AssocMatches (i : Nat) : Nat := 0x300901 + i
/-- DefaultResults (R171), sub-index i + 1. -/
def DefaultResults (i : Nat) : Nat := 0x300A01 + i
/-- AssocBanksSearched (R171), sub-index i + 1. -/
def AssocBanksSearched (i : Nat) : Nat := 0x300B01 + i
/-- TreeWalkErrors (R171), sub-index i + 1. -/
def TreeWalkErrors (i : Nat) : Nat := 0x300C01 + i
/-- ParityMisses (R171), sub-index i + 1. -/
def ParityMisses (i : Nat) : Nat := 0x300D01 + i
/-- BankTag (R171), sub-index i + 1. -/
def BankTag (i : Nat) : Nat := 0x304001 + i
/-- BankMask (R171), sub-index i + 1. -/
def BankMask (i : Nat) : Nat := 0x304101 + i
/-- BankWide (R171), sub-index i + 1. -/
def BankWide (i : Nat) : Nat := 0x304201 + i
/-- AssocEpoch (R171). -/
def AssocEpoch : Nat := 0x304301
/-- HashFields (R171), sub-index i + 1. -/
def HashFields (i : Nat) : Nat := 0x305001 + i
/-- HashSeed (R171), sub-index i + 1. -/
def HashSeed (i : Nat) : Nat := 0x305101 + i
/-- HashSymmetric (R171), sub-index i + 1. -/
def HashSymmetric (i : Nat) : Nat := 0x305201 + i
/-- L2AgeTime (R214). -/
def L2AgeTime : Nat := 0x340001
/-- L2AgeEnable (R214). -/
def L2AgeEnable : Nat := 0x340002
/-- MoveHoldOff (R214). -/
def MoveHoldOff : Nat := 0x340003
/-- L2DeepSearch (R214). -/
def L2DeepSearch : Nat := 0x340004
/-- LearnDeepRate (R214). -/
def LearnDeepRate : Nat := 0x340005
/-- LearnedEntries (R214), sub-index i + 1. -/
def LearnedEntries (i : Nat) : Nat := 0x340101 + i
/-- L2Learns (R214), sub-index i + 1. -/
def L2Learns (i : Nat) : Nat := 0x340201 + i
/-- L2Moves (R214), sub-index i + 1. -/
def L2Moves (i : Nat) : Nat := 0x340301 + i
/-- L2Flaps (R214), sub-index i + 1. -/
def L2Flaps (i : Nat) : Nat := 0x340401 + i
/-- L2AgedOut (R214), sub-index i + 1. -/
def L2AgedOut (i : Nat) : Nat := 0x340501 + i
/-- LearnDrops (R214), sub-index i + 1. -/
def LearnDrops (i : Nat) : Nat := 0x340601 + i
/-- StaticConflicts (R214), sub-index i + 1. -/
def StaticConflicts (i : Nat) : Nat := 0x340701 + i
/-- L2ParityMisses (R214), sub-index i + 1. -/
def L2ParityMisses (i : Nat) : Nat := 0x340801 + i
/-- VlanDrops (R214), sub-index i + 1. -/
def VlanDrops (i : Nat) : Nat := 0x340901 + i
/-- LagNoMember (R214), sub-index i + 1. -/
def LagNoMember (i : Nat) : Nat := 0x340A01 + i
/-- L2Insert (R215). -/
def L2Insert : Nat := 0x341001
/-- L2Delete (R215). -/
def L2Delete : Nat := 0x341101
/-- L2QueryKey (R215). -/
def L2QueryKey : Nat := 0x341201
/-- L2QueryResult (R215), sub-index i + 1. -/
def L2QueryResult (i : Nat) : Nat := 0x341301 + i
/-- L2Flush (R215). -/
def L2Flush : Nat := 0x341401
/-- L2FlushBusy (R215). -/
def L2FlushBusy : Nat := 0x341501
/-- L2EventCount (R215), sub-index i + 1. -/
def L2EventCount (i : Nat) : Nat := 0x344001 + i
/-- LpmUnitsActive (R218). -/
def LpmUnitsActive : Nat := 0x350101
/-- LpmReserveInUse (R218). -/
def LpmReserveInUse : Nat := 0x350102
/-- LpmReserveUnits (R218). -/
def LpmReserveUnits : Nat := 0x350103
/-- LpmMisses (R218), sub-index i + 1. -/
def LpmMisses (i : Nat) : Nat := 0x350201 + i
/-- LpmParityMisses (R218), sub-index i + 1. -/
def LpmParityMisses (i : Nat) : Nat := 0x350301 + i
/-- NextHopErrors (R218), sub-index i + 1. -/
def NextHopErrors (i : Nat) : Nat := 0x351101 + i
/-- EmInsert (R218). -/
def EmInsert : Nat := 0x360001
/-- EmDelete (R218). -/
def EmDelete : Nat := 0x360101
/-- EmQueryKey (R218). -/
def EmQueryKey : Nat := 0x360201
/-- EmQueryResult (R218). -/
def EmQueryResult : Nat := 0x360301
/-- EmEntries (R218). -/
def EmEntries : Nat := 0x360401
/-- EmRefused (R218). -/
def EmRefused : Nat := 0x360402
/-- EmMaxMoves (R218). -/
def EmMaxMoves : Nat := 0x360403
/-- EmStreamMisses (R218), sub-index i + 1. -/
def EmStreamMisses (i : Nat) : Nat := 0x360501 + i
/-- EmParityMisses (R218), sub-index i + 1. -/
def EmParityMisses (i : Nat) : Nat := 0x360601 + i
/-- RecoveryParityResets (R218). -/
def RecoveryParityResets : Nat := 0x370201
/-- DeepInsert (R218). -/
def DeepInsert : Nat := 0x378001
/-- DeepDelete (R218). -/
def DeepDelete : Nat := 0x378002
/-- DeepQueryKey (R218). -/
def DeepQueryKey : Nat := 0x378003
/-- DeepQueryResult (R218). -/
def DeepQueryResult : Nat := 0x378004
/-- DeepEntries (R218). -/
def DeepEntries : Nat := 0x378101
/-- DeepSearches (R218). -/
def DeepSearches : Nat := 0x378102
/-- DeepHits (R218). -/
def DeepHits : Nat := 0x378103
/-- DeepRefused (R218). -/
def DeepRefused : Nat := 0x378104
/-- EmDeepKinds (R218). -/
def EmDeepKinds : Nat := 0x378105
/-- ProgramCostLimit (R245). -/
def ProgramCostLimit : Nat := 0x380201
/-- DscpMap (R245), sub-index i + 1. -/
def DscpMap (i : Nat) : Nat := 0x381001 + i
/-- TemplateImage (R245), sub-index i + 1. -/
def TemplateImage (i : Nat) : Nat := 0x386001 + i
/-- ActionSampleCount (R245), sub-index i + 1. -/
def ActionSampleCount (i : Nat) : Nat := 0x387801 + i
/-- ProgramRuns (R247), sub-index i + 1. -/
def ProgramRuns (i : Nat) : Nat := 0x382001 + i
/-- NoBindingFrames (R247), sub-index i + 1. -/
def NoBindingFrames (i : Nat) : Nat := 0x382101 + i
/-- InvalidBindingDrops (R247), sub-index i + 1. -/
def InvalidBindingDrops (i : Nat) : Nat := 0x382201 + i
/-- ProgramDrops (R247), sub-index i + 1. -/
def ProgramDrops (i : Nat) : Nat := 0x382301 + i
/-- NoRoute (R247), sub-index i + 1. -/
def NoRoute (i : Nat) : Nat := 0x382401 + i
/-- EditRefused (R247), sub-index i + 1. -/
def EditRefused (i : Nat) : Nat := 0x382501 + i
/-- TtlExpired (R247), sub-index i + 1. -/
def TtlExpired (i : Nat) : Nat := 0x382601 + i
/-- EgressOversize (R247), sub-index i + 1. -/
def EgressOversize (i : Nat) : Nat := 0x382701 + i
/-- LaunchRefused (R247), sub-index i + 1. -/
def LaunchRefused (i : Nat) : Nat := 0x382801 + i
/-- SetpointFrames (R247), sub-index i + 1. -/
def SetpointFrames (i : Nat) : Nat := 0x382901 + i
/-- SetpointWords (R247), sub-index i + 1. -/
def SetpointWords (i : Nat) : Nat := 0x382A01 + i
/-- SetpointFormatErrors (R247), sub-index i + 1. -/
def SetpointFormatErrors (i : Nat) : Nat := 0x382B01 + i
/-- SetpointFcsDiscards (R247), sub-index i + 1. -/
def SetpointFcsDiscards (i : Nat) : Nat := 0x382C01 + i
/-- SetpointMaskDiscards (R247), sub-index i + 1. -/
def SetpointMaskDiscards (i : Nat) : Nat := 0x382D01 + i
/-- DestDrops (R247), sub-index i + 1. -/
def DestDrops (i : Nat) : Nat := 0x382E01 + i
/-- InFlightReserve (R281). -/
def InFlightReserve : Nat := 0x400001
/-- ReservedCells (R281). -/
def ReservedCells : Nat := 0x400002
/-- FreeCells (R281). -/
def FreeCells : Nat := 0x400003
/-- FreeShared (R281). -/
def FreeShared : Nat := 0x400004
/-- InFlightCells (R281). -/
def InFlightCells : Nat := 0x400005
/-- QueuedCells (R281). -/
def QueuedCells : Nat := 0x400006
/-- ResidueCells (R281). -/
def ResidueCells : Nat := 0x400007
/-- ReleasingCells (R281). -/
def ReleasingCells : Nat := 0x400008
/-- FreeCellsLow (R281). -/
def FreeCellsLow : Nat := 0x400009
/-- BufferSnapshot (R281). -/
def BufferSnapshot : Nat := 0x40000A
/-- EccCorrected (R281). -/
def EccCorrected : Nat := 0x40000B
/-- EccUncorrected (R281). -/
def EccUncorrected : Nat := 0x40000C
/-- QueueHighWaterClear (R281). -/
def QueueHighWaterClear : Nat := 0x401301
/-- ResidueLimitTicks (R284). -/
def ResidueLimitTicks : Nat := 0x403101
/-- ResidueCapacity (R284). -/
def ResidueCapacity : Nat := 0x403102
/-- ResidueInUse (R284). -/
def ResidueInUse : Nat := 0x403103
/-- McFrames (R284), sub-index i + 1. -/
def McFrames (i : Nat) : Nat := 0x403201 + i
/-- McCopies (R284), sub-index i + 1. -/
def McCopies (i : Nat) : Nat := 0x403301 + i
/-- McPruned (R284), sub-index i + 1. -/
def McPruned (i : Nat) : Nat := 0x403401 + i
/-- PartialMulticast (R284), sub-index i + 1. -/
def PartialMulticast (i : Nat) : Nat := 0x403501 + i
/-- McAllDropped (R284), sub-index i + 1. -/
def McAllDropped (i : Nat) : Nat := 0x403601 + i
/-- McNoCopy (R284), sub-index i + 1. -/
def McNoCopy (i : Nat) : Nat := 0x403701 + i
/-- ResidueFull (R284), sub-index i + 1. -/
def ResidueFull (i : Nat) : Nat := 0x403801 + i
/-- McGroupInvalid (R284), sub-index i + 1. -/
def McGroupInvalid (i : Nat) : Nat := 0x403901 + i
/-- SamplesTaken (R284), sub-index i + 1. -/
def SamplesTaken (i : Nat) : Nat := 0x404101 + i
/-- SamplesLost (R284), sub-index i + 1. -/
def SamplesLost (i : Nat) : Nat := 0x404201 + i
/-- MirrorCopies (R284), sub-index i + 1. -/
def MirrorCopies (i : Nat) : Nat := 0x405101 + i
/-- MirrorDrops (R284), sub-index i + 1. -/
def MirrorDrops (i : Nat) : Nat := 0x405201 + i
/-- SpillQueues (R284). -/
def SpillQueues : Nat := 0x406001
/-- MaxSpillQueues (R284). -/
def MaxSpillQueues : Nat := 0x406002
/-- SpillCells (R284). -/
def SpillCells : Nat := 0x406003
/-- SpillNoSpace (R284). -/
def SpillNoSpace : Nat := 0x406004
/-- SpillLost (R284). -/
def SpillLost : Nat := 0x406005
/-- WeaveEnable (R315), one per instance i. -/
def WeaveEnable (i : Nat) : Nat := 0x441001 + i * 0x100
/-- WindowCount (R315), one per instance i. -/
def WindowCount (i : Nat) : Nat := 0x441002 + i * 0x100
/-- WeaveCycleTicks (R315), one per instance i. -/
def WeaveCycleTicks (i : Nat) : Nat := 0x441003 + i * 0x100
/-- WeaveCycleOffset (R315), one per instance i. -/
def WeaveCycleOffset (i : Nat) : Nat := 0x441004 + i * 0x100
/-- WeavePosition (R315), one per instance i. -/
def WeavePosition (i : Nat) : Nat := 0x441005 + i * 0x100
/-- GuardHolds (R315), one per instance i. -/
def GuardHolds (i : Nat) : Nat := 0x441006 + i * 0x100
/-- WeaveOverruns (R315), one per instance i. -/
def WeaveOverruns (i : Nat) : Nat := 0x441007 + i * 0x100
/-- LaunchHorizonTicks (R317). -/
def LaunchHorizonTicks : Nat := 0x452001
/-- LaunchSlots (R317). -/
def LaunchSlots : Nat := 0x452002
/-- LaunchSlotsInUse (R317), sub-index i + 1. -/
def LaunchSlotsInUse (i : Nat) : Nat := 0x452101 + i
/-- LaunchNoSlot (R317), sub-index i + 1. -/
def LaunchNoSlot (i : Nat) : Nat := 0x452201 + i
/-- LaunchBeyondHorizon (R317), sub-index i + 1. -/
def LaunchBeyondHorizon (i : Nat) : Nat := 0x452301 + i
/-- StreamUnblock (R321). -/
def StreamUnblock : Nat := 0x460701
/-- GateUnlatch (R321). -/
def GateUnlatch : Nat := 0x460702
/-- StreamsBlocked (R321). -/
def StreamsBlocked : Nat := 0x460801
/-- DelayBinBase (R321). -/
def DelayBinBase : Nat := 0x470101
/-- HistogramClear (R321). -/
def HistogramClear : Nat := 0x470102
/-- EpochNumber (R339). -/
def EpochNumber : Nat := 0x28001
/-- StagedRows (R339). -/
def StagedRows : Nat := 0x28002
/-- StagedRowsTotal (R339). -/
def StagedRowsTotal : Nat := 0x28003
/-- StageCapacity (R339). -/
def StageCapacity : Nat := 0x28004
/-- CommitArmTime (R339). -/
def CommitArmTime : Nat := 0x28005
/-- PendingCommits (R339). -/
def PendingCommits : Nat := 0x28006
/-- CommitsApplied (R339). -/
def CommitsApplied : Nat := 0x28007
/-- CommitsLate (R339). -/
def CommitsLate : Nat := 0x28008
/-- CommitsLateApplied (R339). -/
def CommitsLateApplied : Nat := 0x28009
/-- CommitsAborted (R339). -/
def CommitsAborted : Nat := 0x2800A
/-- LastAppliedTick (R339). -/
def LastAppliedTick : Nat := 0x2800B
/-- ProstaTransitQueue (R339). -/
def ProstaTransitQueue : Nat := 0x28101
/-- CommitReportCount (R339). -/
def CommitReportCount : Nat := 0x29201
/-- YardSafe (R367). -/
def YardSafe : Nat := 0x500001
/-- YardSafeRequest (R367). -/
def YardSafeRequest : Nat := 0x500002
/-- YardSafeRelease (R367). -/
def YardSafeRelease : Nat := 0x500003
/-- YardSafeEntries (R367). -/
def YardSafeEntries : Nat := 0x500004
/-- YardSafeCause (R367). -/
def YardSafeCause : Nat := 0x500005
/-- YardEventPush (R367). -/
def YardEventPush : Nat := 0x501101
/-- YardEventFlush (R367). -/
def YardEventFlush : Nat := 0x501102
/-- YardQueueDepth (R367), sub-index i + 1. -/
def YardQueueDepth (i : Nat) : Nat := 0x501201 + i
/-- YardCaptureCount (R367). -/
def YardCaptureCount : Nat := 0x504101
/-- PpSamples (R370), sub-index i + 1. -/
def PpSamples (i : Nat) : Nat := 0x510201 + i
/-- PpState (R370), sub-index i + 1. -/
def PpState (i : Nat) : Nat := 0x510301 + i
/-- LoopOwner (R370), sub-index i + 1. -/
def LoopOwner (i : Nat) : Nat := 0x511001 + i
/-- SetpointHorizon (R372). -/
def SetpointHorizon : Nat := 0x520301
/-- OpTimeoutUs (R392). -/
def OpTimeoutUs : Nat := 0x580001
/-- RequestReserve (R392). -/
def RequestReserve : Nat := 0x580002
/-- SourceSlotLimit (R392). -/
def SourceSlotLimit : Nat := 0x580003
/-- MaxPaddockPasses (R392). -/
def MaxPaddockPasses : Nat := 0x580004
/-- SlotsInUse (R392). -/
def SlotsInUse : Nat := 0x580005
/-- SlotsHighWater (R392). -/
def SlotsHighWater : Nat := 0x580006
/-- RequestQueueDepth (R392). -/
def RequestQueueDepth : Nat := 0x580007
/-- RecordKinds (R392). -/
def RecordKinds : Nat := 0x580008
/-- PaddockCompletionCount (R392). -/
def PaddockCompletionCount : Nat := 0x580401
/-- PaddockComplete (R392). -/
def PaddockComplete : Nat := 0x580501
/-- LateCompletions (R392). -/
def LateCompletions : Nat := 0x580701
/-- StaleCompletions (R392). -/
def StaleCompletions : Nat := 0x580702
/-- PassLimitDrops (R392). -/
def PassLimitDrops : Nat := 0x580703
/-- ServiceInvalidDrops (R392). -/
def ServiceInvalidDrops : Nat := 0x580704
/-- ServiceUndelivered (R392). -/
def ServiceUndelivered : Nat := 0x580705
/-- ServiceDrops (R392). -/
def ServiceDrops : Nat := 0x580706
/-- PairEnable (R424). -/
def PairEnable : Nat := 0x600001
/-- PairRole (R424). -/
def PairRole : Nat := 0x600002
/-- TetherPortA (R424). -/
def TetherPortA : Nat := 0x600003
/-- TetherPortB (R424). -/
def TetherPortB : Nat := 0x600004
/-- TetherEtherType (R424). -/
def TetherEtherType : Nat := 0x600005
/-- HbMissLimit (R424). -/
def HbMissLimit : Nat := 0x600006
/-- MirrorMaxAgeTicks (R424). -/
def MirrorMaxAgeTicks : Nat := 0x600007
/-- MateState (R424). -/
def MateState : Nat := 0x600101
/-- MirrorState (R424). -/
def MirrorState : Nat := 0x600102
/-- HbPaths (R424). -/
def HbPaths : Nat := 0x600103
/-- MateNodeId (R424). -/
def MateNodeId : Nat := 0x600104
/-- MateUniqueId (R424). -/
def MateUniqueId : Nat := 0x600105
/-- MateOwnState (R424). -/
def MateOwnState : Nat := 0x600106
/-- PairTickSkew (R424). -/
def PairTickSkew : Nat := 0x600107
/-- MateServo (R424). -/
def MateServo : Nat := 0x600108
/-- MirrorL2 (R424). -/
def MirrorL2 : Nat := 0x600201
/-- MirrorSetpoints (R424). -/
def MirrorSetpoints : Nat := 0x600202
/-- MirrorDictAreas (R424). -/
def MirrorDictAreas : Nat := 0x600203
/-- MirrorServo (R424). -/
def MirrorServo : Nat := 0x600204
/-- MirrorResync (R424). -/
def MirrorResync : Nat := 0x600205
/-- TakeoverArm (R425). -/
def TakeoverArm : Nat := 0x601001
/-- TakeoverArmed (R425). -/
def TakeoverArmed : Nat := 0x601002
/-- TakeoverPlan (R425). -/
def TakeoverPlan : Nat := 0x601003
/-- Takeovers (R425). -/
def Takeovers : Nat := 0x601004
/-- LastTakeoverTick (R425). -/
def LastTakeoverTick : Nat := 0x601005
/-- TakeoverStale (R425). -/
def TakeoverStale : Nat := 0x601006
/-- AssumedNodeId (R425). -/
def AssumedNodeId : Nat := 0x601007
/-- OwnState (R425). -/
def OwnState : Nat := 0x602001
/-- OwnClaim (R425). -/
def OwnClaim : Nat := 0x602002
/-- OwnRelease (R425). -/
def OwnRelease : Nat := 0x602003
/-- OwnStartClaim (R425). -/
def OwnStartClaim : Nat := 0x602004
/-- OwnSettleNs (R425). -/
def OwnSettleNs : Nat := 0x602005
/-- OwnChanges (R425). -/
def OwnChanges : Nat := 0x602006
/-- OwnYields (R425). -/
def OwnYields : Nat := 0x602007
/-- TetherFramesTx (R426). -/
def TetherFramesTx : Nat := 0x603001
/-- TetherFramesRx (R426). -/
def TetherFramesRx : Nat := 0x603002
/-- TetherDuplicates (R426). -/
def TetherDuplicates : Nat := 0x603003
/-- TetherBadFrames (R426). -/
def TetherBadFrames : Nat := 0x603004
/-- MirrorGaps (R426). -/
def MirrorGaps : Nat := 0x603005
/-- MirrorDropped (R426). -/
def MirrorDropped : Nat := 0x603006
/-- MirrorDictRefused (R426). -/
def MirrorDictRefused : Nat := 0x603007
/-- HbMissSideband (R426). -/
def HbMissSideband : Nat := 0x603008
/-- HbMissTether (R426). -/
def HbMissTether : Nat := 0x603009
/-- PairEventCount (R426). -/
def PairEventCount : Nat := 0x603201
/-- CascadeRole (R428). -/
def CascadeRole : Nat := 0x610001
/-- CascadePosition (R428). -/
def CascadePosition : Nat := 0x610002
/-- CascadeLength (R428). -/
def CascadeLength : Nat := 0x610003
/-- CascadeState (R428). -/
def CascadeState : Nat := 0x610004
/-- CascadeNodeBase (R428). -/
def CascadeNodeBase : Nat := 0x610005
/-- CascadeBootWaitMs (R428). -/
def CascadeBootWaitMs : Nat := 0x610006
/-- CascadeConflicts (R428). -/
def CascadeConflicts : Nat := 0x610007
/-- CascadeCrcErrors (R428). -/
def CascadeCrcErrors : Nat := 0x610008
/-- CascadeSend (R428). -/
def CascadeSend : Nat := 0x610101
/-- CascadeReplyCount (R428). -/
def CascadeReplyCount : Nat := 0x610301
/-- NodeIdSource (R428). -/
def NodeIdSource : Nat := 0x620001
/-- PuntRateKbps (R456). -/
def PuntRateKbps : Nat := 0x680001
/-- TickIrqDivider (R456). -/
def TickIrqDivider : Nat := 0x680002
/-- SubsystemVendorId (R456). -/
def SubsystemVendorId : Nat := 0x680003
/-- SubsystemId (R456). -/
def SubsystemId : Nat := 0x680004
/-- MaxLinkSpeed (R456). -/
def MaxLinkSpeed : Nat := 0x680005
/-- LinkStatus (R456). -/
def LinkStatus : Nat := 0x680006
/-- HostResets (R456). -/
def HostResets : Nat := 0x680007
/-- HostBadAccess (R456). -/
def HostBadAccess : Nat := 0x680008
/-- PuntRecords (R456), sub-index i + 1. -/
def PuntRecords (i : Nat) : Nat := 0x680101 + i
/-- PuntNoBuffer (R456), sub-index i + 1. -/
def PuntNoBuffer (i : Nat) : Nat := 0x680201 + i
/-- InjectFrames (R456), sub-index i + 1. -/
def InjectFrames (i : Nat) : Nat := 0x680301 + i
/-- InjectErrors (R456), sub-index i + 1. -/
def InjectErrors (i : Nat) : Nat := 0x680401 + i
/-- PuntBadFrames (R456). -/
def PuntBadFrames : Nat := 0x680501
/-- NotifyRecords (R456). -/
def NotifyRecords : Nat := 0x680502
/-- SemaphoreForeignReleases (R456). -/
def SemaphoreForeignReleases : Nat := 0x680801
/-- MailboxForeign (R456). -/
def MailboxForeign : Nat := 0x680802
/-- MailboxOverflows (R456). -/
def MailboxOverflows : Nat := 0x680803
/-- Bar2Errors (R456). -/
def Bar2Errors : Nat := 0x680901
/-- FirmwareState (R478). -/
def FirmwareState : Nat := 0x700001
/-- ActiveBank (R478). -/
def ActiveBank : Nat := 0x700002
/-- ConfirmedBank (R478). -/
def ConfirmedBank : Nat := 0x700003
/-- BankConfirm (R478). -/
def BankConfirm : Nat := 0x700004
/-- TrialReverts (R478). -/
def TrialReverts : Nat := 0x700005
/-- BankState (R478), sub-index i + 1. -/
def BankState (i : Nat) : Nat := 0x700101 + i
/-- BankVersion (R478), sub-index i + 1. -/
def BankVersion (i : Nat) : Nat := 0x700201 + i
/-- BankRollbackLevel (R478), sub-index i + 1. -/
def BankRollbackLevel (i : Nat) : Nat := 0x700301 + i
/-- FirmwareBank (R478), sub-index i + 1. -/
def FirmwareBank (i : Nat) : Nat := 0x700401 + i
/-- LoadStatus (R478), sub-index i + 1. -/
def LoadStatus (i : Nat) : Nat := 0x700501 + i
/-- SwapPrepare (R478). -/
def SwapPrepare : Nat := 0x701001
/-- SwapRequest (R478). -/
def SwapRequest : Nat := 0x701002
/-- SwapState (R478). -/
def SwapState : Nat := 0x701003
/-- HandoffReady (R478). -/
def HandoffReady : Nat := 0x701004
/-- HandoffBytes (R478). -/
def HandoffBytes : Nat := 0x701005
/-- Swaps (R478). -/
def Swaps : Nat := 0x701006
/-- SwapsAbandoned (R478). -/
def SwapsAbandoned : Nat := 0x701007
/-- HandoffBlock (R478). -/
def HandoffBlock : Nat := 0x701008
/-- KeySlotPublic (R478), sub-index i + 1. -/
def KeySlotPublic (i : Nat) : Nat := 0x702001 + i
/-- KeySlotStatus (R478), sub-index i + 1. -/
def KeySlotStatus (i : Nat) : Nat := 0x702101 + i
/-- KeyRevoke (R478). -/
def KeyRevoke : Nat := 0x702201
/-- RollbackLevel (R478). -/
def RollbackLevel : Nat := 0x702301
/-- RollbackCommit (R478). -/
def RollbackCommit : Nat := 0x702302
/-- LoopOverrunLimit (R479), sub-index i + 1. -/
def LoopOverrunLimit (i : Nat) : Nat := 0x703001 + i
/-- LoopOverrunAction (R479), sub-index i + 1. -/
def LoopOverrunAction (i : Nat) : Nat := 0x703101 + i
/-- LoopSuspended (R479), sub-index i + 1. -/
def LoopSuspended (i : Nat) : Nat := 0x703201 + i
/-- LoopResume (R479), sub-index i + 1. -/
def LoopResume (i : Nat) : Nat := 0x703301 + i
/-- LoopForeign (R479), sub-index i + 1. -/
def LoopForeign (i : Nat) : Nat := 0x703401 + i
/-- LoopWindowNs (R479), sub-index i + 1. -/
def LoopWindowNs (i : Nat) : Nat := 0x703501 + i
/-- TickCoreMismatches (R479), sub-index i + 1. -/
def TickCoreMismatches (i : Nat) : Nat := 0x703601 + i
/-- HalterRefusals (R479). -/
def HalterRefusals : Nat := 0x704101
/-- HalterInterventions (R479). -/
def HalterInterventions : Nat := 0x704102
/-- HbmState (R502). -/
def HbmState : Nat := 0x780001
/-- HbmTrainSource (R502). -/
def HbmTrainSource : Nat := 0x780002
/-- HbmTrainTimeUs (R502). -/
def HbmTrainTimeUs : Nat := 0x780003
/-- HbmRetrain (R502). -/
def HbmRetrain : Nat := 0x780004
/-- HbmOffline (R502). -/
def HbmOffline : Nat := 0x780005
/-- HbmIdleSelfRefreshUs (R502). -/
def HbmIdleSelfRefreshUs : Nat := 0x780006
/-- HbmRetrainIntervalMs (R502). -/
def HbmRetrainIntervalMs : Nat := 0x780007
/-- HbmRefreshMode (R502). -/
def HbmRefreshMode : Nat := 0x780008
/-- HbmRefreshPostponeMax (R502). -/
def HbmRefreshPostponeMax : Nat := 0x780009
/-- HbmAddressOrder (R502), sub-index i + 1. -/
def HbmAddressOrder (i : Nat) : Nat := 0x780101 + i
/-- HbmStackTempC (R502), sub-index i + 1. -/
def HbmStackTempC (i : Nat) : Nat := 0x780201 + i
/-- HbmTrainingStore (R502). -/
def HbmTrainingStore : Nat := 0x781101
/-- HbmTrainCommand (R502). -/
def HbmTrainCommand : Nat := 0x781201
/-- HbmTrainResult (R502). -/
def HbmTrainResult : Nat := 0x781202
/-- PatrolPassHours (R502). -/
def PatrolPassHours : Nat := 0x783001
/-- HbmCorrected (R502). -/
def HbmCorrected : Nat := 0x783002
/-- HbmUncorrected (R502). -/
def HbmUncorrected : Nat := 0x783003
/-- HbmNarrowEyes (R502). -/
def HbmNarrowEyes : Nat := 0x783004
/-- DeepBucketsLost (R502). -/
def DeepBucketsLost : Nat := 0x783005
/-- BufferCellsReplaced (R502). -/
def BufferCellsReplaced : Nat := 0x783006
/-- RowRepairThreshold (R502). -/
def RowRepairThreshold : Nat := 0x784001
/-- HbmRepairPending (R502). -/
def HbmRepairPending : Nat := 0x784002
/-- ScrubPassMs (R502), sub-index i + 1. -/
def ScrubPassMs (i : Nat) : Nat := 0x785001 + i
/-- PoolCommand (R503). -/
def PoolCommand : Nat := 0x786001
/-- PoolResult (R503). -/
def PoolResult : Nat := 0x786002
/-- PoolFree (R503), sub-index i + 1. -/
def PoolFree (i : Nat) : Nat := 0x786101 + i
/-- PoolLow (R503), sub-index i + 1. -/
def PoolLow (i : Nat) : Nat := 0x786201 + i
/-- SharedSetsInUse (R503). -/
def SharedSetsInUse : Nat := 0x786401
/-- PoolDoubleFrees (R503). -/
def PoolDoubleFrees : Nat := 0x786402
/-- PoolStaleHandles (R503). -/
def PoolStaleHandles : Nat := 0x786403
/-- PoolRefusals (R503). -/
def PoolRefusals : Nat := 0x786404
/-- SweepBankWords (R522). -/
def SweepBankWords : Nat := 0x800001
/-- SweepWordsSelected (R522). -/
def SweepWordsSelected : Nat := 0x800002
/-- SweepBanksInUse (R522). -/
def SweepBanksInUse : Nat := 0x800003
/-- SweepHead (R522), sub-index i + 1. -/
def SweepHead (i : Nat) : Nat := 0x800301 + i
/-- SweepTail (R522), sub-index i + 1. -/
def SweepTail (i : Nat) : Nat := 0x800401 + i
/-- SweepRecords (R522), sub-index i + 1. -/
def SweepRecords (i : Nat) : Nat := 0x800501 + i
/-- SweepSkipped (R522), sub-index i + 1. -/
def SweepSkipped (i : Nat) : Nat := 0x800601 + i
/-- SweepState (R522), sub-index i + 1. -/
def SweepState (i : Nat) : Nat := 0x800701 + i
/-- EventTraceEnable (R523). -/
def EventTraceEnable : Nat := 0x820001
/-- EventTraceCount (R523). -/
def EventTraceCount : Nat := 0x820002
/-- ActionOpcodeMask (R523), sub-index i + 1. -/
def ActionOpcodeMask (i : Nat) : Nat := 0x830101 + i
/-- ActionSamplesLost (R523), sub-index i + 1. -/
def ActionSamplesLost (i : Nat) : Nat := 0x830201 + i
/-- BwWindowTicks (R523). -/
def BwWindowTicks : Nat := 0x840001
/-- FaultNState (R539). -/
def FaultNState : Nat := 0x880001
/-- FaultNMinWidthUs (R539). -/
def FaultNMinWidthUs : Nat := 0x880002
/-- FaultNRelease (R539). -/
def FaultNRelease : Nat := 0x880003
/-- FaultNAssertions (R539). -/
def FaultNAssertions : Nat := 0x880004
/-- FaultClassSeen (R539). -/
def FaultClassSeen : Nat := 0x880005
/-- FaultClassClear (R539). -/
def FaultClassClear : Nat := 0x880006
/-- CaptureRearm (R539). -/
def CaptureRearm : Nat := 0x880007
/-- FaultCapture (R539). -/
def FaultCapture : Nat := 0x880008
/-- FaultLogCount (R539). -/
def FaultLogCount : Nat := 0x880401
/-- ClassCounts (R539), sub-index i + 1. -/
def ClassCounts (i : Nat) : Nat := 0x880501 + i
/-- ResetsSuppressed (R539). -/
def ResetsSuppressed : Nat := 0x880601
/-- ReactionsSkipped (R539). -/
def ReactionsSkipped : Nat := 0x880602
/-- PortShutLow (R539). -/
def PortShutLow : Nat := 0x882001
/-- PortShutHigh (R539). -/
def PortShutHigh : Nat := 0x882002
/-- PortShutClear (R539). -/
def PortShutClear : Nat := 0x882003
/-- WdMgmtMs (R540). -/
def WdMgmtMs : Nat := 0x881001
/-- WdMgmtKick (R540). -/
def WdMgmtKick : Nat := 0x881002
/-- WdMgmtRestart (R540). -/
def WdMgmtRestart : Nat := 0x881003
/-- WdRestartLimit (R540). -/
def WdRestartLimit : Nat := 0x881004
/-- WdMgmtExpiries (R540). -/
def WdMgmtExpiries : Nat := 0x881005
/-- WdTickTicks (R540), sub-index i + 1. -/
def WdTickTicks (i : Nat) : Nat := 0x881101 + i
/-- WdTickKick (R540), sub-index i + 1. -/
def WdTickKick (i : Nat) : Nat := 0x881201 + i
/-- WdTickExpiries (R540), sub-index i + 1. -/
def WdTickExpiries (i : Nat) : Nat := 0x881301 + i
/-- HostWdTicks (R540). -/
def HostWdTicks : Nat := 0x881401
/-- HostWdExpiries (R540). -/
def HostWdExpiries : Nat := 0x881402
/-- TestModeState (R540). -/
def TestModeState : Nat := 0x88F001
/-- PowerMode (R561). -/
def PowerMode : Nat := 0x900001
/-- ShedRequest (R561). -/
def ShedRequest : Nat := 0x900002
/-- ShedExit (R561). -/
def ShedExit : Nat := 0x900003
/-- ShedCause (R561). -/
def ShedCause : Nat := 0x900004
/-- ShedAutoExit (R561). -/
def ShedAutoExit : Nat := 0x900005
/-- StabledRequest (R561). -/
def StabledRequest : Nat := 0x900006
/-- StabledRampLimitMs (R561). -/
def StabledRampLimitMs : Nat := 0x900007
/-- WakeCause (R561). -/
def WakeCause : Nat := 0x900008
/-- StabledEntries (R561). -/
def StabledEntries : Nat := 0x900009
/-- StaggerDelays (R561). -/
def StaggerDelays : Nat := 0x90000A
/-- ForwardingTimeUs (R561). -/
def ForwardingTimeUs : Nat := 0x90000B
/-- WakeOnReqRelease (R561). -/
def WakeOnReqRelease : Nat := 0x90000C
/-- ShedDrops (R561). -/
def ShedDrops : Nat := 0x90000D
/-- BootSource (R561). -/
def BootSource : Nat := 0x901001
/-- ImageLoadStatus (R561). -/
def ImageLoadStatus : Nat := 0x901002
/-- ImageSlot (R561). -/
def ImageSlot : Nat := 0x901003
/-- ImageSequence (R561). -/
def ImageSequence : Nat := 0x901004
/-- ImageRefusedEntry (R561). -/
def ImageRefusedEntry : Nat := 0x901005
/-- FlashBytes (R561). -/
def FlashBytes : Nat := 0x901006
/-- AonCmpMv (R562), sub-index i + 1. -/
def AonCmpMv (i : Nat) : Nat := 0x902101 + i
/-- AonCmpState (R562), sub-index i + 1. -/
def AonCmpState (i : Nat) : Nat := 0x902201 + i
/-- LinkEnergyWake (R562). -/
def LinkEnergyWake : Nat := 0x902401
/-- LinkEnergyUs (R562). -/
def LinkEnergyUs : Nat := 0x902402
/-- ThrottleThresholdC (R562). -/
def ThrottleThresholdC : Nat := 0x904001
/-- ThrottleLevel (R562). -/
def ThrottleLevel : Nat := 0x904002
/-- TripTempC (R562). -/
def TripTempC : Nat := 0x904003
/-- ThermalDrops (R562). -/
def ThermalDrops : Nat := 0x904004
/-- ThrottleEntries (R562). -/
def ThrottleEntries : Nat := 0x904005
/-- MaxTempC (R562). -/
def MaxTempC : Nat := 0x904006
/-- SensorTempC (R562), sub-index i + 1. -/
def SensorTempC (i : Nat) : Nat := 0x904101 + i
/-- AvsEnable (R562). -/
def AvsEnable : Nat := 0x905001
/-- AvsTargetMv (R562). -/
def AvsTargetMv : Nat := 0x905002
/-- AvsFusedMv (R562). -/
def AvsFusedMv : Nat := 0x905003
/-- AvsOverrideMv (R562). -/
def AvsOverrideMv : Nat := 0x905004
/-- AvsMeasuredMv (R562). -/
def AvsMeasuredMv : Nat := 0x905005
/-- AvsErrors (R562). -/
def AvsErrors : Nat := 0x905006

end E
namespace T

/-- TABLE Subscriptions (R70). -/
def Subscriptions : Nat := 0x230
/-- TABLE ProstaRoutes (R70). -/
def ProstaRoutes : Nat := 0x240
/-- TABLE Sessions (R70). -/
def Sessions : Nat := 0x250
/-- TABLE TimeEvents (R110). -/
def TimeEvents : Nat := 0x2060
/-- TABLE PortClassify (R171). -/
def PortClassify : Nat := 0x3020
/-- TABLE SearchProfiles (R171). -/
def SearchProfiles : Nat := 0x3030
/-- TABLE Indirection (R171). -/
def Indirection : Nat := 0x3060
/-- TABLE AssocRows (R172). -/
def AssocRows : Nat := 0x3100
/-- TABLE AssocRowsAll (R172). -/
def AssocRowsAll : Nat := 0x3101
/-- TABLE TreeNodes (R172), one per instance i. -/
def TreeNodes (i : Nat) : Nat := 0x3200 + i
/-- TABLE TreeNodesAll (R172). -/
def TreeNodesAll : Nat := 0x3204
/-- TABLE TreeLists (R172), one per instance i. -/
def TreeLists (i : Nat) : Nat := 0x3210 + i
/-- TABLE TreeListsAll (R172). -/
def TreeListsAll : Nat := 0x3214
/-- TABLE TreeRules (R172), one per instance i. -/
def TreeRules (i : Nat) : Nat := 0x3220 + i
/-- TABLE TreeRulesAll (R172). -/
def TreeRulesAll : Nat := 0x3224
/-- TABLE TreeSets (R172). -/
def TreeSets : Nat := 0x3230
/-- TABLE TreeSetsAll (R172). -/
def TreeSetsAll : Nat := 0x3231
/-- TABLE L2Rows (R215), one per instance i. -/
def L2Rows (i : Nat) : Nat := 0x3420 + i
/-- TABLE Vlans (R215). -/
def Vlans : Nat := 0x3430
/-- TABLE PortBridge (R215). -/
def PortBridge : Nat := 0x3431
/-- TABLE LagGroups (R215). -/
def LagGroups : Nat := 0x3432
/-- TABLE L2Events (R215), one per instance i. -/
def L2Events (i : Nat) : Nat := 0x3438 + i
/-- TABLE LpmRoutes (R218). -/
def LpmRoutes : Nat := 0x3500
/-- TABLE NextHops (R218). -/
def NextHops : Nat := 0x3510
/-- TABLE EmRows (R218), one per instance i. -/
def EmRows (i : Nat) : Nat := 0x3610 + i
/-- TABLE RecoveryFunctions (R218). -/
def RecoveryFunctions : Nat := 0x3700
/-- TABLE RecoveryCounters (R218). -/
def RecoveryCounters : Nat := 0x3701
/-- TABLE Bindings (R245). -/
def Bindings : Nat := 0x3800
/-- TABLE ProgramStore (R245). -/
def ProgramStore : Nat := 0x3801
/-- TABLE MacPool (R245). -/
def MacPool : Nat := 0x3811
/-- TABLE PortRewrite (R245). -/
def PortRewrite : Nat := 0x3812
/-- TABLE SeqGen (R245). -/
def SeqGen : Nat := 0x3813
/-- TABLE ActionCounters (R245). -/
def ActionCounters : Nat := 0x3814
/-- TABLE TemplateFills (R245). -/
def TemplateFills : Nat := 0x3868
/-- TABLE ActionSamples (R245), one per instance i. -/
def ActionSamples (i : Nat) : Nat := 0x3870 + i
/-- TABLE AdmissionProfiles (R281). -/
def AdmissionProfiles : Nat := 0x4010
/-- TABLE QueueConfig (R281). -/
def QueueConfig : Nat := 0x4011
/-- TABLE QueueState (R281). -/
def QueueState : Nat := 0x4012
/-- TABLE QueueDrops (R281). -/
def QueueDrops : Nat := 0x4014
/-- TABLE PortBufferCounters (R281). -/
def PortBufferCounters : Nat := 0x4020
/-- TABLE McGroups (R284). -/
def McGroups : Nat := 0x4030
/-- TABLE Samplers (R284). -/
def Samplers : Nat := 0x4040
/-- TABLE MirrorSessions (R284). -/
def MirrorSessions : Nat := 0x4050
/-- TABLE WeaveWindows (R315). -/
def WeaveWindows : Nat := 0x4480
/-- TABLE QueueSched (R317). -/
def QueueSched : Nat := 0x4500
/-- TABLE QueueShapers (R317). -/
def QueueShapers : Nat := 0x4510
/-- TABLE PortShapers (R317). -/
def PortShapers : Nat := 0x4511
/-- TABLE ShaperTokens (R317). -/
def ShaperTokens : Nat := 0x4512
/-- TABLE QueueTxCounters (R317). -/
def QueueTxCounters : Nat := 0x4530
/-- TABLE StreamFilters (R321). -/
def StreamFilters : Nat := 0x4600
/-- TABLE StreamGates (R321). -/
def StreamGates : Nat := 0x4601
/-- TABLE Meters (R321). -/
def Meters : Nat := 0x4602
/-- TABLE StreamCounters (R321). -/
def StreamCounters : Nat := 0x4603
/-- TABLE MeterCounters (R321). -/
def MeterCounters : Nat := 0x4604
/-- TABLE StreamBlocked (R321). -/
def StreamBlocked : Nat := 0x4605
/-- TABLE GateLatched (R321). -/
def GateLatched : Nat := 0x4606
/-- TABLE QueueHistograms (R321). -/
def QueueHistograms : Nat := 0x4700
/-- TABLE PendingBatches (R339). -/
def PendingBatches : Nat := 0x290
/-- TABLE CommitReports (R339). -/
def CommitReports : Nat := 0x291
/-- TABLE YardLines (R367). -/
def YardLines : Nat := 0x5010
/-- TABLE Generators (R367). -/
def Generators : Nat := 0x5020
/-- TABLE StartGroups (R367). -/
def StartGroups : Nat := 0x5030
/-- TABLE StartGroupCounters (R367). -/
def StartGroupCounters : Nat := 0x5031
/-- TABLE YardCaptures (R367). -/
def YardCaptures : Nat := 0x5040
/-- TABLE YardLineCounters (R367). -/
def YardLineCounters : Nat := 0x5042
/-- TABLE PpConfig (R370). -/
def PpConfig : Nat := 0x5100
/-- TABLE PpCounters (R370). -/
def PpCounters : Nat := 0x5101
/-- TABLE SetpointLimits (R372). -/
def SetpointLimits : Nat := 0x5200
/-- TABLE SetpointWordState (R372). -/
def SetpointWordState : Nat := 0x5201
/-- TABLE SetpointWordCounters (R372). -/
def SetpointWordCounters : Nat := 0x5202
/-- TABLE SampleGroups (R372). -/
def SampleGroups : Nat := 0x5300
/-- TABLE SampleGroupCounters (R372). -/
def SampleGroupCounters : Nat := 0x5301
/-- TABLE PaddockCounters (R392). -/
def PaddockCounters : Nat := 0x5801
/-- TABLE ServiceQueues (R392). -/
def ServiceQueues : Nat := 0x5802
/-- TABLE PaddockCompletions (R392). -/
def PaddockCompletions : Nat := 0x5803
/-- TABLE PaddockSlots (R392). -/
def PaddockSlots : Nat := 0x5806
/-- TABLE MirrorRecoveryMask (R424). -/
def MirrorRecoveryMask : Nat := 0x6003
/-- TABLE PairEvents (R426). -/
def PairEvents : Nat := 0x6031
/-- TABLE CascadeReplies (R428). -/
def CascadeReplies : Nat := 0x6102
/-- TABLE MailboxEnds (R456). -/
def MailboxEnds : Nat := 0x6806
/-- TABLE MasterEpochs (R456). -/
def MasterEpochs : Nat := 0x6807
/-- TABLE ShaperCeilings (R479). -/
def ShaperCeilings : Nat := 0x7040
/-- TABLE HbmTraining (R502). -/
def HbmTraining : Nat := 0x7810
/-- TABLE HbmRegions (R502). -/
def HbmRegions : Nat := 0x7820
/-- TABLE HbmRepairs (R502). -/
def HbmRepairs : Nat := 0x7841
/-- TABLE LaneEyeMargin (R502). -/
def LaneEyeMargin : Nat := 0x7851
/-- TABLE PoolQuotas (R503). -/
def PoolQuotas : Nat := 0x7863
/-- TABLE SweepSets (R522). -/
def SweepSets : Nat := 0x8001
/-- TABLE SweepSelect (R522). -/
def SweepSelect : Nat := 0x8002
/-- TABLE SweepCatalog (R522). -/
def SweepCatalog : Nat := 0x8010
/-- TABLE EventFilters (R523). -/
def EventFilters : Nat := 0x8201
/-- TABLE EventTrace (R523). -/
def EventTrace : Nat := 0x8202
/-- TABLE ActionSampleConfig (R523). -/
def ActionSampleConfig : Nat := 0x8300
/-- TABLE PortBandwidth (R523). -/
def PortBandwidth : Nat := 0x8401
/-- TABLE FaultReactions (R539). -/
def FaultReactions : Nat := 0x8801
/-- TABLE FaultCounts (R539). -/
def FaultCounts : Nat := 0x8802
/-- TABLE FaultLog (R539). -/
def FaultLog : Nat := 0x8803
/-- TABLE AonComparators (R562). -/
def AonComparators : Nat := 0x9020
/-- TABLE TimeAlarms (R562). -/
def TimeAlarms : Nat := 0x9023

end T
end Sys2Proof.Machine
end

