-- ==== Sys2Proof/Machine/EntryTable.lean ====
section
/-!
DEFINITION. The attributes of every dictionary entry and TABLE (R31 to R34): type, access code, required privilege, default,
whether it is a notification object (R60), and the check on a single value (R36 step 6). Made from the entry tables of the
spec's chapters. Checks that relate an entry to others are in Sys2Proof/Machine/Checks.lean.
-/
namespace Sys2Proof.Machine

/-- The data types of R32 that published entries use. -/
inductive Ty where
  | bool | u8 | u16 | u32 | u64 | i32 | i64 | timex | tick64 | str | domain | table
  deriving DecidableEq, Repr

/-- The type code of R32. -/
def Ty.code : Ty → Nat
  | .bool => 0x01 | .u8 => 0x02 | .u16 => 0x03 | .u32 => 0x04 | .u64 => 0x05 | .i32 => 0x06 | .i64 => 0x07
  | .timex => 0x08 | .tick64 => 0x09 | .str => 0x0D | .domain => 0x0E | .table => 0x0F

/-- The size in bytes of a type (R32); 0 for STR, DOMAIN and TABLE. -/
def Ty.bytes : Ty → Nat
  | .bool | .u8 => 1 | .u16 => 2 | .u32 | .i32 => 4 | .u64 | .i64 | .tick64 => 8 | .timex => 12
  | .str | .domain | .table => 0

/-- Whether the value is a two's complement number. -/
def Ty.signed : Ty → Bool
  | .i32 | .i64 => true
  | _ => false

/-- The access codes of R12. -/
inductive Acc where
  | ro | rw | wo | rc | rwt
  deriving DecidableEq, Repr

/-- The check of one value on its own: any; a range; a range or one more value; only the bits of a mask; a DOMAIN or STR length. -/
inductive Chk where
  | any
  | rng (lo hi : Int)
  | rngOr (lo hi x : Int)
  | mask (m : Nat)
  | fixedLen (n : Nat)
  | lenRange (lo hi : Nat)
  deriving DecidableEq, Repr

/-- One line of an entry table: instances at idx, idx + step, ..., each with sub-indices subLo to subHi. The default of instance
or sub-index number i is dflt + i * dstep. -/
structure EntrySpec where
  idx    : Nat
  n      : Nat
  step   : Nat
  subLo  : Nat
  subHi  : Nat
  ty     : Ty
  acc    : Acc
  priv   : Nat
  dflt   : Nat
  dstep  : Nat
  notify : Bool
  chk    : Chk
  deriving DecidableEq, Repr

/-- One TABLE: instances idx to idx + n - 1, row size and capacity, its valid bit where it has one, the reserved bits of a row, the
row's reset value where it is the same for every row, the number of its row layout, and field ranges (hi, lo, least, most). -/
structure TableSpec where
  idx    : Nat
  n      : Nat
  bits   : Nat
  cap    : Nat
  valid  : Option Nat
  resv   : Nat
  dflt   : Nat
  layout : Nat
  ranges : List (Nat × Nat × Nat × Nat)
  deriving DecidableEq, Repr

/-- The entries of area 0x0100. -/
def entries01a : List EntrySpec := [
  ⟨0x0100, 1, 0x1, 0x1, 0x1, .str, .ro, 4, 0x0, 0, false, .lenRange 0 21⟩,
  ⟨0x0100, 1, 0x1, 0x2, 0x2, .str, .ro, 4, 0x0, 0, false, .lenRange 0 6⟩,
  ⟨0x0100, 1, 0x1, 0x3, 0x3, .str, .ro, 4, 0x0, 0, false, .lenRange 0 11⟩,
  ⟨0x0100, 1, 0x1, 0x4, 0x4, .u16, .ro, 4, 0x0, 0, false, .any⟩,
  ⟨0x0100, 1, 0x1, 0x5, 0x5, .u64, .ro, 4, 0x0, 0, false, .any⟩,
  ⟨0x0100, 1, 0x1, 0x6, 0x6, .u32, .ro, 4, 0x10000, 0, false, .any⟩,
  ⟨0x0100, 1, 0x1, 0x7, 0x7, .u32, .ro, 4, 0x0, 0, false, .any⟩,
  ⟨0x0100, 1, 0x1, 0x8, 0x8, .u32, .ro, 4, 0x0, 0, false, .any⟩,
  ⟨0x0100, 1, 0x1, 0x9, 0x9, .str, .rw, 2, 0x0, 0, false, .lenRange 0 32⟩,
  ⟨0x0110, 1, 0x1, 0x1, 0x1, .u8, .ro, 4, 0x60, 0, false, .any⟩,
  ⟨0x0110, 1, 0x1, 0x2, 0x2, .u8, .ro, 4, 0x8, 0, false, .any⟩,
  ⟨0x0110, 1, 0x1, 0x3, 0x3, .u32, .ro, 4, 0x60000, 0, false, .any⟩,
  ⟨0x0110, 1, 0x1, 0x4, 0x4, .u64, .ro, 4, 0x800000000, 0, false, .any⟩,
  ⟨0x0110, 1, 0x1, 0x5, 0x5, .u16, .ro, 4, 0x1000, 0, false, .any⟩,
  ⟨0x0110, 1, 0x1, 0x6, 0x6, .u8, .ro, 4, 0x38, 0, false, .any⟩,
  ⟨0x0110, 1, 0x1, 0x7, 0x7, .u8, .ro, 4, 0x8, 0, false, .any⟩,
  ⟨0x0110, 1, 0x1, 0x8, 0x8, .u16, .ro, 4, 0x4000, 0, false, .any⟩,
  ⟨0x0110, 1, 0x1, 0x9, 0x9, .u8, .ro, 4, 0x10, 0, false, .any⟩,
  ⟨0x0110, 1, 0x1, 0xA, 0xA, .u8, .ro, 4, 0x40, 0, false, .any⟩,
  ⟨0x0110, 1, 0x1, 0xB, 0xB, .u16, .ro, 4, 0x1000, 0, false, .any⟩,
  ⟨0x0110, 1, 0x1, 0xC, 0xC, .u16, .ro, 4, 0x5B4, 0, false, .any⟩]

/-- The entries of area 0x0200. -/
def entries02a : List EntrySpec := [
  ⟨0x0200, 1, 0x1, 0x1, 0x1, .u8, .ro, 2, 0x0, 0, false, .any⟩,
  ⟨0x0200, 1, 0x1, 0x2, 0x2, .bool, .ro, 2, 0x0, 0, false, .any⟩,
  ⟨0x0200, 1, 0x1, 0x3, 0x3, .u32, .wo, 2, 0x0, 0, false, .rng (1398034258) (1398034258)⟩,
  ⟨0x0200, 1, 0x1, 0x4, 0x4, .u8, .ro, 2, 0x0, 0, true, .any⟩,
  ⟨0x0200, 1, 0x1, 0x5, 0x5, .u32, .rc, 2, 0x0, 0, false, .any⟩,
  ⟨0x0210, 1, 0x1, 0x1, 0x1, .u16, .rw, 2, 0x88B5, 0, false, .rng (1536) (65535)⟩,
  ⟨0x0210, 1, 0x1, 0x2, 0x2, .bool, .rw, 2, 0x1, 0, false, .any⟩,
  ⟨0x0210, 1, 0x1, 0x3, 0x3, .u16, .rw, 2, 0x0, 0, false, .rng (0) (16383)⟩,
  ⟨0x0210, 1, 0x1, 0x4, 0x4, .u8, .rw, 2, 0x20, 0, false, .rng (1) (255)⟩,
  ⟨0x0210, 1, 0x1, 0x5, 0x5, .u64, .rw, 2, 0xFFFFFFFFFFFFFFFF, 0, false, .any⟩,
  ⟨0x0210, 1, 0x1, 0x6, 0x6, .u64, .rw, 2, 0xFFFFFFFF, 0, false, .mask 0xFFFFFFFF⟩,
  ⟨0x0210, 1, 0x1, 0x7, 0x7, .u8, .rw, 2, 0x7, 0, false, .rng (0) (7)⟩,
  ⟨0x0210, 1, 0x1, 0x8, 0x8, .u32, .rw, 2, 0x3C, 0, false, .rng (1) (3600)⟩,
  ⟨0x0210, 1, 0x1, 0x9, 0x9, .u32, .rc, 2, 0x0, 0, false, .any⟩,
  ⟨0x0210, 1, 0x1, 0xA, 0xA, .u32, .rc, 2, 0x0, 0, true, .any⟩,
  ⟨0x0210, 1, 0x1, 0xB, 0xB, .u32, .rc, 2, 0x0, 0, false, .any⟩,
  ⟨0x0210, 1, 0x1, 0xC, 0xC, .u32, .rc, 2, 0x0, 0, false, .any⟩,
  ⟨0x0210, 1, 0x1, 0xD, 0xD, .u32, .rc, 2, 0x0, 0, false, .any⟩,
  ⟨0x0210, 1, 0x1, 0xE, 0xE, .u64, .rc, 2, 0x0, 0, false, .any⟩,
  ⟨0x0220, 2, 0x1, 0x1, 0x1, .bool, .rw, 2, 0x0, 0, false, .any⟩,
  ⟨0x0220, 2, 0x1, 0x2, 0x2, .u32, .rw, 2, 0x6A0, 1, false, .mask 0x9FFFFFFF⟩,
  ⟨0x0220, 2, 0x1, 0x3, 0x3, .u32, .rw, 2, 0x5A0, 1, false, .mask 0x9FFFFFFF⟩,
  ⟨0x0220, 2, 0x1, 0x4, 0x4, .u8, .rw, 2, 0x4, 0, false, .rng (3) (4)⟩,
  ⟨0x0220, 2, 0x1, 0x5, 0x5, .u32, .rw, 2, 0x7A120, 0, false, .rng (125000) (1000000)⟩,
  ⟨0x0220, 2, 0x1, 0x6, 0x6, .u32, .rw, 2, 0x1E8480, 0, false, .rng (125000) (5000000)⟩,
  ⟨0x0220, 2, 0x1, 0x7, 0x7, .u32, .rc, 2, 0x0, 0, false, .any⟩,
  ⟨0x0230, 1, 0x1, 0x0, 0x0, .table, .ro, 2, 0x0, 0, false, .any⟩,
  ⟨0x0240, 1, 0x1, 0x0, 0x0, .table, .rw, 2, 0x0, 0, false, .any⟩,
  ⟨0x0250, 1, 0x1, 0x0, 0x0, .table, .ro, 2, 0x0, 0, false, .any⟩,
  ⟨0x0280, 1, 0x1, 0x1, 0x1, .u32, .ro, 2, 0x0, 0, true, .any⟩,
  ⟨0x0280, 1, 0x1, 0x2, 0x2, .u32, .ro, 2, 0x0, 0, false, .any⟩,
  ⟨0x0280, 1, 0x1, 0x3, 0x3, .u32, .ro, 2, 0x0, 0, false, .any⟩,
  ⟨0x0280, 1, 0x1, 0x4, 0x4, .u32, .ro, 4, 0x20000, 0, false, .any⟩,
  ⟨0x0280, 1, 0x1, 0x5, 0x5, .u32, .ro, 4, 0xC350, 0, false, .any⟩,
  ⟨0x0280, 1, 0x1, 0x6, 0x6, .u8, .ro, 2, 0x0, 0, false, .any⟩,
  ⟨0x0280, 1, 0x1, 0x7, 0x7, .u64, .ro, 2, 0x0, 0, false, .any⟩,
  ⟨0x0280, 1, 0x1, 0x8, 0x8, .u32, .rc, 2, 0x0, 0, false, .any⟩,
  ⟨0x0280, 1, 0x1, 0x9, 0x9, .u32, .rc, 2, 0x0, 0, false, .any⟩,
  ⟨0x0280, 1, 0x1, 0xA, 0xA, .u32, .rc, 2, 0x0, 0, false, .any⟩,
  ⟨0x0280, 1, 0x1, 0xB, 0xB, .tick64, .ro, 2, 0x0, 0, false, .any⟩]

/-- The entries of area 0x0200. -/
def entries02b : List EntrySpec := [
  ⟨0x0281, 1, 0x1, 0x1, 0x1, .u8, .rw, 2, 0xFF, 0, false, .rngOr (0) (15) (255)⟩,
  ⟨0x0290, 1, 0x1, 0x0, 0x0, .table, .ro, 2, 0x0, 0, false, .any⟩,
  ⟨0x0291, 1, 0x1, 0x0, 0x0, .table, .ro, 2, 0x0, 0, false, .any⟩,
  ⟨0x0292, 1, 0x1, 0x1, 0x1, .u32, .ro, 2, 0x0, 0, true, .any⟩]

/-- The entries of area 0x0300. -/
def entries03a : List EntrySpec := [
  ⟨0x0300, 1, 0x1, 0x1, 0x8, .domain, .wo, 2, 0x0, 0, false, .fixedLen 32⟩,
  ⟨0x0301, 1, 0x1, 0x1, 0x8, .bool, .rw, 2, 0x0, 0, false, .any⟩,
  ⟨0x0302, 1, 0x1, 0x1, 0x8, .bool, .rw, 2, 0x0, 0, false, .any⟩,
  ⟨0x0303, 1, 0x1, 0x1, 0x8, .u32, .rc, 2, 0x0, 0, false, .any⟩]

/-- The entries of area 0x1000. -/
def entries10a : List EntrySpec := [
  ⟨0x1000, 96, 0x10, 0x1, 0x1, .bool, .rw, 2, 0x1, 0, false, .any⟩,
  ⟨0x1000, 96, 0x10, 0x2, 0x2, .u8, .rw, 2, 0x3, 0, false, .any⟩,
  ⟨0x1000, 96, 0x10, 0x3, 0x3, .u8, .rw, 2, 0x1, 0, false, .rng (0) (2)⟩,
  ⟨0x1000, 96, 0x10, 0x4, 0x4, .u8, .rw, 2, 0xFF, 0, false, .any⟩,
  ⟨0x1000, 96, 0x10, 0x5, 0x5, .bool, .rw, 2, 0x1, 0, false, .any⟩,
  ⟨0x1000, 96, 0x10, 0x6, 0x6, .u32, .rw, 2, 0x3F, 0, false, .mask 0x1F3F⟩,
  ⟨0x1000, 96, 0x10, 0x7, 0x7, .u16, .rw, 2, 0x2400, 0, false, .rng (64) (9216)⟩,
  ⟨0x1000, 96, 0x10, 0x8, 0x8, .u32, .rw, 2, 0x0, 0, false, .rng (0) (100000)⟩,
  ⟨0x1000, 96, 0x10, 0x9, 0x9, .bool, .rw, 2, 0x1, 0, false, .any⟩,
  ⟨0x1000, 96, 0x10, 0xA, 0xA, .u8, .rw, 2, 0x0, 0, false, .mask 0xF⟩,
  ⟨0x1000, 96, 0x10, 0xB, 0xB, .u8, .rw, 2, 0x0, 0, false, .mask 0xF⟩,
  ⟨0x1001, 96, 0x10, 0x1, 0x1, .u8, .ro, 2, 0x1, 0, true, .any⟩,
  ⟨0x1001, 96, 0x10, 0x2, 0x2, .u8, .ro, 2, 0x0, 0, false, .any⟩,
  ⟨0x1001, 96, 0x10, 0x3, 0x3, .u8, .ro, 2, 0x0, 0, false, .any⟩,
  ⟨0x1001, 96, 0x10, 0x4, 0x4, .u8, .ro, 2, 0x0, 0, false, .any⟩,
  ⟨0x1001, 96, 0x10, 0x5, 0x5, .u32, .ro, 2, 0x0, 0, false, .any⟩,
  ⟨0x1001, 96, 0x10, 0x6, 0x6, .u32, .ro, 2, 0x0, 0, false, .any⟩,
  ⟨0x1001, 96, 0x10, 0x7, 0x7, .u64, .ro, 2, 0x0, 0, false, .any⟩,
  ⟨0x1001, 96, 0x10, 0x8, 0x8, .u64, .ro, 2, 0x0, 0, false, .any⟩,
  ⟨0x1001, 96, 0x10, 0x9, 0x9, .u64, .ro, 2, 0x0, 0, false, .any⟩,
  ⟨0x1001, 96, 0x10, 0xA, 0xA, .u64, .ro, 2, 0x0, 0, false, .any⟩,
  ⟨0x1002, 96, 0x10, 0x1, 0x1, .u32, .rwt, 2, 0x258, 0, false, .rng (600) (1000000)⟩,
  ⟨0x1002, 96, 0x10, 0x2, 0x2, .u8, .rwt, 2, 0x0, 0, false, .mask 0xF⟩,
  ⟨0x1002, 96, 0x10, 0x3, 0x3, .u32, .rw, 2, 0xA, 0, false, .rng (0) (100000)⟩,
  ⟨0x1002, 96, 0x10, 0x4, 0x4, .u8, .rw, 2, 0x0, 0, false, .rng (0) (1)⟩,
  ⟨0x1002, 96, 0x10, 0x5, 0x5, .u64, .ro, 2, 0x0, 0, false, .any⟩,
  ⟨0x1002, 96, 0x10, 0x6, 0x6, .u64, .ro, 2, 0x0, 0, false, .any⟩,
  ⟨0x1002, 96, 0x10, 0x7, 0x7, .bool, .rw, 2, 0x0, 0, false, .any⟩,
  ⟨0x1002, 96, 0x10, 0x8, 0x8, .u16, .rwt, 2, 0xFF, 0, false, .any⟩,
  ⟨0x1002, 96, 0x10, 0x9, 0x9, .u8, .rw, 2, 0x0, 0, false, .rng (0) (3)⟩,
  ⟨0x1002, 96, 0x10, 0xA, 0xA, .bool, .rw, 2, 0x0, 0, false, .any⟩,
  ⟨0x1002, 96, 0x10, 0xB, 0xB, .u8, .rw, 2, 0xA, 0, false, .rng (1) (128)⟩,
  ⟨0x1002, 96, 0x10, 0xC, 0xC, .u8, .ro, 2, 0x0, 0, false, .any⟩,
  ⟨0x1002, 96, 0x10, 0xD, 0xD, .u64, .ro, 2, 0x0, 0, false, .any⟩,
  ⟨0x1002, 96, 0x10, 0xE, 0xE, .u64, .ro, 2, 0x0, 0, false, .any⟩,
  ⟨0x1003, 101, 0x10, 0x1, 0x1, .u64, .ro, 2, 0x0, 0, false, .any⟩,
  ⟨0x1004, 101, 0x10, 0x1, 0x1, .u64, .ro, 2, 0x0, 0, false, .any⟩,
  ⟨0x1003, 101, 0x10, 0x2, 0x2, .u64, .ro, 2, 0x0, 0, false, .any⟩,
  ⟨0x1004, 101, 0x10, 0x2, 0x2, .u64, .ro, 2, 0x0, 0, false, .any⟩,
  ⟨0x1003, 96, 0x10, 0x3, 0x3, .u64, .ro, 2, 0x0, 0, false, .any⟩]

/-- The entries of area 0x1000. -/
def entries10b : List EntrySpec := [
  ⟨0x1004, 96, 0x10, 0x3, 0x3, .u64, .ro, 2, 0x0, 0, false, .any⟩,
  ⟨0x1003, 96, 0x10, 0x4, 0x4, .u64, .ro, 2, 0x0, 0, false, .any⟩,
  ⟨0x1004, 96, 0x10, 0x4, 0x4, .u64, .ro, 2, 0x0, 0, false, .any⟩,
  ⟨0x1003, 96, 0x10, 0x5, 0x5, .u64, .ro, 2, 0x0, 0, false, .any⟩,
  ⟨0x1004, 96, 0x10, 0x5, 0x5, .u64, .ro, 2, 0x0, 0, false, .any⟩,
  ⟨0x1003, 96, 0x10, 0x6, 0x6, .u64, .ro, 2, 0x0, 0, false, .any⟩,
  ⟨0x1004, 96, 0x10, 0x6, 0x6, .u64, .ro, 2, 0x0, 0, false, .any⟩,
  ⟨0x1003, 96, 0x10, 0x7, 0x7, .u64, .ro, 2, 0x0, 0, false, .any⟩,
  ⟨0x1004, 96, 0x10, 0x7, 0x7, .u64, .ro, 2, 0x0, 0, false, .any⟩,
  ⟨0x1003, 96, 0x10, 0x8, 0x8, .u64, .ro, 2, 0x0, 0, false, .any⟩,
  ⟨0x1004, 96, 0x10, 0x8, 0x8, .u64, .ro, 2, 0x0, 0, false, .any⟩,
  ⟨0x1003, 96, 0x10, 0x9, 0x9, .u64, .ro, 2, 0x0, 0, false, .any⟩,
  ⟨0x1004, 96, 0x10, 0x9, 0x9, .u64, .ro, 2, 0x0, 0, false, .any⟩,
  ⟨0x1003, 96, 0x10, 0xA, 0xA, .u64, .ro, 2, 0x0, 0, false, .any⟩,
  ⟨0x1004, 96, 0x10, 0xA, 0xA, .u64, .ro, 2, 0x0, 0, false, .any⟩,
  ⟨0x1003, 96, 0x10, 0xB, 0xB, .u64, .ro, 2, 0x0, 0, false, .any⟩,
  ⟨0x1003, 96, 0x10, 0xC, 0xC, .u64, .ro, 2, 0x0, 0, false, .any⟩,
  ⟨0x1003, 96, 0x10, 0xD, 0xD, .u64, .ro, 2, 0x0, 0, false, .any⟩,
  ⟨0x1003, 96, 0x10, 0xE, 0xE, .u64, .ro, 2, 0x0, 0, false, .any⟩,
  ⟨0x1003, 96, 0x10, 0xF, 0xF, .u64, .ro, 2, 0x0, 0, false, .any⟩]

/-- The entries of area 0x1600. -/
def entries16a : List EntrySpec := [
  ⟨0x1630, 1, 0x1, 0x5, 0x5, .u64, .ro, 2, 0x0, 0, false, .any⟩]

/-- The entries of area 0x2000. -/
def entries20a : List EntrySpec := [
  ⟨0x2000, 1, 0x1, 0x1, 0x1, .u64, .ro, 2, 0x0, 0, false, .any⟩,
  ⟨0x2000, 1, 0x1, 0x2, 0x2, .u8, .rw, 2, 0x0, 0, false, .rng (0) (2)⟩,
  ⟨0x2000, 1, 0x1, 0x3, 0x3, .u8, .rw, 2, 0x0, 0, false, .rng (0) (95)⟩,
  ⟨0x2000, 1, 0x1, 0x4, 0x4, .u8, .ro, 2, 0x0, 0, true, .any⟩,
  ⟨0x2000, 1, 0x1, 0x5, 0x5, .i32, .ro, 2, 0x80000000, 0, false, .any⟩,
  ⟨0x2000, 1, 0x1, 0x6, 0x6, .u32, .rc, 2, 0x0, 0, false, .any⟩,
  ⟨0x2050, 1, 0x1, 0x1, 0x1, .u8, .rw, 2, 0x7, 0, false, .rng (0) (7)⟩,
  ⟨0x2060, 1, 0x1, 0x0, 0x0, .table, .ro, 2, 0x0, 0, false, .any⟩,
  ⟨0x2061, 1, 0x1, 0x1, 0x1, .u32, .ro, 2, 0x0, 0, true, .any⟩,
  ⟨0x2010, 2, 0x1, 0x1, 0x1, .u8, .ro, 2, 0x0, 0, true, .any⟩,
  ⟨0x2010, 2, 0x1, 0x2, 0x2, .timex, .ro, 2, 0x0, 0, false, .any⟩,
  ⟨0x2010, 2, 0x1, 0x3, 0x3, .timex, .wo, 2, 0x0, 0, false, .any⟩,
  ⟨0x2010, 2, 0x1, 0x4, 0x4, .i64, .rw, 2, 0x0, 0, false, .rng (-281474976710) (281474976710)⟩,
  ⟨0x2010, 2, 0x1, 0x5, 0x5, .i64, .wo, 2, 0x0, 0, false, .any⟩,
  ⟨0x2010, 2, 0x1, 0x6, 0x6, .u32, .rw, 2, 0x64, 0, false, .rng (1) (10000)⟩,
  ⟨0x2010, 2, 0x1, 0x7, 0x7, .u32, .rw, 2, 0x64, 0, false, .rng (1) (1000)⟩,
  ⟨0x2010, 2, 0x1, 0x8, 0x8, .u32, .rw, 2, 0xFA00, 0, false, .rng (1) (16777215)⟩,
  ⟨0x2010, 2, 0x1, 0x9, 0x9, .bool, .rw, 2, 0x0, 0, true, .any⟩,
  ⟨0x2010, 2, 0x1, 0xA, 0xA, .u8, .wo, 2, 0x0, 0, false, .rng (1) (1)⟩,
  ⟨0x2010, 2, 0x1, 0xB, 0xB, .u32, .rc, 2, 0x0, 0, false, .any⟩,
  ⟨0x2010, 2, 0x1, 0xC, 0xC, .u32, .ro, 2, 0x0, 0, false, .any⟩,
  ⟨0x2010, 2, 0x1, 0xD, 0xD, .u8, .rw, 2, 0x0, 1, false, .any⟩,
  ⟨0x2010, 2, 0x1, 0xE, 0xE, .u8, .rw, 2, 0x0, 0, false, .rng (0) (15)⟩,
  ⟨0x2010, 2, 0x1, 0xF, 0xF, .u8, .rw, 2, 0x1, 0, false, .mask 0x7⟩,
  ⟨0x2010, 2, 0x1, 0x10, 0x10, .u8, .rw, 2, 0x2, 0, false, .rng (0) (2)⟩,
  ⟨0x2010, 2, 0x1, 0x11, 0x11, .u8, .rw, 2, 0x1, 0, false, .rng (0) (1)⟩,
  ⟨0x2010, 2, 0x1, 0x12, 0x12, .bool, .rw, 2, 0x0, 0, false, .any⟩,
  ⟨0x2010, 2, 0x1, 0x13, 0x13, .u32, .rw, 2, 0x7D00, 0, false, .rng (1) (16777215)⟩,
  ⟨0x2010, 2, 0x1, 0x14, 0x14, .u32, .rw, 2, 0x0, 0, false, .rng (0) (16777215)⟩,
  ⟨0x2010, 2, 0x1, 0x15, 0x15, .u8, .rw, 2, 0x0, 0, false, .rng (1) (3)⟩,
  ⟨0x2010, 2, 0x1, 0x16, 0x16, .u32, .rc, 2, 0x0, 0, false, .any⟩,
  ⟨0x2020, 1, 0x1, 0x1, 0x1, .u8, .rw, 2, 0x0, 0, true, .rng (0) (1)⟩,
  ⟨0x2020, 1, 0x1, 0x2, 0x2, .u32, .rw, 2, 0xA, 0, false, .rng (1) (100)⟩,
  ⟨0x2020, 1, 0x1, 0x3, 0x3, .u8, .ro, 2, 0x0, 0, true, .any⟩,
  ⟨0x2020, 1, 0x1, 0x4, 0x4, .timex, .ro, 2, 0x0, 0, false, .any⟩,
  ⟨0x2020, 1, 0x1, 0x5, 0x5, .i64, .ro, 2, 0x0, 0, false, .any⟩,
  ⟨0x2020, 1, 0x1, 0x6, 0x6, .bool, .rw, 2, 0x0, 0, false, .any⟩,
  ⟨0x2020, 1, 0x1, 0x7, 0x7, .u8, .wo, 2, 0x0, 0, false, .rng (1) (1)⟩,
  ⟨0x2020, 1, 0x1, 0x8, 0x8, .u32, .rc, 2, 0x0, 0, false, .any⟩,
  ⟨0x2020, 1, 0x1, 0x9, 0x9, .u32, .ro, 2, 0x0, 0, false, .any⟩]

/-- The entries of area 0x2000. -/
def entries20b : List EntrySpec := [
  ⟨0x2030, 1, 0x1, 0x1, 0x1, .u32, .rwt, 2, 0x7A12, 0, false, .rng (2000) (1000000)⟩,
  ⟨0x2030, 1, 0x1, 0x2, 0x2, .u32, .rwt, 2, 0x0, 0, false, .rng (0) (999999)⟩,
  ⟨0x2030, 1, 0x1, 0x3, 0x3, .tick64, .ro, 2, 0x0, 0, false, .any⟩,
  ⟨0x2030, 1, 0x1, 0x4, 0x4, .u32, .rc, 2, 0x0, 0, false, .any⟩,
  ⟨0x2040, 2, 0x1, 0x1, 0x1, .u8, .rw, 2, 0x0, 1, false, .rng (0) (3)⟩,
  ⟨0x2040, 2, 0x1, 0x2, 0x2, .u32, .rw, 2, 0x186A0, 0, false, .rng (100) (500000000)⟩,
  ⟨0x2040, 2, 0x1, 0x3, 0x3, .i32, .rw, 2, 0x0, 0, false, .rng (-500000000) (500000000)⟩,
  ⟨0x2040, 2, 0x1, 0x4, 0x4, .bool, .rw, 2, 0x0, 0, false, .any⟩,
  ⟨0x2040, 2, 0x1, 0x5, 0x5, .bool, .rw, 2, 0x0, 0, false, .any⟩,
  ⟨0x2040, 2, 0x1, 0x6, 0x6, .u8, .rw, 2, 0x0, 0, false, .rng (0) (1)⟩,
  ⟨0x2040, 2, 0x1, 0x7, 0x7, .i32, .ro, 2, 0x80000000, 0, false, .any⟩,
  ⟨0x2040, 2, 0x1, 0x8, 0x8, .u32, .rc, 2, 0x0, 0, false, .any⟩]

/-- The entries of area 0x2100. -/
def entries21a : List EntrySpec := [
  ⟨0x2100, 96, 0x1, 0x1, 0x1, .u8, .rw, 2, 0x0, 0, false, .rng (0) (4)⟩,
  ⟨0x2100, 96, 0x1, 0x2, 0x2, .u8, .rw, 2, 0x0, 0, false, .rng (0) (4)⟩,
  ⟨0x2100, 96, 0x1, 0x3, 0x3, .i32, .rw, 2, 0x0, 0, false, .rng (-100000) (100000)⟩,
  ⟨0x2100, 96, 0x1, 0x4, 0x4, .i32, .rw, 2, 0x0, 0, false, .rng (-100000) (100000)⟩,
  ⟨0x2100, 96, 0x1, 0x5, 0x5, .i32, .rw, 2, 0x0, 0, false, .rng (-1000000) (1000000)⟩,
  ⟨0x2100, 96, 0x1, 0x6, 0x6, .u32, .rw, 2, 0x0, 0, false, .rng (0) (16777215)⟩,
  ⟨0x2100, 96, 0x1, 0x7, 0x7, .i64, .ro, 2, 0x0, 0, false, .any⟩,
  ⟨0x2100, 96, 0x1, 0x8, 0x8, .i64, .ro, 2, 0x0, 0, false, .any⟩,
  ⟨0x2100, 96, 0x1, 0x9, 0x9, .bool, .ro, 2, 0x0, 0, false, .any⟩,
  ⟨0x2100, 96, 0x1, 0xA, 0xA, .u8, .ro, 2, 0x0, 0, false, .any⟩,
  ⟨0x2100, 96, 0x1, 0xB, 0xB, .u32, .rc, 2, 0x0, 0, false, .any⟩,
  ⟨0x2100, 96, 0x1, 0xC, 0xC, .u32, .rc, 2, 0x0, 0, false, .any⟩]

/-- The entries of area 0x3000. -/
def entries30a : List EntrySpec := [
  ⟨0x3000, 1, 0x1, 0x1, 0x1, .u16, .rw, 2, 0x0, 0, false, .rngOr (1536) (65535) (0)⟩,
  ⟨0x3000, 1, 0x1, 0x2, 0x2, .u16, .ro, 4, 0x100, 0, false, .any⟩,
  ⟨0x3001, 1, 0x1, 0x1, 0x10, .u64, .ro, 2, 0x0, 0, false, .any⟩,
  ⟨0x3002, 1, 0x1, 0x1, 0x8, .u32, .rwt, 2, 0x0, 0, false, .any⟩,
  ⟨0x3008, 1, 0x1, 0x1, 0x8, .u64, .ro, 2, 0x0, 0, false, .any⟩,
  ⟨0x3009, 1, 0x1, 0x1, 0x8, .u64, .ro, 2, 0x0, 0, false, .any⟩,
  ⟨0x300A, 1, 0x1, 0x1, 0x8, .u64, .ro, 2, 0x0, 0, false, .any⟩,
  ⟨0x300B, 1, 0x1, 0x1, 0x8, .u64, .ro, 2, 0x0, 0, false, .any⟩,
  ⟨0x300C, 1, 0x1, 0x1, 0x4, .u32, .rc, 2, 0x0, 0, true, .any⟩,
  ⟨0x300D, 1, 0x1, 0x1, 0x8, .u32, .rc, 2, 0x0, 0, false, .any⟩,
  ⟨0x3020, 1, 0x1, 0x0, 0x0, .table, .rw, 2, 0x0, 0, false, .any⟩,
  ⟨0x3030, 1, 0x1, 0x0, 0x0, .table, .rw, 2, 0x0, 0, false, .any⟩,
  ⟨0x3040, 1, 0x1, 0x1, 0x20, .u8, .rw, 2, 0x0, 0, false, .any⟩,
  ⟨0x3041, 1, 0x1, 0x1, 0x20, .u8, .rw, 2, 0x0, 0, false, .any⟩,
  ⟨0x3042, 1, 0x1, 0x1, 0x20, .bool, .rw, 2, 0x0, 0, false, .any⟩,
  ⟨0x3043, 1, 0x1, 0x1, 0x1, .u8, .ro, 2, 0x0, 0, false, .any⟩,
  ⟨0x3050, 1, 0x1, 0x1, 0x10, .u32, .rw, 2, 0x7CE, 0, false, .any⟩,
  ⟨0x3051, 1, 0x1, 0x1, 0x10, .u32, .rw, 2, 0xFFFFFFFF, 0, false, .any⟩,
  ⟨0x3052, 1, 0x1, 0x1, 0x10, .bool, .rw, 2, 0x0, 0, false, .any⟩,
  ⟨0x3060, 1, 0x1, 0x0, 0x0, .table, .rw, 2, 0x0, 0, false, .any⟩]

/-- The entries of area 0x3100. -/
def entries31a : List EntrySpec := [
  ⟨0x3100, 1, 0x1, 0x0, 0x0, .table, .rw, 2, 0x0, 0, false, .any⟩,
  ⟨0x3101, 1, 0x1, 0x0, 0x0, .table, .rw, 2, 0x0, 0, false, .any⟩]

/-- The entries of area 0x3200. -/
def entries32a : List EntrySpec := [
  ⟨0x3200, 4, 0x1, 0x0, 0x0, .table, .rw, 2, 0x0, 0, false, .any⟩,
  ⟨0x3204, 1, 0x1, 0x0, 0x0, .table, .rw, 2, 0x0, 0, false, .any⟩,
  ⟨0x3210, 4, 0x1, 0x0, 0x0, .table, .rw, 2, 0x0, 0, false, .any⟩,
  ⟨0x3214, 1, 0x1, 0x0, 0x0, .table, .rw, 2, 0x0, 0, false, .any⟩,
  ⟨0x3220, 4, 0x1, 0x0, 0x0, .table, .rw, 2, 0x0, 0, false, .any⟩,
  ⟨0x3224, 1, 0x1, 0x0, 0x0, .table, .rw, 2, 0x0, 0, false, .any⟩,
  ⟨0x3230, 1, 0x1, 0x0, 0x0, .table, .rwt, 2, 0x0, 0, false, .any⟩,
  ⟨0x3231, 1, 0x1, 0x0, 0x0, .table, .rwt, 2, 0x0, 0, false, .any⟩]

/-- The entries of area 0x3400. -/
def entries34a : List EntrySpec := [
  ⟨0x3400, 1, 0x1, 0x1, 0x1, .u32, .rw, 2, 0x12C, 0, false, .rng (1) (1000000)⟩,
  ⟨0x3400, 1, 0x1, 0x2, 0x2, .bool, .rw, 2, 0x1, 0, false, .any⟩,
  ⟨0x3400, 1, 0x1, 0x3, 0x3, .u32, .rw, 2, 0x3E8, 0, false, .rng (0) (1000000)⟩,
  ⟨0x3400, 1, 0x1, 0x4, 0x4, .bool, .rw, 2, 0x0, 0, false, .any⟩,
  ⟨0x3400, 1, 0x1, 0x5, 0x5, .u32, .rw, 2, 0x186A0, 0, false, .rng (0) (1000000)⟩,
  ⟨0x3401, 1, 0x1, 0x1, 0x8, .u32, .ro, 2, 0x0, 0, false, .any⟩,
  ⟨0x3402, 1, 0x1, 0x1, 0x8, .u64, .ro, 2, 0x0, 0, false, .any⟩,
  ⟨0x3403, 1, 0x1, 0x1, 0x8, .u64, .ro, 2, 0x0, 0, false, .any⟩,
  ⟨0x3404, 1, 0x1, 0x1, 0x8, .u32, .rc, 2, 0x0, 0, true, .any⟩,
  ⟨0x3405, 1, 0x1, 0x1, 0x8, .u64, .ro, 2, 0x0, 0, false, .any⟩,
  ⟨0x3406, 1, 0x1, 0x1, 0x8, .u32, .rc, 2, 0x0, 0, false, .any⟩,
  ⟨0x3407, 1, 0x1, 0x1, 0x8, .u32, .rc, 2, 0x0, 0, false, .any⟩,
  ⟨0x3408, 1, 0x1, 0x1, 0x8, .u32, .rc, 2, 0x0, 0, false, .any⟩,
  ⟨0x3409, 1, 0x1, 0x1, 0x8, .u64, .ro, 2, 0x0, 0, false, .any⟩,
  ⟨0x340A, 1, 0x1, 0x1, 0x8, .u32, .rc, 2, 0x0, 0, false, .any⟩,
  ⟨0x3410, 1, 0x1, 0x1, 0x1, .domain, .wo, 2, 0x0, 0, false, .fixedLen 14⟩,
  ⟨0x3411, 1, 0x1, 0x1, 0x1, .domain, .wo, 2, 0x0, 0, false, .fixedLen 9⟩,
  ⟨0x3412, 1, 0x1, 0x1, 0x1, .domain, .rw, 2, 0x0, 0, false, .fixedLen 8⟩,
  ⟨0x3413, 1, 0x1, 0x1, 0x8, .domain, .ro, 2, 0x0, 0, false, .any⟩,
  ⟨0x3414, 1, 0x1, 0x1, 0x1, .u32, .wo, 2, 0x0, 0, false, .any⟩,
  ⟨0x3415, 1, 0x1, 0x1, 0x1, .bool, .ro, 2, 0x0, 0, false, .any⟩,
  ⟨0x3420, 8, 0x1, 0x0, 0x0, .table, .ro, 2, 0x0, 0, false, .any⟩,
  ⟨0x3430, 1, 0x1, 0x0, 0x0, .table, .rw, 2, 0x0, 0, false, .any⟩,
  ⟨0x3431, 1, 0x1, 0x0, 0x0, .table, .rw, 2, 0x0, 0, false, .any⟩,
  ⟨0x3432, 1, 0x1, 0x0, 0x0, .table, .rw, 2, 0x0, 0, false, .any⟩,
  ⟨0x3438, 8, 0x1, 0x0, 0x0, .table, .ro, 2, 0x0, 0, false, .any⟩,
  ⟨0x3440, 1, 0x1, 0x1, 0x8, .u32, .ro, 2, 0x0, 0, true, .any⟩]

/-- The entries of area 0x3500. -/
def entries35a : List EntrySpec := [
  ⟨0x3500, 1, 0x1, 0x0, 0x0, .table, .rwt, 2, 0x0, 0, false, .any⟩,
  ⟨0x3501, 1, 0x1, 0x1, 0x1, .u32, .ro, 2, 0x0, 0, false, .any⟩,
  ⟨0x3501, 1, 0x1, 0x2, 0x2, .u32, .ro, 2, 0x0, 0, false, .any⟩,
  ⟨0x3501, 1, 0x1, 0x3, 0x3, .u32, .ro, 2, 0x20000, 0, false, .any⟩,
  ⟨0x3502, 1, 0x1, 0x1, 0x8, .u64, .ro, 2, 0x0, 0, false, .any⟩,
  ⟨0x3503, 1, 0x1, 0x1, 0x8, .u32, .rc, 2, 0x0, 0, false, .any⟩,
  ⟨0x3510, 1, 0x1, 0x0, 0x0, .table, .rw, 2, 0x0, 0, false, .any⟩,
  ⟨0x3511, 1, 0x1, 0x1, 0x8, .u32, .rc, 2, 0x0, 0, false, .any⟩]

/-- The entries of area 0x3600. -/
def entries36a : List EntrySpec := [
  ⟨0x3600, 1, 0x1, 0x1, 0x1, .domain, .wo, 2, 0x0, 0, false, .fixedLen 30⟩,
  ⟨0x3601, 1, 0x1, 0x1, 0x1, .domain, .wo, 2, 0x0, 0, false, .fixedLen 20⟩,
  ⟨0x3602, 1, 0x1, 0x1, 0x1, .domain, .rw, 2, 0x0, 0, false, .fixedLen 20⟩,
  ⟨0x3603, 1, 0x1, 0x1, 0x1, .domain, .ro, 2, 0x0, 0, false, .any⟩,
  ⟨0x3604, 1, 0x1, 0x1, 0x1, .u32, .ro, 2, 0x0, 0, false, .any⟩,
  ⟨0x3604, 1, 0x1, 0x2, 0x2, .u32, .rc, 2, 0x0, 0, false, .any⟩,
  ⟨0x3604, 1, 0x1, 0x3, 0x3, .u8, .rw, 2, 0x20, 0, false, .rng (0) (64)⟩,
  ⟨0x3605, 1, 0x1, 0x1, 0x8, .u64, .ro, 2, 0x0, 0, false, .any⟩,
  ⟨0x3606, 1, 0x1, 0x1, 0x8, .u32, .rc, 2, 0x0, 0, false, .any⟩,
  ⟨0x3610, 4, 0x1, 0x0, 0x0, .table, .ro, 2, 0x0, 0, false, .any⟩]

/-- The entries of area 0x3700. -/
def entries37a : List EntrySpec := [
  ⟨0x3700, 1, 0x1, 0x0, 0x0, .table, .rw, 2, 0x0, 0, false, .any⟩,
  ⟨0x3701, 1, 0x1, 0x0, 0x0, .table, .ro, 2, 0x0, 0, false, .any⟩,
  ⟨0x3702, 1, 0x1, 0x1, 0x1, .u32, .rc, 2, 0x0, 0, true, .any⟩,
  ⟨0x3780, 1, 0x1, 0x1, 0x1, .domain, .wo, 2, 0x0, 0, false, .fixedLen 31⟩,
  ⟨0x3780, 1, 0x1, 0x2, 0x2, .domain, .wo, 2, 0x0, 0, false, .fixedLen 21⟩,
  ⟨0x3780, 1, 0x1, 0x3, 0x3, .domain, .rw, 2, 0x0, 0, false, .fixedLen 21⟩,
  ⟨0x3780, 1, 0x1, 0x4, 0x4, .domain, .ro, 2, 0x0, 0, false, .any⟩,
  ⟨0x3781, 1, 0x1, 0x1, 0x1, .u32, .ro, 2, 0x0, 0, false, .any⟩,
  ⟨0x3781, 1, 0x1, 0x2, 0x2, .u64, .ro, 2, 0x0, 0, false, .any⟩,
  ⟨0x3781, 1, 0x1, 0x3, 0x3, .u64, .ro, 2, 0x0, 0, false, .any⟩,
  ⟨0x3781, 1, 0x1, 0x4, 0x4, .u32, .rc, 2, 0x0, 0, false, .any⟩,
  ⟨0x3781, 1, 0x1, 0x5, 0x5, .u8, .rw, 2, 0x0, 0, false, .mask 0x3E⟩]

/-- The entries of area 0x3800. -/
def entries38a : List EntrySpec := [
  ⟨0x3800, 1, 0x1, 0x0, 0x0, .table, .rwt, 2, 0x0, 0, false, .any⟩,
  ⟨0x3801, 1, 0x1, 0x0, 0x0, .table, .rw, 2, 0x0, 0, false, .any⟩,
  ⟨0x3802, 1, 0x1, 0x1, 0x1, .u8, .ro, 4, 0x30, 0, false, .any⟩,
  ⟨0x3810, 1, 0x1, 0x1, 0x8, .u8, .rw, 2, 0x0, 8, false, .rng (0) (63)⟩,
  ⟨0x3811, 1, 0x1, 0x0, 0x0, .table, .rw, 2, 0x0, 0, false, .any⟩,
  ⟨0x3812, 1, 0x1, 0x0, 0x0, .table, .rw, 2, 0x0, 0, false, .any⟩,
  ⟨0x3813, 1, 0x1, 0x0, 0x0, .table, .rw, 2, 0x0, 0, false, .any⟩,
  ⟨0x3814, 1, 0x1, 0x0, 0x0, .table, .rw, 2, 0x0, 0, false, .any⟩,
  ⟨0x3860, 1, 0x1, 0x1, 0x40, .domain, .rw, 2, 0x0, 0, false, .lenRange 60 512⟩,
  ⟨0x3868, 1, 0x1, 0x0, 0x0, .table, .rw, 2, 0x0, 0, false, .any⟩,
  ⟨0x3870, 8, 0x1, 0x0, 0x0, .table, .ro, 2, 0x0, 0, false, .any⟩,
  ⟨0x3878, 1, 0x1, 0x1, 0x8, .u32, .ro, 2, 0x0, 0, true, .any⟩,
  ⟨0x3820, 1, 0x1, 0x1, 0x8, .u64, .ro, 2, 0x0, 0, false, .any⟩,
  ⟨0x3821, 1, 0x1, 0x1, 0x8, .u64, .ro, 2, 0x0, 0, false, .any⟩,
  ⟨0x3822, 1, 0x1, 0x1, 0x8, .u32, .rc, 2, 0x0, 0, true, .any⟩,
  ⟨0x3823, 1, 0x1, 0x1, 0x8, .u64, .ro, 2, 0x0, 0, false, .any⟩,
  ⟨0x3824, 1, 0x1, 0x1, 0x8, .u64, .ro, 2, 0x0, 0, false, .any⟩,
  ⟨0x3825, 1, 0x1, 0x1, 0x8, .u32, .rc, 2, 0x0, 0, false, .any⟩,
  ⟨0x3826, 1, 0x1, 0x1, 0x8, .u64, .ro, 2, 0x0, 0, false, .any⟩,
  ⟨0x3827, 1, 0x1, 0x1, 0x8, .u32, .rc, 2, 0x0, 0, false, .any⟩,
  ⟨0x3828, 1, 0x1, 0x1, 0x8, .u32, .rc, 2, 0x0, 0, false, .any⟩,
  ⟨0x3829, 1, 0x1, 0x1, 0x8, .u64, .ro, 2, 0x0, 0, false, .any⟩,
  ⟨0x382A, 1, 0x1, 0x1, 0x8, .u64, .ro, 2, 0x0, 0, false, .any⟩,
  ⟨0x382B, 1, 0x1, 0x1, 0x8, .u32, .rc, 2, 0x0, 0, true, .any⟩,
  ⟨0x382C, 1, 0x1, 0x1, 0x8, .u32, .rc, 2, 0x0, 0, false, .any⟩,
  ⟨0x382D, 1, 0x1, 0x1, 0x8, .u32, .rc, 2, 0x0, 0, true, .any⟩,
  ⟨0x382E, 1, 0x1, 0x1, 0x8, .u64, .ro, 2, 0x0, 0, false, .any⟩]

/-- The entries of area 0x4000. -/
def entries40a : List EntrySpec := [
  ⟨0x4000, 1, 0x1, 0x1, 0x1, .u32, .ro, 2, 0x4000, 0, false, .any⟩,
  ⟨0x4000, 1, 0x1, 0x2, 0x2, .u32, .ro, 2, 0x15190, 0, false, .any⟩,
  ⟨0x4000, 1, 0x1, 0x3, 0x3, .u32, .ro, 2, 0x60000, 0, false, .any⟩,
  ⟨0x4000, 1, 0x1, 0x4, 0x4, .u32, .ro, 2, 0x0, 0, false, .any⟩,
  ⟨0x4000, 1, 0x1, 0x5, 0x5, .u32, .ro, 2, 0x0, 0, false, .any⟩,
  ⟨0x4000, 1, 0x1, 0x6, 0x6, .u32, .ro, 2, 0x0, 0, false, .any⟩,
  ⟨0x4000, 1, 0x1, 0x7, 0x7, .u32, .ro, 2, 0x0, 0, false, .any⟩,
  ⟨0x4000, 1, 0x1, 0x8, 0x8, .u32, .ro, 2, 0x0, 0, false, .any⟩,
  ⟨0x4000, 1, 0x1, 0x9, 0x9, .u32, .rc, 2, 0x60000, 0, false, .any⟩,
  ⟨0x4000, 1, 0x1, 0xA, 0xA, .domain, .ro, 2, 0x0, 0, false, .any⟩,
  ⟨0x4000, 1, 0x1, 0xB, 0xB, .u32, .rc, 2, 0x0, 0, false, .any⟩,
  ⟨0x4000, 1, 0x1, 0xC, 0xC, .u32, .rc, 2, 0x0, 0, true, .any⟩,
  ⟨0x4010, 1, 0x1, 0x0, 0x0, .table, .rw, 2, 0x0, 0, false, .any⟩,
  ⟨0x4011, 1, 0x1, 0x0, 0x0, .table, .rw, 2, 0x0, 0, false, .any⟩,
  ⟨0x4012, 1, 0x1, 0x0, 0x0, .table, .ro, 2, 0x0, 0, false, .any⟩,
  ⟨0x4013, 1, 0x1, 0x1, 0x1, .u16, .wo, 2, 0x0, 0, false, .rngOr (0) (1615) (65535)⟩,
  ⟨0x4014, 1, 0x1, 0x0, 0x0, .table, .ro, 2, 0x0, 0, false, .any⟩,
  ⟨0x4020, 1, 0x1, 0x0, 0x0, .table, .ro, 2, 0x0, 0, false, .any⟩,
  ⟨0x4030, 1, 0x1, 0x0, 0x0, .table, .rw, 2, 0x0, 0, false, .any⟩,
  ⟨0x4031, 1, 0x1, 0x1, 0x1, .u8, .rw, 2, 0x2, 0, false, .rng (0) (16)⟩,
  ⟨0x4031, 1, 0x1, 0x2, 0x2, .u16, .ro, 4, 0x2000, 0, false, .any⟩,
  ⟨0x4031, 1, 0x1, 0x3, 0x3, .u16, .ro, 2, 0x0, 0, false, .any⟩,
  ⟨0x4032, 1, 0x1, 0x1, 0x8, .u64, .ro, 2, 0x0, 0, false, .any⟩,
  ⟨0x4033, 1, 0x1, 0x1, 0x8, .u64, .ro, 2, 0x0, 0, false, .any⟩,
  ⟨0x4034, 1, 0x1, 0x1, 0x8, .u64, .ro, 2, 0x0, 0, false, .any⟩,
  ⟨0x4035, 1, 0x1, 0x1, 0x8, .u32, .rc, 2, 0x0, 0, true, .any⟩,
  ⟨0x4036, 1, 0x1, 0x1, 0x8, .u64, .ro, 2, 0x0, 0, false, .any⟩,
  ⟨0x4037, 1, 0x1, 0x1, 0x8, .u64, .ro, 2, 0x0, 0, false, .any⟩,
  ⟨0x4038, 1, 0x1, 0x1, 0x8, .u32, .rc, 2, 0x0, 0, true, .any⟩,
  ⟨0x4039, 1, 0x1, 0x1, 0x8, .u32, .rc, 2, 0x0, 0, false, .any⟩,
  ⟨0x4040, 1, 0x1, 0x0, 0x0, .table, .rw, 2, 0x0, 0, false, .any⟩,
  ⟨0x4041, 1, 0x1, 0x1, 0x10, .u64, .ro, 2, 0x0, 0, false, .any⟩,
  ⟨0x4042, 1, 0x1, 0x1, 0x10, .u32, .rc, 2, 0x0, 0, false, .any⟩,
  ⟨0x4050, 1, 0x1, 0x0, 0x0, .table, .rw, 2, 0x0, 0, false, .any⟩,
  ⟨0x4051, 1, 0x1, 0x1, 0x10, .u64, .ro, 2, 0x0, 0, false, .any⟩,
  ⟨0x4052, 1, 0x1, 0x1, 0x10, .u32, .rc, 2, 0x0, 0, false, .any⟩,
  ⟨0x4060, 1, 0x1, 0x1, 0x1, .u16, .ro, 2, 0x0, 0, false, .any⟩,
  ⟨0x4060, 1, 0x1, 0x2, 0x2, .u16, .ro, 4, 0x200, 0, false, .any⟩,
  ⟨0x4060, 1, 0x1, 0x3, 0x3, .u64, .ro, 2, 0x0, 0, false, .any⟩,
  ⟨0x4060, 1, 0x1, 0x4, 0x4, .u32, .rc, 2, 0x0, 0, false, .any⟩]

/-- The entries of area 0x4000. -/
def entries40b : List EntrySpec := [
  ⟨0x4060, 1, 0x1, 0x5, 0x5, .u64, .ro, 2, 0x0, 0, false, .any⟩]

/-- The entries of area 0x4400. -/
def entries44a : List EntrySpec := [
  ⟨0x4410, 96, 0x1, 0x1, 0x1, .bool, .rwt, 2, 0x0, 0, false, .any⟩,
  ⟨0x4410, 96, 0x1, 0x2, 0x2, .u16, .rwt, 2, 0x1, 0, false, .rng (1) (1024)⟩,
  ⟨0x4410, 96, 0x1, 0x3, 0x3, .u32, .rwt, 2, 0x1, 0, false, .rng (1) (4096)⟩,
  ⟨0x4410, 96, 0x1, 0x4, 0x4, .u32, .rwt, 2, 0x0, 0, false, .any⟩,
  ⟨0x4410, 96, 0x1, 0x5, 0x5, .u16, .ro, 2, 0x0, 0, false, .any⟩,
  ⟨0x4410, 96, 0x1, 0x6, 0x6, .u64, .ro, 2, 0x0, 0, false, .any⟩,
  ⟨0x4410, 96, 0x1, 0x7, 0x7, .u32, .rc, 2, 0x0, 0, false, .any⟩,
  ⟨0x4480, 1, 0x1, 0x0, 0x0, .table, .rwt, 2, 0x0, 0, false, .any⟩]

/-- The entries of area 0x4500. -/
def entries45a : List EntrySpec := [
  ⟨0x4500, 1, 0x1, 0x0, 0x0, .table, .rw, 2, 0x0, 0, false, .any⟩,
  ⟨0x4510, 1, 0x1, 0x0, 0x0, .table, .rwt, 2, 0x0, 0, false, .any⟩,
  ⟨0x4511, 1, 0x1, 0x0, 0x0, .table, .rwt, 2, 0x0, 0, false, .any⟩,
  ⟨0x4512, 1, 0x1, 0x0, 0x0, .table, .ro, 2, 0x0, 0, false, .any⟩,
  ⟨0x4520, 1, 0x1, 0x1, 0x1, .u16, .rw, 2, 0x40, 0, false, .rng (1) (4096)⟩,
  ⟨0x4520, 1, 0x1, 0x2, 0x2, .u16, .ro, 4, 0x2000, 0, false, .any⟩,
  ⟨0x4521, 1, 0x1, 0x1, 0x8, .u16, .ro, 2, 0x0, 0, false, .any⟩,
  ⟨0x4522, 1, 0x1, 0x1, 0x8, .u32, .rc, 2, 0x0, 0, true, .any⟩,
  ⟨0x4523, 1, 0x1, 0x1, 0x8, .u32, .rc, 2, 0x0, 0, false, .any⟩,
  ⟨0x4530, 1, 0x1, 0x0, 0x0, .table, .ro, 2, 0x0, 0, false, .any⟩]

/-- The entries of area 0x4600. -/
def entries46a : List EntrySpec := [
  ⟨0x4600, 1, 0x1, 0x0, 0x0, .table, .rwt, 2, 0x0, 0, false, .any⟩,
  ⟨0x4601, 1, 0x1, 0x0, 0x0, .table, .rwt, 2, 0x0, 0, false, .any⟩,
  ⟨0x4602, 1, 0x1, 0x0, 0x0, .table, .rwt, 2, 0x0, 0, false, .any⟩,
  ⟨0x4603, 1, 0x1, 0x0, 0x0, .table, .ro, 2, 0x0, 0, false, .any⟩,
  ⟨0x4604, 1, 0x1, 0x0, 0x0, .table, .ro, 2, 0x0, 0, false, .any⟩,
  ⟨0x4605, 1, 0x1, 0x0, 0x0, .table, .ro, 2, 0x0, 0, false, .any⟩,
  ⟨0x4606, 1, 0x1, 0x0, 0x0, .table, .ro, 2, 0x0, 0, false, .any⟩,
  ⟨0x4607, 1, 0x1, 0x1, 0x1, .u32, .wo, 2, 0x0, 0, false, .rngOr (0) (65535) (4294967295)⟩,
  ⟨0x4607, 1, 0x1, 0x2, 0x2, .u32, .wo, 2, 0x0, 0, false, .rngOr (0) (4095) (4294967295)⟩,
  ⟨0x4608, 1, 0x1, 0x1, 0x1, .u32, .ro, 2, 0x0, 0, true, .any⟩]

/-- The entries of area 0x4700. -/
def entries47a : List EntrySpec := [
  ⟨0x4700, 1, 0x1, 0x0, 0x0, .table, .ro, 2, 0x0, 0, false, .any⟩,
  ⟨0x4701, 1, 0x1, 0x1, 0x1, .u32, .rw, 2, 0x64, 0, false, .rng (1) (1000000)⟩,
  ⟨0x4701, 1, 0x1, 0x2, 0x2, .u16, .wo, 2, 0x0, 0, false, .rngOr (0) (1615) (65535)⟩]

/-- The entries of area 0x5000. -/
def entries50a : List EntrySpec := [
  ⟨0x5000, 1, 0x1, 0x1, 0x1, .u8, .ro, 2, 0x0, 0, true, .any⟩,
  ⟨0x5000, 1, 0x1, 0x2, 0x2, .u8, .wo, 2, 0x0, 0, false, .rng (1) (1)⟩,
  ⟨0x5000, 1, 0x1, 0x3, 0x3, .u8, .wo, 2, 0x0, 0, false, .rng (1) (1)⟩,
  ⟨0x5000, 1, 0x1, 0x4, 0x4, .u32, .rc, 2, 0x0, 0, false, .any⟩,
  ⟨0x5000, 1, 0x1, 0x5, 0x5, .u8, .ro, 2, 0x0, 0, false, .any⟩,
  ⟨0x5010, 1, 0x1, 0x0, 0x0, .table, .rw, 2, 0x0, 0, false, .any⟩,
  ⟨0x5011, 1, 0x1, 0x1, 0x1, .domain, .wo, 2, 0x0, 0, false, .fixedLen 20⟩,
  ⟨0x5011, 1, 0x1, 0x2, 0x2, .u8, .wo, 2, 0x0, 0, false, .rng (0) (55)⟩,
  ⟨0x5012, 1, 0x1, 0x1, 0x38, .u8, .ro, 2, 0x0, 0, false, .any⟩,
  ⟨0x5020, 1, 0x1, 0x0, 0x0, .table, .rw, 2, 0x0, 0, false, .any⟩,
  ⟨0x5030, 1, 0x1, 0x0, 0x0, .table, .rw, 2, 0x0, 0, false, .any⟩,
  ⟨0x5031, 1, 0x1, 0x0, 0x0, .table, .ro, 2, 0x0, 0, false, .any⟩,
  ⟨0x5040, 1, 0x1, 0x0, 0x0, .table, .ro, 2, 0x0, 0, false, .any⟩,
  ⟨0x5041, 1, 0x1, 0x1, 0x1, .u32, .ro, 2, 0x0, 0, true, .any⟩,
  ⟨0x5042, 1, 0x1, 0x0, 0x0, .table, .ro, 2, 0x0, 0, false, .any⟩]

/-- The entries of area 0x5100. -/
def entries51a : List EntrySpec := [
  ⟨0x5100, 1, 0x1, 0x0, 0x0, .table, .rw, 2, 0x0, 0, false, .any⟩,
  ⟨0x5101, 1, 0x1, 0x0, 0x0, .table, .ro, 2, 0x0, 0, false, .any⟩,
  ⟨0x5102, 1, 0x1, 0x1, 0x8, .domain, .ro, 2, 0x0, 0, false, .any⟩,
  ⟨0x5103, 1, 0x1, 0x1, 0x8, .u8, .ro, 2, 0x0, 0, true, .any⟩,
  ⟨0x5110, 1, 0x1, 0x1, 0x8, .u8, .rw, 2, 0xFF, 0, false, .rngOr (0) (3) (255)⟩]

/-- The entries of area 0x5200. -/
def entries52a : List EntrySpec := [
  ⟨0x5200, 1, 0x1, 0x0, 0x0, .table, .rwt, 2, 0x0, 0, false, .any⟩,
  ⟨0x5201, 1, 0x1, 0x0, 0x0, .table, .ro, 2, 0x0, 0, false, .any⟩,
  ⟨0x5202, 1, 0x1, 0x0, 0x0, .table, .ro, 2, 0x0, 0, false, .any⟩,
  ⟨0x5203, 1, 0x1, 0x1, 0x1, .u8, .ro, 4, 0x10, 0, false, .any⟩]

/-- The entries of area 0x5300. -/
def entries53a : List EntrySpec := [
  ⟨0x5300, 1, 0x1, 0x0, 0x0, .table, .rw, 2, 0x0, 0, false, .any⟩,
  ⟨0x5301, 1, 0x1, 0x0, 0x0, .table, .ro, 2, 0x0, 0, false, .any⟩]

/-- The entries of area 0x5800. -/
def entries58a : List EntrySpec := [
  ⟨0x5800, 1, 0x1, 0x1, 0x1, .u32, .rw, 2, 0x3E8, 0, false, .rng (10) (100000)⟩,
  ⟨0x5800, 1, 0x1, 0x2, 0x2, .u16, .rw, 2, 0x100, 0, false, .rng (0) (1024)⟩,
  ⟨0x5800, 1, 0x1, 0x3, 0x3, .u16, .rw, 2, 0x200, 0, false, .rng (1) (4096)⟩,
  ⟨0x5800, 1, 0x1, 0x4, 0x4, .u8, .ro, 4, 0x4, 0, false, .any⟩,
  ⟨0x5800, 1, 0x1, 0x5, 0x5, .u16, .ro, 2, 0x0, 0, false, .any⟩,
  ⟨0x5800, 1, 0x1, 0x6, 0x6, .u16, .rc, 2, 0x0, 0, false, .any⟩,
  ⟨0x5800, 1, 0x1, 0x7, 0x7, .u8, .ro, 2, 0x0, 0, false, .any⟩,
  ⟨0x5800, 1, 0x1, 0x8, 0x8, .u16, .rw, 2, 0xF8, 0, false, .mask 0xFE⟩,
  ⟨0x5801, 1, 0x1, 0x0, 0x0, .table, .ro, 2, 0x0, 0, false, .any⟩,
  ⟨0x5802, 1, 0x1, 0x0, 0x0, .table, .rw, 2, 0x0, 0, false, .any⟩,
  ⟨0x5803, 1, 0x1, 0x0, 0x0, .table, .ro, 2, 0x0, 0, false, .any⟩,
  ⟨0x5804, 1, 0x1, 0x1, 0x1, .u32, .ro, 2, 0x0, 0, true, .any⟩,
  ⟨0x5805, 1, 0x1, 0x1, 0x1, .domain, .wo, 1, 0x0, 0, false, .fixedLen 8⟩,
  ⟨0x5806, 1, 0x1, 0x0, 0x0, .table, .ro, 2, 0x0, 0, false, .any⟩,
  ⟨0x5807, 1, 0x1, 0x1, 0x1, .u32, .rc, 2, 0x0, 0, false, .any⟩,
  ⟨0x5807, 1, 0x1, 0x2, 0x2, .u32, .rc, 2, 0x0, 0, false, .any⟩,
  ⟨0x5807, 1, 0x1, 0x3, 0x3, .u32, .rc, 2, 0x0, 0, false, .any⟩,
  ⟨0x5807, 1, 0x1, 0x4, 0x4, .u32, .rc, 2, 0x0, 0, false, .any⟩,
  ⟨0x5807, 1, 0x1, 0x5, 0x5, .u32, .rc, 2, 0x0, 0, false, .any⟩,
  ⟨0x5807, 1, 0x1, 0x6, 0x6, .u64, .ro, 2, 0x0, 0, false, .any⟩]

/-- The entries of area 0x6000. -/
def entries60a : List EntrySpec := [
  ⟨0x6000, 1, 0x1, 0x1, 0x1, .bool, .rw, 2, 0x0, 0, false, .any⟩,
  ⟨0x6000, 1, 0x1, 0x2, 0x2, .u8, .rw, 2, 0x0, 0, false, .rng (0) (2)⟩,
  ⟨0x6000, 1, 0x1, 0x3, 0x3, .u8, .rw, 2, 0x3E, 0, false, .rng (0) (95)⟩,
  ⟨0x6000, 1, 0x1, 0x4, 0x4, .u8, .rw, 2, 0x3F, 0, false, .rngOr (0) (95) (255)⟩,
  ⟨0x6000, 1, 0x1, 0x5, 0x5, .u16, .rw, 2, 0x88B6, 0, false, .rng (1536) (65535)⟩,
  ⟨0x6000, 1, 0x1, 0x6, 0x6, .u8, .rw, 2, 0x3, 0, false, .rng (1) (3)⟩,
  ⟨0x6000, 1, 0x1, 0x7, 0x7, .u8, .rw, 2, 0x8, 0, false, .rng (1) (16)⟩,
  ⟨0x6001, 1, 0x1, 0x1, 0x1, .u8, .ro, 2, 0x0, 0, true, .any⟩,
  ⟨0x6001, 1, 0x1, 0x2, 0x2, .u8, .ro, 2, 0x0, 0, true, .any⟩,
  ⟨0x6001, 1, 0x1, 0x3, 0x3, .u8, .ro, 2, 0x0, 0, false, .any⟩,
  ⟨0x6001, 1, 0x1, 0x4, 0x4, .u16, .ro, 2, 0x0, 0, false, .any⟩,
  ⟨0x6001, 1, 0x1, 0x5, 0x5, .u64, .ro, 2, 0x0, 0, false, .any⟩,
  ⟨0x6001, 1, 0x1, 0x6, 0x6, .u8, .ro, 2, 0x0, 0, false, .any⟩,
  ⟨0x6001, 1, 0x1, 0x7, 0x7, .i64, .ro, 2, 0x0, 0, false, .any⟩,
  ⟨0x6001, 1, 0x1, 0x8, 0x8, .domain, .ro, 2, 0x0, 0, false, .any⟩,
  ⟨0x6002, 1, 0x1, 0x1, 0x1, .bool, .rw, 2, 0x1, 0, false, .any⟩,
  ⟨0x6002, 1, 0x1, 0x2, 0x2, .bool, .rw, 2, 0x1, 0, false, .any⟩,
  ⟨0x6002, 1, 0x1, 0x3, 0x3, .u32, .rw, 2, 0x0, 0, false, .any⟩,
  ⟨0x6002, 1, 0x1, 0x4, 0x4, .bool, .rw, 2, 0x1, 0, false, .any⟩,
  ⟨0x6002, 1, 0x1, 0x5, 0x5, .u8, .wo, 2, 0x0, 0, false, .rng (1) (1)⟩,
  ⟨0x6003, 1, 0x1, 0x0, 0x0, .table, .rw, 2, 0x0, 0, false, .any⟩,
  ⟨0x6010, 1, 0x1, 0x1, 0x1, .u8, .wo, 2, 0x0, 0, false, .rng (0) (1)⟩,
  ⟨0x6010, 1, 0x1, 0x2, 0x2, .bool, .ro, 2, 0x0, 0, true, .any⟩,
  ⟨0x6010, 1, 0x1, 0x3, 0x3, .domain, .rw, 2, 0x0, 0, false, .fixedLen 24⟩,
  ⟨0x6010, 1, 0x1, 0x4, 0x4, .u32, .ro, 2, 0x0, 0, false, .any⟩,
  ⟨0x6010, 1, 0x1, 0x5, 0x5, .tick64, .ro, 2, 0x0, 0, false, .any⟩,
  ⟨0x6010, 1, 0x1, 0x6, 0x6, .u32, .rc, 2, 0x0, 0, false, .any⟩,
  ⟨0x6010, 1, 0x1, 0x7, 0x7, .u16, .ro, 2, 0x0, 0, true, .any⟩,
  ⟨0x6020, 1, 0x1, 0x1, 0x1, .u8, .ro, 2, 0x0, 0, true, .any⟩,
  ⟨0x6020, 1, 0x1, 0x2, 0x2, .u8, .wo, 2, 0x0, 0, false, .rng (1) (1)⟩,
  ⟨0x6020, 1, 0x1, 0x3, 0x3, .u8, .wo, 2, 0x0, 0, false, .rng (1) (1)⟩,
  ⟨0x6020, 1, 0x1, 0x4, 0x4, .bool, .rw, 2, 0x0, 0, false, .any⟩,
  ⟨0x6020, 1, 0x1, 0x5, 0x5, .u32, .rw, 2, 0x3E8, 0, false, .rng (200) (100000)⟩,
  ⟨0x6020, 1, 0x1, 0x6, 0x6, .u32, .ro, 2, 0x0, 0, false, .any⟩,
  ⟨0x6020, 1, 0x1, 0x7, 0x7, .u32, .rc, 2, 0x0, 0, false, .any⟩,
  ⟨0x6030, 1, 0x1, 0x1, 0x1, .u64, .ro, 2, 0x0, 0, false, .any⟩,
  ⟨0x6030, 1, 0x1, 0x2, 0x2, .u64, .ro, 2, 0x0, 0, false, .any⟩,
  ⟨0x6030, 1, 0x1, 0x3, 0x3, .u64, .ro, 2, 0x0, 0, false, .any⟩,
  ⟨0x6030, 1, 0x1, 0x4, 0x4, .u32, .rc, 2, 0x0, 0, false, .any⟩,
  ⟨0x6030, 1, 0x1, 0x5, 0x5, .u32, .rc, 2, 0x0, 0, true, .any⟩]

/-- The entries of area 0x6000. -/
def entries60b : List EntrySpec := [
  ⟨0x6030, 1, 0x1, 0x6, 0x6, .u32, .rc, 2, 0x0, 0, false, .any⟩,
  ⟨0x6030, 1, 0x1, 0x7, 0x7, .u32, .rc, 2, 0x0, 0, false, .any⟩,
  ⟨0x6030, 1, 0x1, 0x8, 0x8, .u32, .rc, 2, 0x0, 0, false, .any⟩,
  ⟨0x6030, 1, 0x1, 0x9, 0x9, .u32, .rc, 2, 0x0, 0, false, .any⟩,
  ⟨0x6031, 1, 0x1, 0x0, 0x0, .table, .ro, 2, 0x0, 0, false, .any⟩,
  ⟨0x6032, 1, 0x1, 0x1, 0x1, .u32, .ro, 2, 0x0, 0, true, .any⟩]

/-- The entries of area 0x6100. -/
def entries61a : List EntrySpec := [
  ⟨0x6100, 1, 0x1, 0x1, 0x1, .u8, .ro, 2, 0x0, 0, false, .any⟩,
  ⟨0x6100, 1, 0x1, 0x2, 0x2, .u8, .ro, 2, 0xFF, 0, false, .any⟩,
  ⟨0x6100, 1, 0x1, 0x3, 0x3, .u8, .ro, 2, 0x0, 0, false, .any⟩,
  ⟨0x6100, 1, 0x1, 0x4, 0x4, .u8, .ro, 2, 0x0, 0, true, .any⟩,
  ⟨0x6100, 1, 0x1, 0x5, 0x5, .u16, .rw, 2, 0x0, 0, false, .rng (0) (16352)⟩,
  ⟨0x6100, 1, 0x1, 0x6, 0x6, .u16, .rw, 2, 0x1F4, 0, false, .rng (10) (10000)⟩,
  ⟨0x6100, 1, 0x1, 0x7, 0x7, .u32, .rc, 2, 0x0, 0, false, .any⟩,
  ⟨0x6100, 1, 0x1, 0x8, 0x8, .u32, .rc, 2, 0x0, 0, false, .any⟩,
  ⟨0x6101, 1, 0x1, 0x1, 0x1, .domain, .wo, 2, 0x0, 0, false, .lenRange 3 1027⟩,
  ⟨0x6102, 1, 0x1, 0x0, 0x0, .table, .ro, 2, 0x0, 0, false, .any⟩,
  ⟨0x6103, 1, 0x1, 0x1, 0x1, .u32, .ro, 2, 0x0, 0, true, .any⟩]

/-- The entries of area 0x6200. -/
def entries62a : List EntrySpec := [
  ⟨0x6200, 1, 0x1, 0x1, 0x1, .u8, .rw, 2, 0x0, 0, false, .rng (0) (1)⟩]

/-- The entries of area 0x6800. -/
def entries68a : List EntrySpec := [
  ⟨0x6800, 1, 0x1, 0x1, 0x1, .u32, .rw, 2, 0x2625A00, 0, false, .rng (1000) (40000000)⟩,
  ⟨0x6800, 1, 0x1, 0x2, 0x2, .u32, .rw, 2, 0x0, 0, false, .rng (0) (16777215)⟩,
  ⟨0x6800, 1, 0x1, 0x3, 0x3, .u16, .rw, 2, 0x0, 0, false, .any⟩,
  ⟨0x6800, 1, 0x1, 0x4, 0x4, .u16, .rw, 2, 0x0, 0, false, .any⟩,
  ⟨0x6800, 1, 0x1, 0x5, 0x5, .u8, .rw, 2, 0x4, 0, false, .rng (1) (4)⟩,
  ⟨0x6800, 1, 0x1, 0x6, 0x6, .u8, .ro, 2, 0x0, 0, true, .any⟩,
  ⟨0x6800, 1, 0x1, 0x7, 0x7, .u32, .rc, 2, 0x0, 0, false, .any⟩,
  ⟨0x6800, 1, 0x1, 0x8, 0x8, .u32, .rc, 2, 0x0, 0, false, .any⟩,
  ⟨0x6801, 1, 0x1, 0x1, 0x8, .u64, .ro, 2, 0x0, 0, false, .any⟩,
  ⟨0x6802, 1, 0x1, 0x1, 0x8, .u32, .rc, 2, 0x0, 0, false, .any⟩,
  ⟨0x6803, 1, 0x1, 0x1, 0x8, .u64, .ro, 2, 0x0, 0, false, .any⟩,
  ⟨0x6804, 1, 0x1, 0x1, 0x8, .u32, .rc, 2, 0x0, 0, false, .any⟩,
  ⟨0x6805, 1, 0x1, 0x1, 0x1, .u32, .rc, 2, 0x0, 0, false, .any⟩,
  ⟨0x6805, 1, 0x1, 0x2, 0x2, .u64, .ro, 2, 0x0, 0, false, .any⟩,
  ⟨0x6806, 1, 0x1, 0x0, 0x0, .table, .rw, 2, 0x0, 0, false, .any⟩,
  ⟨0x6807, 1, 0x1, 0x0, 0x0, .table, .ro, 2, 0x0, 0, false, .any⟩,
  ⟨0x6808, 1, 0x1, 0x1, 0x1, .u32, .rc, 2, 0x0, 0, false, .any⟩,
  ⟨0x6808, 1, 0x1, 0x2, 0x2, .u32, .rc, 2, 0x0, 0, false, .any⟩,
  ⟨0x6808, 1, 0x1, 0x3, 0x3, .u32, .rc, 2, 0x0, 0, false, .any⟩,
  ⟨0x6809, 1, 0x1, 0x1, 0x1, .u32, .rc, 2, 0x0, 0, false, .any⟩]

/-- The entries of area 0x7000. -/
def entries70a : List EntrySpec := [
  ⟨0x7000, 1, 0x1, 0x1, 0x1, .u8, .ro, 2, 0x0, 0, true, .any⟩,
  ⟨0x7000, 1, 0x1, 0x2, 0x2, .u8, .ro, 2, 0xFF, 0, false, .any⟩,
  ⟨0x7000, 1, 0x1, 0x3, 0x3, .u8, .ro, 2, 0x0, 0, false, .any⟩,
  ⟨0x7000, 1, 0x1, 0x4, 0x4, .u8, .wo, 2, 0x0, 0, false, .rng (1) (1)⟩,
  ⟨0x7000, 1, 0x1, 0x5, 0x5, .u32, .rc, 2, 0x0, 0, false, .any⟩,
  ⟨0x7001, 1, 0x1, 0x1, 0x2, .u8, .ro, 2, 0x0, 0, false, .any⟩,
  ⟨0x7002, 1, 0x1, 0x1, 0x2, .u32, .ro, 2, 0x0, 0, false, .any⟩,
  ⟨0x7003, 1, 0x1, 0x1, 0x2, .u16, .ro, 2, 0x0, 0, false, .any⟩,
  ⟨0x7004, 1, 0x1, 0x1, 0x2, .domain, .wo, 2, 0x0, 0, false, .lenRange 0 16777216⟩,
  ⟨0x7005, 1, 0x1, 0x1, 0x2, .u8, .ro, 2, 0x0, 0, true, .any⟩,
  ⟨0x7010, 1, 0x1, 0x1, 0x1, .u8, .wo, 2, 0x0, 0, false, .rng (1) (1)⟩,
  ⟨0x7010, 1, 0x1, 0x2, 0x2, .tick64, .wo, 2, 0x0, 0, false, .any⟩,
  ⟨0x7010, 1, 0x1, 0x3, 0x3, .u8, .ro, 2, 0x0, 0, true, .any⟩,
  ⟨0x7010, 1, 0x1, 0x4, 0x4, .u8, .wo, 1, 0x0, 0, false, .rng (1) (1)⟩,
  ⟨0x7010, 1, 0x1, 0x5, 0x5, .u32, .ro, 2, 0x0, 0, false, .any⟩,
  ⟨0x7010, 1, 0x1, 0x6, 0x6, .u32, .ro, 2, 0x0, 0, false, .any⟩,
  ⟨0x7010, 1, 0x1, 0x7, 0x7, .u32, .rc, 2, 0x0, 0, false, .any⟩,
  ⟨0x7010, 1, 0x1, 0x8, 0x8, .domain, .ro, 2, 0x0, 0, false, .any⟩,
  ⟨0x7020, 1, 0x1, 0x1, 0x4, .domain, .ro, 4, 0x0, 0, false, .any⟩,
  ⟨0x7021, 1, 0x1, 0x1, 0x4, .u8, .ro, 2, 0x0, 0, false, .any⟩,
  ⟨0x7022, 1, 0x1, 0x1, 0x1, .u8, .wo, 2, 0x0, 0, false, .rng (0) (3)⟩,
  ⟨0x7023, 1, 0x1, 0x1, 0x1, .u8, .ro, 4, 0x0, 0, false, .any⟩,
  ⟨0x7023, 1, 0x1, 0x2, 0x2, .u8, .wo, 2, 0x0, 0, false, .any⟩,
  ⟨0x7030, 1, 0x1, 0x1, 0x4, .u8, .rw, 2, 0x4, 0, false, .rng (1) (255)⟩,
  ⟨0x7031, 1, 0x1, 0x1, 0x4, .u8, .rw, 2, 0x1, 0, false, .rng (0) (2)⟩,
  ⟨0x7032, 1, 0x1, 0x1, 0x4, .bool, .ro, 2, 0x0, 0, true, .any⟩,
  ⟨0x7033, 1, 0x1, 0x1, 0x4, .u8, .wo, 1, 0x0, 0, false, .rng (1) (1)⟩,
  ⟨0x7034, 1, 0x1, 0x1, 0x4, .u32, .rc, 2, 0x0, 0, false, .any⟩,
  ⟨0x7035, 1, 0x1, 0x1, 0x8, .u32, .ro, 2, 0x0, 0, false, .any⟩,
  ⟨0x7036, 1, 0x1, 0x1, 0x4, .u32, .rc, 2, 0x0, 0, true, .any⟩,
  ⟨0x7040, 1, 0x1, 0x0, 0x0, .table, .rw, 2, 0x0, 0, false, .any⟩,
  ⟨0x7041, 1, 0x1, 0x1, 0x1, .u32, .rc, 2, 0x0, 0, false, .any⟩,
  ⟨0x7041, 1, 0x1, 0x2, 0x2, .u64, .ro, 2, 0x0, 0, false, .any⟩]

/-- The entries of area 0x7800. -/
def entries78a : List EntrySpec := [
  ⟨0x7800, 1, 0x1, 0x1, 0x1, .u8, .ro, 2, 0x0, 0, true, .any⟩,
  ⟨0x7800, 1, 0x1, 0x2, 0x2, .u8, .ro, 2, 0x0, 0, false, .any⟩,
  ⟨0x7800, 1, 0x1, 0x3, 0x3, .u32, .ro, 2, 0x0, 0, false, .any⟩,
  ⟨0x7800, 1, 0x1, 0x4, 0x4, .u8, .wo, 2, 0x0, 0, false, .rng (1) (1)⟩,
  ⟨0x7800, 1, 0x1, 0x5, 0x5, .u8, .wo, 2, 0x0, 0, false, .rng (1) (1)⟩,
  ⟨0x7800, 1, 0x1, 0x6, 0x6, .u32, .rw, 2, 0xC8, 0, false, .rng (0) (100000)⟩,
  ⟨0x7800, 1, 0x1, 0x7, 0x7, .u32, .rw, 2, 0x3E8, 0, false, .rng (10) (60000)⟩,
  ⟨0x7800, 1, 0x1, 0x8, 0x8, .u8, .rw, 2, 0x1, 0, false, .rng (0) (1)⟩,
  ⟨0x7800, 1, 0x1, 0x9, 0x9, .u8, .rw, 2, 0x4, 0, false, .rng (0) (8)⟩,
  ⟨0x7801, 1, 0x1, 0x1, 0x2, .u8, .rw, 2, 0x2, 0, false, .any⟩,
  ⟨0x7802, 1, 0x1, 0x1, 0x2, .i32, .ro, 2, 0x0, 0, false, .any⟩,
  ⟨0x7810, 1, 0x1, 0x0, 0x0, .table, .ro, 2, 0x0, 0, false, .any⟩,
  ⟨0x7811, 1, 0x1, 0x1, 0x1, .domain, .ro, 2, 0x0, 0, false, .any⟩,
  ⟨0x7812, 1, 0x1, 0x1, 0x1, .domain, .wo, 1, 0x0, 0, false, .fixedLen 24⟩,
  ⟨0x7812, 1, 0x1, 0x2, 0x2, .domain, .ro, 1, 0x0, 0, false, .any⟩,
  ⟨0x7820, 1, 0x1, 0x0, 0x0, .table, .ro, 4, 0x0, 0, false, .any⟩,
  ⟨0x7830, 1, 0x1, 0x1, 0x1, .u16, .rw, 2, 0x18, 0, false, .rng (1) (720)⟩,
  ⟨0x7830, 1, 0x1, 0x2, 0x2, .u64, .ro, 2, 0x0, 0, false, .any⟩,
  ⟨0x7830, 1, 0x1, 0x3, 0x3, .u32, .rc, 2, 0x0, 0, true, .any⟩,
  ⟨0x7830, 1, 0x1, 0x4, 0x4, .u32, .rc, 2, 0x0, 0, false, .any⟩,
  ⟨0x7830, 1, 0x1, 0x5, 0x5, .u32, .rc, 2, 0x0, 0, false, .any⟩,
  ⟨0x7830, 1, 0x1, 0x6, 0x6, .u16, .ro, 2, 0x0, 0, false, .any⟩,
  ⟨0x7840, 1, 0x1, 0x1, 0x1, .u8, .rw, 2, 0x8, 0, false, .rng (2) (255)⟩,
  ⟨0x7840, 1, 0x1, 0x2, 0x2, .domain, .ro, 2, 0x0, 0, false, .any⟩,
  ⟨0x7841, 1, 0x1, 0x0, 0x0, .table, .ro, 2, 0x0, 0, false, .any⟩,
  ⟨0x7850, 1, 0x1, 0x1, 0x8, .u32, .ro, 2, 0x0, 0, false, .any⟩,
  ⟨0x7851, 1, 0x1, 0x0, 0x0, .table, .ro, 2, 0x0, 0, false, .any⟩,
  ⟨0x7860, 1, 0x1, 0x1, 0x1, .domain, .wo, 2, 0x0, 0, false, .fixedLen 16⟩,
  ⟨0x7860, 1, 0x1, 0x2, 0x2, .domain, .ro, 2, 0x0, 0, false, .any⟩,
  ⟨0x7861, 1, 0x1, 0x1, 0x4, .u32, .ro, 2, 0x0, 0, false, .any⟩,
  ⟨0x7862, 1, 0x1, 0x1, 0x4, .u32, .rc, 2, 0x0, 0, false, .any⟩,
  ⟨0x7863, 1, 0x1, 0x0, 0x0, .table, .rw, 2, 0x0, 0, false, .any⟩,
  ⟨0x7864, 1, 0x1, 0x1, 0x1, .u16, .ro, 2, 0x0, 0, false, .any⟩,
  ⟨0x7864, 1, 0x1, 0x2, 0x2, .u32, .rc, 2, 0x0, 0, true, .any⟩,
  ⟨0x7864, 1, 0x1, 0x3, 0x3, .u32, .rc, 2, 0x0, 0, false, .any⟩,
  ⟨0x7864, 1, 0x1, 0x4, 0x4, .u32, .rc, 2, 0x0, 0, false, .any⟩]

/-- The entries of area 0x8000. -/
def entries80a : List EntrySpec := [
  ⟨0x8000, 1, 0x1, 0x1, 0x1, .u32, .ro, 4, 0x80000, 0, false, .any⟩,
  ⟨0x8000, 1, 0x1, 0x2, 0x2, .u32, .ro, 2, 0x0, 0, false, .any⟩,
  ⟨0x8000, 1, 0x1, 0x3, 0x3, .u8, .ro, 2, 0x0, 0, false, .any⟩,
  ⟨0x8001, 1, 0x1, 0x0, 0x0, .table, .rw, 2, 0x0, 0, false, .any⟩,
  ⟨0x8002, 1, 0x1, 0x0, 0x0, .table, .rw, 2, 0x0, 0, false, .any⟩,
  ⟨0x8003, 1, 0x1, 0x1, 0x8, .u32, .ro, 2, 0x0, 0, false, .any⟩,
  ⟨0x8004, 1, 0x1, 0x1, 0x8, .u32, .rw, 2, 0x0, 0, false, .any⟩,
  ⟨0x8005, 1, 0x1, 0x1, 0x8, .u32, .ro, 2, 0x0, 0, true, .any⟩,
  ⟨0x8006, 1, 0x1, 0x1, 0x8, .u32, .rc, 2, 0x0, 0, false, .any⟩,
  ⟨0x8007, 1, 0x1, 0x1, 0x8, .u8, .ro, 2, 0x0, 0, false, .any⟩,
  ⟨0x8010, 1, 0x1, 0x0, 0x0, .table, .ro, 4, 0x0, 0, false, .any⟩]

/-- The entries of area 0x8200. -/
def entries82a : List EntrySpec := [
  ⟨0x8200, 1, 0x1, 0x1, 0x1, .bool, .rw, 2, 0x0, 0, false, .any⟩,
  ⟨0x8200, 1, 0x1, 0x2, 0x2, .u32, .ro, 2, 0x0, 0, true, .any⟩,
  ⟨0x8201, 1, 0x1, 0x0, 0x0, .table, .rw, 2, 0x0, 0, false, .any⟩,
  ⟨0x8202, 1, 0x1, 0x0, 0x0, .table, .ro, 2, 0x0, 0, false, .any⟩]

/-- The entries of area 0x8300. -/
def entries83a : List EntrySpec := [
  ⟨0x8300, 1, 0x1, 0x0, 0x0, .table, .rw, 2, 0x0, 0, false, .any⟩,
  ⟨0x8301, 1, 0x1, 0x1, 0x8, .u64, .rw, 2, 0xFFFFFFFFFFFFFFFF, 0, false, .any⟩,
  ⟨0x8302, 1, 0x1, 0x1, 0x8, .u32, .rc, 2, 0x0, 0, false, .any⟩]

/-- The entries of area 0x8400. -/
def entries84a : List EntrySpec := [
  ⟨0x8400, 1, 0x1, 0x1, 0x1, .u32, .rw, 2, 0x20, 0, false, .rng (1) (65536)⟩,
  ⟨0x8401, 1, 0x1, 0x0, 0x0, .table, .ro, 2, 0x0, 0, false, .any⟩]

/-- The entries of area 0x8800. -/
def entries88a : List EntrySpec := [
  ⟨0x8800, 1, 0x1, 0x1, 0x1, .u8, .ro, 2, 0x0, 0, true, .any⟩,
  ⟨0x8800, 1, 0x1, 0x2, 0x2, .u32, .rw, 2, 0x64, 0, false, .rng (10) (10000)⟩,
  ⟨0x8800, 1, 0x1, 0x3, 0x3, .u8, .wo, 2, 0x0, 0, false, .rng (1) (1)⟩,
  ⟨0x8800, 1, 0x1, 0x4, 0x4, .u32, .rc, 2, 0x0, 0, false, .any⟩,
  ⟨0x8800, 1, 0x1, 0x5, 0x5, .u8, .ro, 2, 0x0, 0, false, .any⟩,
  ⟨0x8800, 1, 0x1, 0x6, 0x6, .u8, .wo, 2, 0x0, 0, false, .mask 0x7F⟩,
  ⟨0x8800, 1, 0x1, 0x7, 0x7, .u8, .wo, 2, 0x0, 0, false, .rng (1) (1)⟩,
  ⟨0x8800, 1, 0x1, 0x8, 0x8, .domain, .ro, 3, 0x0, 0, false, .any⟩,
  ⟨0x8801, 1, 0x1, 0x0, 0x0, .table, .rw, 2, 0x0, 0, false, .any⟩,
  ⟨0x8802, 1, 0x1, 0x0, 0x0, .table, .ro, 2, 0x0, 0, false, .any⟩,
  ⟨0x8803, 1, 0x1, 0x0, 0x0, .table, .ro, 2, 0x0, 0, false, .any⟩,
  ⟨0x8804, 1, 0x1, 0x1, 0x1, .u32, .ro, 2, 0x0, 0, true, .any⟩,
  ⟨0x8805, 1, 0x1, 0x1, 0x7, .u64, .ro, 2, 0x0, 0, false, .any⟩,
  ⟨0x8806, 1, 0x1, 0x1, 0x1, .u32, .rc, 2, 0x0, 0, false, .any⟩,
  ⟨0x8806, 1, 0x1, 0x2, 0x2, .u32, .rc, 2, 0x0, 0, false, .any⟩,
  ⟨0x8820, 1, 0x1, 0x1, 0x1, .u64, .ro, 2, 0x0, 0, false, .any⟩,
  ⟨0x8820, 1, 0x1, 0x2, 0x2, .u64, .ro, 2, 0x0, 0, false, .any⟩,
  ⟨0x8820, 1, 0x1, 0x3, 0x3, .u8, .wo, 2, 0x0, 0, false, .rng (0) (95)⟩,
  ⟨0x8810, 1, 0x1, 0x1, 0x1, .u32, .rw, 2, 0x3E8, 0, false, .rng (10) (60000)⟩,
  ⟨0x8810, 1, 0x1, 0x2, 0x2, .u8, .wo, 1, 0x0, 0, false, .rng (1) (1)⟩,
  ⟨0x8810, 1, 0x1, 0x3, 0x3, .bool, .rw, 2, 0x1, 0, false, .any⟩,
  ⟨0x8810, 1, 0x1, 0x4, 0x4, .u8, .rw, 2, 0x3, 0, false, .any⟩,
  ⟨0x8810, 1, 0x1, 0x5, 0x5, .u32, .rc, 2, 0x0, 0, false, .any⟩,
  ⟨0x8811, 1, 0x1, 0x1, 0x4, .u32, .rw, 2, 0x40, 0, false, .rng (0) (65536)⟩,
  ⟨0x8812, 1, 0x1, 0x1, 0x4, .u8, .wo, 1, 0x0, 0, false, .rng (1) (1)⟩,
  ⟨0x8813, 1, 0x1, 0x1, 0x4, .u32, .rc, 2, 0x0, 0, false, .any⟩,
  ⟨0x8814, 1, 0x1, 0x1, 0x1, .u32, .rw, 2, 0x0, 0, false, .rng (0) (16777215)⟩,
  ⟨0x8814, 1, 0x1, 0x2, 0x2, .u32, .rc, 2, 0x0, 0, false, .any⟩,
  ⟨0x88F0, 1, 0x1, 0x1, 0x1, .u8, .ro, 4, 0x0, 0, false, .any⟩]

/-- The entries of area 0x9000. -/
def entries90a : List EntrySpec := [
  ⟨0x9000, 1, 0x1, 0x1, 0x1, .u8, .ro, 2, 0x0, 0, true, .any⟩,
  ⟨0x9000, 1, 0x1, 0x2, 0x2, .u8, .wo, 2, 0x0, 0, false, .rng (1) (1)⟩,
  ⟨0x9000, 1, 0x1, 0x3, 0x3, .u8, .wo, 2, 0x0, 0, false, .rng (1) (1)⟩,
  ⟨0x9000, 1, 0x1, 0x4, 0x4, .u8, .ro, 2, 0x0, 0, false, .any⟩,
  ⟨0x9000, 1, 0x1, 0x5, 0x5, .bool, .rw, 2, 0x1, 0, false, .any⟩,
  ⟨0x9000, 1, 0x1, 0x6, 0x6, .u8, .wo, 2, 0x0, 0, false, .rng (1) (1)⟩,
  ⟨0x9000, 1, 0x1, 0x7, 0x7, .u32, .rw, 2, 0x64, 0, false, .rng (0) (10000)⟩,
  ⟨0x9000, 1, 0x1, 0x8, 0x8, .u8, .ro, 2, 0x0, 0, false, .any⟩,
  ⟨0x9000, 1, 0x1, 0x9, 0x9, .u32, .ro, 2, 0x0, 0, false, .any⟩,
  ⟨0x9000, 1, 0x1, 0xA, 0xA, .u32, .rc, 2, 0x0, 0, false, .any⟩,
  ⟨0x9000, 1, 0x1, 0xB, 0xB, .u32, .ro, 2, 0x0, 0, false, .any⟩,
  ⟨0x9000, 1, 0x1, 0xC, 0xC, .bool, .rw, 2, 0x1, 0, false, .any⟩,
  ⟨0x9000, 1, 0x1, 0xD, 0xD, .u32, .rc, 2, 0x0, 0, false, .any⟩,
  ⟨0x9010, 1, 0x1, 0x1, 0x1, .u8, .ro, 2, 0x0, 0, false, .any⟩,
  ⟨0x9010, 1, 0x1, 0x2, 0x2, .u8, .ro, 2, 0x0, 0, true, .any⟩,
  ⟨0x9010, 1, 0x1, 0x3, 0x3, .u8, .ro, 2, 0xFF, 0, false, .any⟩,
  ⟨0x9010, 1, 0x1, 0x4, 0x4, .u64, .ro, 2, 0x0, 0, false, .any⟩,
  ⟨0x9010, 1, 0x1, 0x5, 0x5, .u32, .ro, 2, 0x0, 0, false, .any⟩,
  ⟨0x9010, 1, 0x1, 0x6, 0x6, .u64, .ro, 2, 0x0, 0, false, .any⟩,
  ⟨0x9020, 1, 0x1, 0x0, 0x0, .table, .rw, 2, 0x0, 0, false, .any⟩,
  ⟨0x9021, 1, 0x1, 0x1, 0x4, .u16, .ro, 2, 0x0, 0, false, .any⟩,
  ⟨0x9022, 1, 0x1, 0x1, 0x4, .u8, .ro, 2, 0x0, 0, true, .any⟩,
  ⟨0x9023, 1, 0x1, 0x0, 0x0, .table, .rw, 2, 0x0, 0, false, .any⟩,
  ⟨0x9024, 1, 0x1, 0x1, 0x1, .u8, .rw, 2, 0x0, 0, false, .mask 0xF⟩,
  ⟨0x9024, 1, 0x1, 0x2, 0x2, .u32, .rw, 2, 0x3E8, 0, false, .rng (10) (1000000)⟩,
  ⟨0x9040, 1, 0x1, 0x1, 0x1, .i32, .rw, 2, 0x6E, 0, false, .rng (90) (110)⟩,
  ⟨0x9040, 1, 0x1, 0x2, 0x2, .u8, .ro, 2, 0x0, 0, true, .any⟩,
  ⟨0x9040, 1, 0x1, 0x3, 0x3, .i32, .ro, 4, 0x73, 0, false, .any⟩,
  ⟨0x9040, 1, 0x1, 0x4, 0x4, .u64, .ro, 2, 0x0, 0, false, .any⟩,
  ⟨0x9040, 1, 0x1, 0x5, 0x5, .u32, .rc, 2, 0x0, 0, false, .any⟩,
  ⟨0x9040, 1, 0x1, 0x6, 0x6, .i32, .rc, 2, 0xFFFFFFD8, 0, false, .any⟩,
  ⟨0x9041, 1, 0x1, 0x1, 0x10, .i32, .ro, 2, 0x0, 0, false, .any⟩,
  ⟨0x9050, 1, 0x1, 0x1, 0x1, .bool, .rw, 2, 0x1, 0, false, .any⟩,
  ⟨0x9050, 1, 0x1, 0x2, 0x2, .u16, .ro, 2, 0x0, 0, false, .any⟩,
  ⟨0x9050, 1, 0x1, 0x3, 0x3, .u16, .ro, 4, 0x0, 0, false, .any⟩,
  ⟨0x9050, 1, 0x1, 0x4, 0x4, .u16, .rw, 2, 0x0, 0, false, .any⟩,
  ⟨0x9050, 1, 0x1, 0x5, 0x5, .u16, .ro, 2, 0x0, 0, false, .any⟩,
  ⟨0x9050, 1, 0x1, 0x6, 0x6, .u32, .rc, 2, 0x0, 0, true, .any⟩]

/-- Every published entry of the dictionary. -/
def entrySpecs : List EntrySpec :=
  entries01a ++ entries02a ++ entries02b ++ entries03a ++ entries10a ++ entries10b ++ entries16a ++ entries20a ++
  entries20b ++ entries21a ++ entries30a ++ entries31a ++ entries32a ++ entries34a ++ entries35a ++ entries36a ++
  entries37a ++ entries38a ++ entries40a ++ entries40b ++ entries44a ++ entries45a ++ entries46a ++ entries47a ++
  entries50a ++ entries51a ++ entries52a ++ entries53a ++ entries58a ++ entries60a ++ entries60b ++ entries61a ++
  entries62a ++ entries68a ++ entries70a ++ entries78a ++ entries80a ++ entries82a ++ entries83a ++ entries84a ++
  entries88a ++ entries90a

/-- TABLEs, part 1. -/
def tables1 : List TableSpec := [
  ⟨T.Subscriptions, 1, 128, 64, (some 127), 0x7FFFFF0000000000000000FF00000000, 0x0, 0, []⟩,
  ⟨T.ProstaRoutes, 1, 80, 16384, (some 79), 0xFF000000000000, 0x0, 1, [(77, 71, 0, 95)]⟩,
  ⟨T.Sessions, 1, 192, 16, (some 191), 0x7FFFFFFF0000000000FFFFFF000000000000000000000000, 0x0, 2, []⟩,
  ⟨T.TimeEvents, 1, 384, 1024, none, 0xFFFE00000000000000000000000000000000000000000000000000000000000000000000000000000000, 0x0, 3, []⟩,
  ⟨T.PortClassify, 1, 128, 101, none, 0x1FF0000000000000000, 0x17D634400000000000000000000, 4, []⟩,
  ⟨T.SearchProfiles, 1, 672, 32, none, 0xFF8000000000000000000000000000000000000000000000000000000000000000000000000000000000000000000000000000000000000000000000000000000000000000000000000000000000000000000000, 0x7F00FFFFFFFFFFFFFFFFFFFFFFFFFFFFFFFFFFFFFFFFFFFFFFFFFFFFFFFFFFFFFFFFFFFFFFFFFFFFFFFFFFFFFFFFFFFFFFFFFFFFFFFFFFFFFFFFFFFFFFFFFFFFFFFFFFFFFFFFFFFFFFFFFFFFFFFFFFFFFFFF, 5, [(656, 655, 0, 2)]⟩,
  ⟨T.Indirection, 1, 16, 262144, none, 0x0, 0x0, 6, []⟩,
  ⟨T.AssocRows, 1, 712, 65536, none, 0x3F00000000000000000000000000000000000000000000000000000000000000000000000000000000000000000000000000000000000000000000000000000000000000000000000000000000000000000000000000000000, 0x0, 7, []⟩,
  ⟨T.AssocRowsAll, 1, 712, 8192, none, 0x3F00000000000000000000000000000000000000000000000000000000000000000000000000000000000000000000000000000000000000000000000000000000000000000000000000000000000000000000000000000000, 0x0, 7, []⟩,
  ⟨T.TreeNodes 0, 4, 64, 262144, none, 0x1FFFFFFFF, 0x0, 8, []⟩,
  ⟨T.TreeNodesAll, 1, 64, 262144, none, 0x1FFFFFFFF, 0x0, 8, []⟩,
  ⟨T.TreeLists 0, 4, 136, 65536, none, 0x0, 0x0, 9, []⟩,
  ⟨T.TreeListsAll, 1, 136, 65536, none, 0x0, 0x0, 9, []⟩,
  ⟨T.TreeRules 0, 4, 456, 131072, (some 455), 0x7F0000000000000000000000000000000000000000000000000000000000000000000000000000000000000000000000000000000000000000, 0x0, 10, []⟩,
  ⟨T.TreeRulesAll, 1, 456, 131072, (some 455), 0x7F0000000000000000000000000000000000000000000000000000000000000000000000000000000000000000000000000000000000000000, 0x0, 10, []⟩,
  ⟨T.TreeSets, 1, 192, 64, (some 191), 0x7FF000000000300000000000000000000000000000000000, 0x1E03800000000000000000000000000000000000, 11, [(161, 152, 0, 624), (151, 142, 0, 624)]⟩,
  ⟨T.TreeSetsAll, 1, 192, 16, (some 191), 0x7FF000000000300000000000000000000000000000000000, 0x1E03800000000000000000000000000000000000, 11, [(161, 152, 0, 624), (151, 142, 0, 624)]⟩,
  ⟨T.L2Rows 0, 8, 88, 262144, (some 87), 0x7F0000000000000000000, 0x0, 12, []⟩,
  ⟨T.Vlans, 1, 128, 4096, (some 127), 0x3FFFF000000000000000000000000, 0x0, 13, []⟩,
  ⟨T.PortBridge, 1, 64, 101, none, 0xFFFFF, 0x18000000000000, 14, [(63, 52, 1, 4094), (30, 29, 0, 3)]⟩,
  ⟨T.LagGroups, 1, 128, 128, (some 127), 0x7FF0000000000000000000000000000, 0x0, 15, []⟩,
  ⟨T.L2Events 0, 8, 256, 4096, none, 0x700000000000000000000000FFFFFFFFFFF000000000000000000000000, 0x0, 16, []⟩,
  ⟨T.LpmRoutes, 1, 160, 524288, (some 159), 0x7F000000000000000000000000000000000000, 0x0, 17, []⟩,
  ⟨T.NextHops, 1, 96, 65536, (some 95), 0x1FF000000000000000, 0x0, 18, []⟩,
  ⟨T.EmRows 0, 4, 256, 262144, (some 255), 0x3FFF00000000000000000000000000000000000000000000000000007FFFFFFF, 0x0, 19, []⟩]

/-- TABLEs, part 2. -/
def tables2 : List TableSpec := [
  ⟨T.RecoveryFunctions, 1, 64, 16384, (some 63), 0x700000000FFFFFF, 0x200007D000000, 20, [(55, 48, 1, 128), (47, 24, 1, 16777215)]⟩,
  ⟨T.RecoveryCounters, 1, 448, 16384, none, 0x0, 0x0, 21, []⟩,
  ⟨T.Bindings, 1, 128, 4096, (some 127), 0x7F00000000FFFFFFFFFFFFFFFF, 0x0, 22, []⟩,
  ⟨T.ProgramStore, 1, 32, 16384, none, 0x0, 0x0, 23, []⟩,
  ⟨T.MacPool, 1, 48, 256, none, 0x0, 0x0, 24, []⟩,
  ⟨T.PortRewrite, 1, 64, 96, none, 0xFFFE000000000000, 0x0, 25, []⟩,
  ⟨T.SeqGen, 1, 32, 4096, (some 31), 0x7FFF0000, 0x0, 26, []⟩,
  ⟨T.ActionCounters, 1, 128, 65536, none, 0x0, 0x0, 27, []⟩,
  ⟨T.TemplateFills, 1, 32, 2048, none, 0x0, 0x0, 28, []⟩,
  ⟨T.ActionSamples 0, 8, 256, 4096, none, 0x7FFFFF000000000000000000000000, 0x0, 29, []⟩,
  ⟨T.AdmissionProfiles, 1, 64, 32, none, 0x7FFF, 0xC00000000000, 30, [(47, 29, 0, 393216), (28, 25, 0, 12), (24, 20, 0, 16), (19, 15, 0, 16)]⟩,
  ⟨T.QueueConfig, 1, 64, 1616, none, 0xFFFFFF, 0x4000040000000, 31, [(57, 40, 37, 262143), (39, 24, 1, 16384)]⟩,
  ⟨T.QueueState, 1, 128, 1616, none, 0xFFFFFF, 0x0, 32, []⟩,
  ⟨T.QueueDrops, 1, 320, 1616, none, 0x0, 0x0, 33, []⟩,
  ⟨T.PortBufferCounters, 1, 256, 101, none, 0x0, 0x0, 34, []⟩,
  ⟨T.McGroups, 1, 128, 16384, (some 127), 0x3FFFFFFC000000000000000000000000, 0x40000000000000000000000000000000, 35, []⟩,
  ⟨T.Samplers, 1, 64, 16, (some 63), 0xFFFFFF, 0x80000400000000, 36, [(62, 61, 0, 1), (56, 48, 64, 256), (47, 24, 1, 16777215)]⟩,
  ⟨T.MirrorSessions, 1, 64, 16, (some 63), 0x7FFF, 0x1000001000000000, 37, [(61, 53, 64, 256), (36, 35, 0, 2)]⟩,
  ⟨T.WeaveWindows, 1, 64, 98304, none, 0xFFFF0000, 0xFFFF, 38, [(51, 32, 0, 999999)]⟩,
  ⟨T.QueueSched, 1, 64, 1616, none, 0x7FFFFFF, 0x10000A0000000, 39, [(60, 48, 1, 4096), (47, 28, 0, 1000000)]⟩,
  ⟨T.QueueShapers, 1, 128, 1536, none, 0xF0000000000000000000000000000F, 0x14000000000000000000040000040000, 40, []⟩,
  ⟨T.PortShapers, 1, 128, 96, none, 0xF0000000000000000000000000000F, 0x14000000000000000000040000040000, 40, []⟩,
  ⟨T.ShaperTokens, 1, 64, 1632, none, 0x0, 0x0, 41, []⟩,
  ⟨T.QueueTxCounters, 1, 320, 1616, none, 0x0, 0x0, 33, []⟩,
  ⟨T.StreamFilters, 1, 64, 65536, (some 63), 0xFFFFF, 0x0, 42, []⟩]

/-- TABLEs, part 3. -/
def tables3 : List TableSpec := [
  ⟨T.StreamGates, 1, 64, 4096, (some 63), 0x7FFFF, 0x100000080000, 43, [(56, 44, 1, 4096)]⟩,
  ⟨T.Meters, 1, 128, 16384, (some 127), 0xFF0000000000000000000000000000F, 0x40000040000, 44, []⟩,
  ⟨T.StreamCounters, 1, 384, 65536, none, 0x0, 0x0, 45, []⟩,
  ⟨T.MeterCounters, 1, 192, 16384, none, 0x0, 0x0, 46, []⟩,
  ⟨T.StreamBlocked, 1, 8, 65536, none, 0x7F, 0x0, 47, []⟩,
  ⟨T.GateLatched, 1, 8, 4096, none, 0x7F, 0x0, 47, []⟩,
  ⟨T.QueueHistograms, 1, 1088, 1616, none, 0x0, 0x0, 48, []⟩,
  ⟨T.PendingBatches, 1, 128, 4, (some 127), 0xFFF0000000000000000000000000000, 0x0, 49, []⟩,
  ⟨T.CommitReports, 1, 352, 64, none, 0x70000000000FF0000000000000000000000000000000000000000000000000000000000000000, 0x0, 50, []⟩,
  ⟨T.YardLines, 1, 128, 56, none, 0xFF, 0x10000000000000000000000000000000, 51, [(124, 123, 0, 2), (112, 111, 0, 2), (109, 104, 0, 55)]⟩,
  ⟨T.Generators, 1, 128, 16, (some 127), 0x7FFFFFFFFFFFFF, 0x40000000000003200000000000000, 52, [(126, 114, 1, 4096), (78, 55, 4, 16777215)]⟩,
  ⟨T.StartGroups, 1, 64, 8, (some 63), 0x7FFFFFFFFFF, 0x0, 53, [(62, 43, 0, 1000000)]⟩,
  ⟨T.StartGroupCounters, 1, 128, 8, none, 0xFFFFFFFF, 0x0, 54, []⟩,
  ⟨T.YardCaptures, 1, 192, 4096, none, 0x780000000000000000000000000000000000000000, 0x0, 55, []⟩,
  ⟨T.YardLineCounters, 1, 384, 56, none, 0x0, 0x0, 45, []⟩,
  ⟨T.PpConfig, 1, 128, 8, none, 0x1E00000000001FFFFFFFFFFFFFFFFFFF, 0x41020014003E80000000000000000000, 56, [(120, 114, 0, 64), (113, 107, 0, 64), (106, 96, 20, 2000), (95, 77, 40, 500000)]⟩,
  ⟨T.PpCounters, 1, 512, 8, none, 0x0, 0x0, 57, []⟩,
  ⟨T.SetpointLimits, 1, 160, 512, none, 0xFFFFF00000000000000000000000000000000, 0x20000000000000000000000000000100000000, 58, [(159, 158, 0, 2)]⟩,
  ⟨T.SetpointWordState, 1, 128, 512, none, 0x1FFFFFFFFFFFFF, 0x0, 59, []⟩,
  ⟨T.SetpointWordCounters, 1, 192, 512, none, 0x0, 0x0, 46, []⟩,
  ⟨T.SampleGroups, 1, 64, 16, (some 63), 0x1FF, 0x100000000000, 60, [(56, 44, 1, 4096), (28, 9, 0, 999999)]⟩,
  ⟨T.SampleGroupCounters, 1, 128, 16, none, 0xFFFFFFFF, 0x0, 54, []⟩,
  ⟨T.PaddockCounters, 1, 384, 8, none, 0x0, 0x0, 45, []⟩,
  ⟨T.ServiceQueues, 1, 64, 16, (some 63), 0xFFFFFFFFFFF, 0x10000000000000, 61, [(58, 57, 0, 1), (56, 44, 1, 4096)]⟩,
  ⟨T.PaddockCompletions, 1, 256, 4096, none, 0x300000000000000000000FFFFFFFF000000000000000000000000, 0x0, 62, []⟩]

/-- TABLEs, part 4. -/
def tables4 : List TableSpec := [
  ⟨T.PaddockSlots, 1, 64, 4096, none, 0x7FF00000000, 0x0, 63, []⟩,
  ⟨T.MirrorRecoveryMask, 1, 1, 16384, none, 0x0, 0x0, 64, []⟩,
  ⟨T.PairEvents, 1, 160, 256, none, 0x7F00000000000000000000000000000000, 0x0, 65, []⟩,
  ⟨T.CascadeReplies, 1, 4064, 256, none, 0x3FFF000000000000000000000000000000000000000000000000000000000000000000000000000000000000000000000000000000000000000000000000000000000000000000000000000000000000000000000000000000000000000000000000000000000000000000000000000000000000000000000000000000000000000000000000000000000000000000000000000000000000000000000000000000000000000000000000000000000000000000000000000000000000000000000000000000000000000000000000000000000000000000000000000000000000000000000000000000000000000000000000000000000000000000000000000000000000000000000000000000000000000000000000000000000000000000000000000000000000000000000000000000000000000000000000000000000000000000000000000000000000000000000000000000000000000000000000000000000000000000000000000000000000000000000000000000000000000000000000000000000000000000000000000000000000000000000000000000000000000000000000000000000000000000000000000000000000000000000000000000000000000000000000000000000000000000000000000000000000000000000000000000000000000000000000000000000000000000000000, 0x0, 66, []⟩,
  ⟨T.MailboxEnds, 1, 32, 16, none, 0xFFFF, 0x10010000, 67, []⟩,
  ⟨T.MasterEpochs, 1, 8, 256, none, 0x0, 0x0, 68, []⟩,
  ⟨T.ShaperCeilings, 1, 64, 96, none, 0xFF, 0x0, 69, [(63, 32, 0, 400000000)]⟩,
  ⟨T.HbmTraining, 1, 128, 64, (some 127), 0x7F00000000000000FFFFFFFFFFFFFFFF, 0x0, 70, []⟩,
  ⟨T.HbmRegions, 1, 128, 6, none, 0x7FFFFFFFFFFFFFFFFFFFFF800000000, 0x0, 71, []⟩,
  ⟨T.HbmRepairs, 1, 64, 64, none, 0xFF, 0x0, 72, []⟩,
  ⟨T.LaneEyeMargin, 1, 32, 96, none, 0x0, 0x0, 73, []⟩,
  ⟨T.PoolQuotas, 1, 128, 64, none, 0x0, 0x0, 74, []⟩,
  ⟨T.SweepSets, 1, 128, 8, (some 127), 0xFFFFF, 0x20001000000000000000000001000000, 75, [(124, 108, 1, 65536), (39, 20, 16, 262144)]⟩,
  ⟨T.SweepSelect, 1, 64, 256, (some 63), 0x0, 0x0, 76, []⟩,
  ⟨T.SweepCatalog, 1, 64, 1024, none, 0x7FFF00000000, 0x0, 77, []⟩,
  ⟨T.EventFilters, 1, 128, 8, (some 127), 0x3FF, 0x200000003FFFC000003FFFFFC00, 78, []⟩,
  ⟨T.EventTrace, 1, 256, 4096, none, 0x1F0000000000000000000000000000000000000000000000000000, 0x0, 79, []⟩,
  ⟨T.ActionSampleConfig, 1, 64, 8, none, 0x7FFF, 0x8000007FF8000, 80, [(62, 39, 1, 16777215)]⟩,
  ⟨T.PortBandwidth, 1, 128, 96, (some 23), 0x7FFFFF, 0x0, 81, []⟩,
  ⟨T.FaultReactions, 1, 64, 4096, none, 0xFFFFFFFFFFFFFF, 0x0, 82, []⟩,
  ⟨T.FaultCounts, 1, 64, 4096, none, 0x0, 0x0, 83, []⟩,
  ⟨T.FaultLog, 1, 256, 1024, none, 0xFFFFFFFFFF0000000000000000000000000000000000000000, 0x0, 84, []⟩,
  ⟨T.AonComparators, 1, 64, 4, (some 63), 0xFFFFFF, 0x0, 85, [(31, 24, 1, 255)]⟩,
  ⟨T.TimeAlarms, 1, 128, 4, (some 127), 0x1FFFFFFF000000000000000000000000, 0x0, 86, []⟩]

/-- Every TABLE of the dictionary. -/
def tableSpecs : List TableSpec := tables1 ++ tables2 ++ tables3 ++ tables4

/-- Row layouts, part 1: row bits and the fields as (least significant bit, width). -/
def layouts1 : List (Nat × List (Nat × Nat)) := [
  (128, [(127, 1), (96, 8), (64, 32), (48, 16), (40, 8), (0, 32)]),
  (80, [(79, 1), (78, 1), (71, 7), (68, 3), (56, 12), (0, 48)]),
  (192, [(191, 1), (128, 32), (120, 8), (64, 32), (0, 64)]),
  (384, [(376, 8), (375, 1), (368, 7), (352, 16), (336, 16), (320, 1), (224, 96), (128, 96), (64, 64), (0, 64)]),
  (128, [(120, 8), (115, 5), (110, 5), (105, 5), (104, 1), (103, 1), (79, 24), (76, 3), (73, 3), (0, 64)]),
  (672, [(662, 1), (658, 4), (657, 1), (655, 2), (648, 7), (640, 8), (0, 640)]),
  (16, [(0, 16)]),
  (712, [(710, 2), (640, 64), (320, 320), (0, 320)]),
  (64, [(62, 2), (54, 8), (51, 3), (33, 18)]),
  (136, [(119, 17), (102, 17), (85, 17), (68, 17), (51, 17), (34, 17), (17, 17), (0, 17)]),
  (456, [(455, 1), (384, 64), (368, 16), (352, 16), (336, 16), (320, 16), (160, 160), (0, 160)]),
  (192, [(191, 1), (162, 18), (152, 10), (142, 10), (0, 140)]),
  (88, [(87, 1), (86, 1), (85, 1), (84, 1), (83, 1), (64, 12), (16, 48), (14, 2), (0, 14)]),
  (128, [(127, 1), (126, 1), (114, 12), (0, 96)]),
  (64, [(52, 12), (51, 1), (50, 1), (49, 1), (31, 18), (29, 2), (28, 1), (27, 1), (20, 7)]),
  (128, [(127, 1), (123, 4), (0, 112)]),
  (256, [(252, 4), (236, 16), (235, 1), (216, 16), (200, 16), (188, 12), (140, 48), (0, 96)]),
  (160, [(159, 1), (158, 1), (151, 7), (16, 128), (0, 16)]),
  (96, [(95, 1), (93, 2), (85, 8), (69, 16), (48, 12), (0, 48)]),
  (256, [(255, 1), (254, 1), (80, 160), (79, 1), (63, 16), (62, 1), (46, 16), (45, 1), (31, 14)])]

/-- Row layouts, part 2: row bits and the fields as (least significant bit, width). -/
def layouts2 : List (Nat × List (Nat × Nat)) := [
  (64, [(63, 1), (62, 1), (60, 2), (59, 1), (48, 8), (24, 24)]),
  (448, [(384, 64), (320, 64), (256, 64), (192, 64), (128, 64), (64, 64), (0, 64)]),
  (128, [(127, 1), (113, 14), (109, 4), (103, 6), (64, 32)]),
  (32, [(26, 6), (0, 26)]),
  (48, [(0, 48)]),
  (64, [(48, 1), (0, 48)]),
  (32, [(31, 1), (0, 16)]),
  (128, [(64, 64), (0, 64)]),
  (32, [(29, 3), (20, 9), (0, 20)]),
  (256, [(240, 16), (239, 1), (236, 3), (224, 12), (220, 4), (206, 14), (174, 32), (166, 8), (142, 24), (126, 16), (119, 7), (0, 96)]),
  (64, [(48, 16), (29, 19), (25, 4), (20, 5), (15, 5)]),
  (64, [(59, 5), (58, 1), (40, 18), (24, 16)]),
  (128, [(109, 19), (90, 19), (89, 1), (70, 19), (43, 27), (24, 19)]),
  (320, [(256, 64), (192, 64), (128, 64), (64, 64), (0, 64)]),
  (256, [(192, 64), (128, 64), (64, 64), (0, 64)]),
  (128, [(127, 1), (126, 1), (0, 98)]),
  (64, [(63, 1), (61, 2), (60, 1), (57, 3), (48, 9), (24, 24)]),
  (64, [(63, 1), (62, 1), (53, 9), (52, 1), (49, 3), (37, 12), (35, 2), (31, 4), (15, 16)]),
  (64, [(52, 12), (32, 20), (0, 16)]),
  (64, [(61, 3), (48, 13), (28, 20), (27, 1)])]

/-- Row layouts, part 3: row bits and the fields as (least significant bit, width). -/
def layouts3 : List (Nat × List (Nat × Nat)) := [
  (128, [(127, 1), (126, 1), (120, 6), (84, 32), (52, 32), (28, 24), (4, 24)]),
  (64, [(32, 32), (0, 32)]),
  (64, [(63, 1), (62, 1), (61, 1), (60, 1), (46, 14), (34, 12), (20, 14)]),
  (64, [(63, 1), (62, 1), (61, 1), (57, 4), (44, 13), (32, 12), (19, 13)]),
  (128, [(127, 1), (126, 1), (125, 1), (124, 1), (84, 32), (52, 32), (28, 24), (4, 24)]),
  (384, [(320, 64), (256, 64), (192, 64), (128, 64), (64, 64), (0, 64)]),
  (192, [(128, 64), (64, 64), (0, 64)]),
  (8, [(7, 1)]),
  (1088, [(1024, 64), (992, 32), (960, 32), (928, 32), (896, 32), (864, 32), (832, 32), (800, 32), (768, 32), (736, 32), (704, 32), (672, 32), (640, 32), (608, 32), (576, 32), (544, 32), (512, 32), (480, 32), (448, 32), (416, 32), (384, 32), (352, 32), (320, 32), (288, 32), (256, 32), (224, 32), (192, 32), (160, 32), (128, 32), (96, 32), (64, 32), (32, 32), (0, 32)]),
  (128, [(127, 1), (126, 1), (125, 1), (124, 1), (96, 16), (32, 64), (0, 32)]),
  (352, [(320, 32), (312, 8), (308, 4), (307, 1), (288, 16), (272, 16), (264, 8), (192, 64), (128, 64), (96, 32), (0, 96)]),
  (128, [(126, 2), (125, 1), (123, 2), (122, 1), (121, 1), (117, 4), (116, 1), (113, 3), (111, 2), (110, 1), (104, 6), (96, 8), (72, 24), (48, 24), (40, 8), (24, 16), (8, 16)]),
  (128, [(127, 1), (114, 13), (102, 12), (79, 23), (55, 24)]),
  (64, [(63, 1), (43, 20)]),
  (128, [(64, 64), (32, 32)]),
  (192, [(176, 16), (170, 6), (169, 1), (168, 1), (167, 1), (96, 67), (0, 96)]),
  (128, [(127, 1), (126, 1), (125, 1), (114, 7), (107, 7), (96, 11), (77, 19)]),
  (512, [(448, 64), (384, 64), (320, 64), (256, 64), (192, 64), (128, 64), (64, 64), (0, 64)]),
  (160, [(158, 2), (156, 2), (148, 8), (96, 32), (64, 32), (32, 32), (0, 32)]),
  (128, [(96, 32), (64, 32), (56, 8), (54, 2), (53, 1)])]

/-- Row layouts, part 4: row bits and the fields as (least significant bit, width). -/
def layouts4 : List (Nat × List (Nat × Nat)) := [
  (64, [(63, 1), (57, 6), (44, 13), (32, 12), (29, 3), (9, 20)]),
  (64, [(63, 1), (62, 1), (59, 3), (57, 2), (44, 13)]),
  (256, [(252, 4), (250, 2), (240, 10), (224, 16), (216, 8), (215, 1), (212, 3), (211, 1), (210, 1), (192, 16), (176, 16), (160, 16), (128, 32), (0, 96)]),
  (64, [(62, 2), (58, 4), (54, 4), (44, 10), (43, 1), (0, 32)]),
  (1, [(0, 1)]),
  (160, [(152, 8), (136, 16), (135, 1), (96, 32), (0, 96)]),
  (4064, [(4048, 16), (4047, 1), (4046, 1), (3936, 96), (0, 3936)]),
  (32, [(24, 8), (16, 8)]),
  (8, [(0, 8)]),
  (64, [(32, 32), (8, 24)]),
  (128, [(127, 1), (112, 8), (104, 8), (96, 8), (88, 8), (80, 8), (72, 8), (64, 8)]),
  (128, [(125, 3), (123, 2), (0, 35)]),
  (64, [(48, 16), (32, 16), (16, 16), (8, 8)]),
  (32, [(16, 16), (0, 16)]),
  (128, [(96, 32), (64, 32), (32, 32), (0, 32)]),
  (128, [(127, 1), (126, 1), (125, 1), (108, 17), (92, 16), (40, 52), (20, 20)]),
  (64, [(63, 1), (56, 7), (40, 16), (36, 4), (18, 18), (0, 18)]),
  (64, [(48, 16), (47, 1), (0, 32)]),
  (128, [(127, 1), (111, 16), (106, 5), (105, 1), (97, 8), (90, 7), (74, 16), (58, 16), (34, 24), (10, 24)]),
  (256, [(240, 16), (239, 1), (235, 4), (232, 3), (224, 8), (216, 8), (213, 3), (192, 16), (168, 24), (160, 8), (128, 32), (96, 32), (0, 96)])]

/-- Row layouts, part 5: row bits and the fields as (least significant bit, width). -/
def layouts5 : List (Nat × List (Nat × Nat)) := [
  (64, [(63, 1), (39, 24), (27, 12), (15, 12)]),
  (128, [(96, 32), (64, 32), (44, 20), (24, 20), (23, 1)]),
  (64, [(63, 1), (62, 1), (61, 1), (60, 1), (59, 1), (56, 3)]),
  (64, [(0, 64)]),
  (256, [(240, 16), (239, 1), (238, 1), (235, 3), (233, 2), (232, 1), (224, 8), (208, 16), (200, 8), (96, 64), (0, 96)]),
  (64, [(63, 1), (62, 1), (51, 11), (40, 11), (32, 8), (24, 8)]),
  (128, [(127, 1), (126, 1), (125, 1), (0, 96)])]

/-- The distinct row layouts of the device (R34). -/
def rowLayouts : List (Nat × List (Nat × Nat)) := layouts1 ++ layouts2 ++ layouts3 ++ layouts4 ++ layouts5

end Sys2Proof.Machine
end

