-- ==== Sys2Proof/Machine/Defaults.lean ====
section
/-!
DEFINITION. The fault sources of R525 and the reset values of the dictionary: which entry a key names, its default, and the
reset row of every TABLE.
-/
namespace Sys2Proof.Machine

/-! ### Fault sources (R525) -/

namespace Src
/-- DomainLockLost (R525), class S. -/
def domainLockLost : Nat := 0x0101
/-- DomainHoldover (R525), class S. -/
def domainHoldover : Nat := 0x0102
/-- ServoClamp (R525), class H. -/
def servoClamp : Nat := 0x0103
/-- OutputReacquire (R525), class S. -/
def outputReacquire : Nat := 0x0104
/-- PllRefLoss (R525), class S. -/
def pllRefLoss : Nat := 0x0105
/-- PortCalFailed (R525), class S. -/
def portCalFailed : Nat := 0x0106
/-- PdelayLost (R525), class S. -/
def pdelayLost : Nat := 0x0107
/-- PpsMissing (R525), class S. -/
def ppsMissing : Nat := 0x0108
/-- TableParity (R525), class C. -/
def tableParity : Nat := 0x0201
/-- TableNoShadow (R525), class U. -/
def tableNoShadow : Nat := 0x0202
/-- BufferEccCorrected (R525), class C. -/
def bufferEccCorrected : Nat := 0x0203
/-- BufferEccUncorrected (R525), class U. -/
def bufferEccUncorrected : Nat := 0x0204
/-- BufferSparesExhausted (R525), class U. -/
def bufferSparesExhausted : Nat := 0x0205
/-- SpillLost (R525), class U. -/
def spillLost : Nat := 0x0206
/-- DictionaryDataError (R525), class U. -/
def dictionaryDataError : Nat := 0x0207
/-- KeySlotUndecryptable (R525), class U. -/
def keySlotUndecryptable : Nat := 0x0208
/-- TickOverrun (R525), class T. -/
def tickOverrun : Nat := 0x0301
/-- CommitLate (R525), class T. -/
def commitLate : Nat := 0x0302
/-- PaddockTimeout (R525), class T. -/
def paddockTimeout : Nat := 0x0303
/-- LoopOverrun (R525), class T. -/
def loopOverrun : Nat := 0x0304
/-- SweepSkipped (R525), class T. -/
def sweepSkipped : Nat := 0x0305
/-- SetpointHalter (R525), class H. -/
def setpointHalter : Nat := 0x0401
/-- YardSuppressed (R525), class H. -/
def yardSuppressed : Nat := 0x0402
/-- ThermalThrottle (R525), class H. -/
def thermalThrottle : Nat := 0x0403
/-- ThermalTrip (R525), class H. -/
def thermalTrip : Nat := 0x0404
/-- ProcessPortCrc (R525), class U. -/
def processPortCrc : Nat := 0x0501
/-- TickCoreMismatch (R525), class U. -/
def tickCoreMismatch : Nat := 0x0502
/-- HbmCorrected (R525), class C. -/
def hbmCorrected : Nat := 0x0601
/-- HbmUncorrected (R525), class U. -/
def hbmUncorrected : Nat := 0x0602
/-- HbmTrainingFailed (R525), class U. -/
def hbmTrainingFailed : Nat := 0x0603
/-- HbmNarrowEye (R525), class C. -/
def hbmNarrowEye : Nat := 0x0604
/-- HbmEyeLost (R525), class U. -/
def hbmEyeLost : Nat := 0x0605
/-- HbmRepairsExhausted (R525), class U. -/
def hbmRepairsExhausted : Nat := 0x0606
/-- PoolMisuse (R525), class U. -/
def poolMisuse : Nat := 0x0607
/-- InjectReadError (R525), class U. -/
def injectReadError : Nat := 0x0701
/-- Bar2Poisoned (R525), class U. -/
def bar2Poisoned : Nat := 0x0702
/-- SweepTargetError (R525), class U. -/
def sweepTargetError : Nat := 0x0703
/-- PairPathSilent (R525), class P. -/
def pairPathSilent : Nat := 0x0801
/-- MateLost (R525), class P. -/
def mateLost : Nat := 0x0802
/-- RoleConflict (R525), class P. -/
def roleConflict : Nat := 0x0803
/-- Takeover (R525), class P. -/
def takeover : Nat := 0x0804
/-- MirrorDegraded (R525), class P. -/
def mirrorDegraded : Nat := 0x0805
/-- TakeoverStale (R525), class P. -/
def takeoverStale : Nat := 0x0806
/-- CascadeFault (R525), class P. -/
def cascadeFault : Nat := 0x0807
/-- NoFirmwareLoadable (R525), class U. -/
def noFirmwareLoadable : Nat := 0x0901
/-- ManagementWatchdog (R525), class T. -/
def managementWatchdog : Nat := 0x0902
/-- TickCoreWatchdog (R525), class T. -/
def tickCoreWatchdog : Nat := 0x0903
/-- HostWatchdog (R525), class T. -/
def hostWatchdog : Nat := 0x0904
/-- CoreSramUncorrected (R525), class X. -/
def coreSramUncorrected : Nat := 0x0A01
/-- TickMemoryUncorrected (R525), class X. -/
def tickMemoryUncorrected : Nat := 0x0A02
/-- ControlStateUncorrected (R525), class X. -/
def controlStateUncorrected : Nat := 0x0A03
/-- InternalBusTimeout (R525), class X. -/
def internalBusTimeout : Nat := 0x0A04
end Src

/-- The sources of R525: number, class code of R438, and the reset value of its FaultReactions row bits [63:56] (R526). -/
def faultSources : List (Nat × Nat × Nat) := [
  (Src.domainLockLost, 5, 0xC0),
  (Src.domainHoldover, 5, 0xC0),
  (Src.servoClamp, 4, 0x00),
  (Src.outputReacquire, 5, 0xC0),
  (Src.pllRefLoss, 5, 0xC0),
  (Src.portCalFailed, 5, 0xC0),
  (Src.pdelayLost, 5, 0x80),
  (Src.ppsMissing, 5, 0xC0),
  (Src.tableParity, 0, 0x00),
  (Src.tableNoShadow, 1, 0xC0),
  (Src.bufferEccCorrected, 0, 0x00),
  (Src.bufferEccUncorrected, 1, 0xC0),
  (Src.bufferSparesExhausted, 1, 0xC0),
  (Src.spillLost, 1, 0xC0),
  (Src.dictionaryDataError, 1, 0xC0),
  (Src.keySlotUndecryptable, 1, 0xC0),
  (Src.tickOverrun, 3, 0xC0),
  (Src.commitLate, 3, 0xC0),
  (Src.paddockTimeout, 3, 0x80),
  (Src.loopOverrun, 3, 0xC0),
  (Src.sweepSkipped, 3, 0x80),
  (Src.setpointHalter, 4, 0x00),
  (Src.yardSuppressed, 4, 0x40),
  (Src.thermalThrottle, 4, 0x40),
  (Src.thermalTrip, 4, 0x70),
  (Src.processPortCrc, 1, 0xC0),
  (Src.tickCoreMismatch, 1, 0xC0),
  (Src.hbmCorrected, 0, 0x00),
  (Src.hbmUncorrected, 1, 0xC0),
  (Src.hbmTrainingFailed, 1, 0xC0),
  (Src.hbmNarrowEye, 0, 0x00),
  (Src.hbmEyeLost, 1, 0xE0),
  (Src.hbmRepairsExhausted, 1, 0xC0),
  (Src.poolMisuse, 1, 0xC0),
  (Src.injectReadError, 1, 0xC0),
  (Src.bar2Poisoned, 1, 0x80),
  (Src.sweepTargetError, 1, 0xC0),
  (Src.pairPathSilent, 6, 0xC0),
  (Src.mateLost, 6, 0xE0),
  (Src.roleConflict, 6, 0xE0),
  (Src.takeover, 6, 0xC0),
  (Src.mirrorDegraded, 6, 0xC0),
  (Src.takeoverStale, 6, 0xC0),
  (Src.cascadeFault, 6, 0xC0),
  (Src.noFirmwareLoadable, 1, 0xE0),
  (Src.managementWatchdog, 3, 0xE0),
  (Src.tickCoreWatchdog, 3, 0xC2),
  (Src.hostWatchdog, 3, 0xC0),
  (Src.coreSramUncorrected, 2, 0xE1),
  (Src.tickMemoryUncorrected, 2, 0xE2),
  (Src.controlStateUncorrected, 2, 0xF0),
  (Src.internalBusTimeout, 2, 0xE0)]

/-- The class code of a source (R438, R525). -/
def classOf (src : Nat) : Option Nat := (faultSources.find? fun e => e.1 == src).map fun e => e.2.1

/-! ### Entries -/

/-- Whether an entry-table line covers index:sub. -/
def EntrySpec.covers (e : EntrySpec) (idx sub : Nat) : Bool :=
  decide (e.idx ≤ idx) && (idx - e.idx) % e.step == 0 && decide ((idx - e.idx) / e.step < e.n) &&
  decide (e.subLo ≤ sub) && decide (sub ≤ e.subHi)

/-- The lines of the entry tables that may cover an index: those of its area. -/
def specsNear (idx : Nat) : List EntrySpec :=
  if idx < 0x5000 then
    if idx < 0x3000 then
      if idx < 0x1000 then entries01a ++ entries02a ++ entries02b ++ entries03a
      else if idx < 0x2000 then entries10a ++ entries10b ++ entries16a
      else if idx < 0x2100 then entries20a ++ entries20b else entries21a
    else if idx < 0x3700 then
      if idx < 0x3400 then entries30a ++ entries31a ++ entries32a else entries34a ++ entries35a ++ entries36a
    else if idx < 0x4000 then entries37a ++ entries38a
    else if idx < 0x4400 then entries40a ++ entries40b else entries44a ++ entries45a ++ entries46a ++ entries47a
  else if idx < 0x7000 then
    if idx < 0x6000 then
      if idx < 0x5800 then entries50a ++ entries51a ++ entries52a ++ entries53a else entries58a
    else if idx < 0x6100 then entries60a ++ entries60b
    else if idx < 0x6800 then entries61a ++ entries62a else entries68a
  else if idx < 0x8000 then
    if idx < 0x7800 then entries70a else entries78a
  else if idx < 0x8800 then entries80a ++ entries82a ++ entries83a ++ entries84a
  else if idx < 0x9000 then entries88a else entries90a

/-- The attributes of index:sub, where it is a published scalar, STR, DOMAIN or TABLE entry (R31). -/
def specOf (idx sub : Nat) : Option EntrySpec := (specsNear idx).find? fun e => e.covers idx sub

/-- The attributes of the TABLE at an index (R33). -/
def tableOf (idx : Nat) : Option TableSpec := tableSpecs.find? fun t => decide (t.idx ≤ idx) && decide (idx < t.idx + t.n)

/-- Whether the entry with key k is a notification object (R60). -/
def notifies (k : Nat) : Bool := ((specOf (k / 256) (k % 256)).map (·.notify)).getD false

/-- The width in bits of the entry with key k. -/
def widthOf (k : Nat) : Nat := ((specOf (k / 256) (k % 256)).map (·.ty.bytes * 8)).getD 64

/-- Whether a counter saturates at its width: a U32 with access RC does, a U64 and a U32 with access RO wrap (R505). -/
def saturates (k : Nat) : Bool := ((specOf (k / 256) (k % 256)).map fun e => e.acc == .rc && e.ty != .u64).getD false

/-- The default of the entry with key k (R31); PortMode and AnAdvertise differ between trunk and field ports (R117, R137). -/
def defaultOf (k : Nat) : Nat :=
  match specOf (k / 256) (k % 256) with
  | none => 0
  | some e =>
    let i := if e.n > 1 then (k / 256 - e.idx) / e.step else k % 256 - e.subLo
    if e.idx = 0x1000 && e.subLo = 2 then (if i < 64 then 3 else 12)
    else if e.idx = 0x1000 && e.subLo = 6 then (if i < 64 then 0x0E else 0x1F00)
    else if k = E.SiliconStep then Config.siliconStep.toNat
    else if k = E.UniqueId then Config.uniqueId.toNat
    else if k = E.AvsFusedMv then Config.avsFusedMv.toNat
    else if k = E.RollbackLevel then Config.rollbackLevel
    else if k / 256 = 0x7021 then Config.keySlotStatus i
    else if k = E.FlashBytes then 0
    else if k / 256 = 0x7861 || k / 256 = 0x7862 then [1048576, 262144, 65536, 8192].getD i 0
    else e.dflt + i * e.dstep

/-- The string "JT7208" (R69). -/
def deviceName : Bytes := [0x4A, 0x54, 0x37, 0x32, 0x30, 0x38]

/-- The default of a STR or DOMAIN (R69 to R71): the identity strings; keys and the other DOMAINs of fixed content are zero. -/
def defaultDom (k : Nat) : Bytes :=
  if k = E.VendorName then [0x4E, 0x75, 0x6C, 0x64, 0x61, 0x72, 0x61, 0x64, 0x20, 0x4D, 0x69, 0x63, 0x72, 0x6F, 0x73, 0x79, 0x73, 0x74, 0x65, 0x6D, 0x73]
  else if k = E.DeviceName then deviceName
  else if k = E.OrderingCode then deviceName ++ [0x2D, 0x46, 0x42, 0x37, 0x32]
  else if k / 256 = E.KeySlotPublic 0 / 256 then Config.keySlotPublic (k % 256 - 1)
  else if k / 256 = E.SessionKey 0 / 256 then List.replicate 32 0
  else if k = E.L2QueryKey then List.replicate 8 0
  else if k = E.EmQueryKey then List.replicate 20 0
  else if k = E.DeepQueryKey then List.replicate 21 0
  else if k = E.TakeoverPlan then List.replicate 24 0
  else if k = E.MateServo then List.replicate 48 0
  else if k = E.FaultCapture then List.replicate 32 0
  else if k / 256 = E.PpSamples 0 / 256 then List.replicate 260 0
  else []

/-- The master IDs of R14. -/
def listedMasters : List Nat :=
  [0x00, 0x01, 0x02, 0x03, 0x04, 0x08, 0x09, 0x0A, 0x0B, 0x0C, 0x0D, 0x0E, 0x0F, 0x10, 0x20, 0x21, 0x22, 0x30, 0x31, 0x38,
   0x39, 0x3A, 0x3F]

/-- Whether row r of QueueConfig is in use (R252). -/
def rowInUse (r : Nat) : Bool :=
  decide (r < 1536) || (decide (r / 16 = 96 ∨ r / 16 = 97 ∨ r / 16 = 99) && decide (r % 16 < 8)) || r == 1600

/-- The reset row i of TABLE t: the reset column of its layout, or the rows of R216, R258, R282, R316, R480, R504, R525. -/
def defaultRow (t i : Nat) : Nat :=
  if t = T.FaultReactions then ((faultSources.find? fun e => e.1 == i).map fun e => e.2.2 * 2 ^ 56).getD 0
  else if t = T.Vlans then (if i = 1 then 3 * 2 ^ 126 + 2 ^ 114 + (2 ^ 96 - 1) else 0)
  else if t = T.AdmissionProfiles then
    if i = 1 then 64 * 2 ^ 48 + 393216 * 2 ^ 29 + 9 * 2 ^ 25 + 16 * 2 ^ 20 + 8 * 2 ^ 15
    else if i = 2 then 128 * 2 ^ 48 + 393216 * 2 ^ 29 + 9 * 2 ^ 25 + 16 * 2 ^ 20 + 16 * 2 ^ 15
    else 16 * 2 ^ 48 + 393216 * 2 ^ 29 + 8 * 2 ^ 25 + 12 * 2 ^ 20 + 8 * 2 ^ 15
  else if t = T.QueueConfig then
    let q := i % 16
    if !rowInUse i then 0 else
    (if i < 1536 then (if q < 8 then 0 else if q < 12 then 1 else 2) else 0) * 2 ^ 59 + 1024 * 2 ^ 40 + 64 * 2 ^ 24
  else if t = T.QueueSched then i % 8 * 2 ^ 61 + 1 * 2 ^ 48 + 10 * 2 ^ 28
  else if t = T.PoolQuotas then
    if listedMasters.contains i then 8192 * 2 ^ 96 + 65536 * 2 ^ 64 + 262144 * 2 ^ 32 + 1048576 else 0
  else if t = T.HbmRegions then
    ([(0, 0), (1, 0x04000000), (1, 0x20000000), (1, 0x40000000), (2, 0xC0000000), (0, 0x200000000)][i]?.map fun e =>
      i * 2 ^ 125 + e.1 * 2 ^ 123 + e.2).getD 0
  else if t = T.SetpointWordState then 3 * 2 ^ 56 + 3 * 2 ^ 54
  else if t = T.HbmRepairs then Config.hardRepairsUsed i % 65536 * 2 ^ 48 + Config.hardRepairsLeft i % 65536 * 2 ^ 32
  else ((tableOf t).map (·.dflt)).getD 0

end Sys2Proof.Machine
end

