-- ==== Sys2Proof/Machine/State.lean ====
section
/-!
DEFINITION. The state of the block as plain data. The object dictionary (`Dict`) holds every entry, TABLE row and DOMAIN
under the spec's own names (Keys.lean); the other structures hold the internal state the chapters give beside it.
A field's default is its value at reset; INVENTORY.md names the rule of each.
-/
namespace Sys2Proof.Machine

/-- Why a step could stop. No command of this block stops: what the spec calls a fault is an effect on State (R524 to R532). -/
inductive Fault where
  /-- Raised by nothing: kept so that the type says what it would mean. Safe. -/
  | none
  deriving DecidableEq, Repr

/-- Why a step could be refused. -/
inductive Refusal where
  /-- A command that has no meaning in the model yet; raised by its arm of `exec` alone. Safe. -/
  | notModelled (mnemonic : String)
  deriving DecidableEq, Repr

/-- The object dictionary's storage (R31): scalar entries by key (index * 256 + sub-index), TABLE rows by index * 2^20 + row,
STR and DOMAIN values by key. What is absent holds its default. -/
structure Dict where
  scal : FMap Nat   := []
  rows : FMap Nat   := []
  doms : FMap Bytes := []
  deriving DecidableEq, Repr

/-- What R551 powers up in steps: a core power domain (0 management and tick cores, 1 and 2 the buffer's halves, 3 + k PLk), a group of eight
field or trunk lanes, an HBM stack's initialisation. -/
inductive PowerPart where
  | core (domain : Nat)
  | fieldLanes (group : Nat)
  | trunkLanes (group : Nat)
  | hbm (stack : Nat)
  deriving DecidableEq, Repr

/-- What leaves the device, newest first in `Dev.out`. `x` is the capture instant (R75). -/
inductive Output where
  /-- The answer to a dictionary operation record (R43): status, type code and data. -/
  | response (x : Nat) (r : Requester) (opcode status idx sub ty : Nat) (data : Bytes)
  /-- A frame on an external port or to an internal consumer, from DMAC to the last byte before the FCS; `good` is false where it is
  ended with an inverted CRC (R276). -/
  | frame (x port : Nat) (bytes : Bytes) (good : Bool)
  /-- A verify or respond frame of the MAC merge sublayer on an external port (R135). -/
  | merge (x port : Nat) (respond : Bool)
  /-- A CAN FD data field of agent a on its response identifier (R64). -/
  | can (x agent id : Nat) (segment : Bytes)
  /-- A ball of the device takes a level (R566); `name` is the ball's. -/
  | pin (x : Nat) (name : String) (level : Bool)
  /-- A yard ball: 0 low, 1 high, 2 high impedance (R342, R353). -/
  | yard (x line level : Nat)
  /-- A process-port transfer starts (R356): the SCLK period in ns and the bits that DO[0] and DO[1] carry, one a period. -/
  | process (x pp sclk : Nat) (do0 do1 : List Bool)
  /-- A process port's balls outside a transfer (R358): SCLK, SFRM, DO[0] and DO[1], 0 low, 1 high, 2 high impedance. -/
  | processIdle (x pp : Nat) (balls : List Nat)
  /-- A part of the device powers up (R551). -/
  | rise (x : Nat) (part : PowerPart)
  /-- Bytes written to host memory: a ring's entry or buffer (R447 to R453) or a sweep record (R512). -/
  | host (x addr : Nat) (bytes : Bytes)
  /-- Bytes written into the buffer that the host named in an entry of a punt ring (R448). -/
  | buffer (x ring entry : Nat) (bytes : Bytes)
  /-- An MSI-X message (R454). -/
  | msix (x vector addr data : Nat)
  /-- An interrupt to the management or tick cores. -/
  | interrupt (x master : Nat) (cause : String)
  /-- A frame to the firmware receive path, with its metadata (R450). -/
  | firmware (x : Nat) (metadata frame : Bytes)
  /-- The PDU of a tether frame on a tether port (R397). -/
  | tether (x port : Nat) (pdu : Bytes)
  /-- A cascade frame (R414). -/
  | cascade (x : Nat) (frame : CascFrame)
  /-- A write of the boot flash: `what` names the area of R546. -/
  | flash (x : Nat) (what : String) (bytes : Bytes)
  /-- An AVSBus request for VDD_CORE in millivolts (R560). -/
  | avs (x mv : Nat)
  /-- A value returned to the sender of a host-block read, a BAR2 read or a mailbox read (R432, R440, R455). -/
  | value (x master v : Nat)
  /-- Bytes returned by a BAR2 read (R455). -/
  | bytes (x : Nat) (data : Bytes)
  /-- A BAR2 read that met an uncorrected error: a poisoned completion (R455). -/
  | poisoned (x : Nat)
  deriving DecidableEq, Repr

/-! ### Time (chapter 03) -/

/-- A transform of R76: offset in units of 2^-16 ns and rate word in units of 2^-48. -/
structure Xform where
  o : Int := 0
  w : Int := 0
  deriving DecidableEq, Repr

/-- Servo writes waiting for the next boundary (R80, R85). -/
structure ServoPend where
  setTime   : Option Int := none
  rate      : Option Int := none
  phase     : Int  := 0
  written   : Bool := false
  reacquire : Bool := false
  deriving DecidableEq, Repr

/-- One time domain: transform, pending writes, boundaries since the last servo write (R83), and the ports whose PdelayIntervalTicks its preset has
set (R105). -/
structure DomainSt where
  xf    : Xform     := {}
  pend  : ServoPend := {}
  quiet : Nat       := 0
  pdelayOf : List Nat := []
  deriving DecidableEq, Repr

/-- A pending two-step Sync of a transparent clock at an egress port (R101). -/
structure TwoStep where
  egress    : Nat
  domain    : Nat
  clockId   : Nat
  portNum   : Nat
  seq       : Nat
  residence : Int
  tick      : Nat
  deriving DecidableEq, Repr

/-- A Sync waiting at its ingress port for its Follow_Up (R102, R104). -/
structure SyncWait where
  port    : Nat
  domain  : Nat
  clockId : Nat
  portNum : Nat
  seq     : Nat
  x       : Nat
  corr    : Int
  deriving DecidableEq, Repr

/-- A Sync that the device passes on to a master port in two steps (R102): the egress port and domain, the identity it came with, the
sequenceId it leaves with, its ingress capture and correction, the egress capture and the Follow_Up once they are known. -/
structure Relay where
  egress  : Nat
  domain  : Nat
  clockId : Nat
  portNum : Nat
  seq     : Nat
  mySeq   : Nat
  x       : Nat
  corr    : Int
  out     : Option Nat := none
  fu      : Option Bytes := none
  deriving DecidableEq, Repr

/-- A peer-delay exchange in progress at a port (R103): the sequenceId sent, the egress capture t1, and t2 and t4 in units of 2^-16 ns once a
two-step response has come. -/
structure PdReq where
  seq  : Nat
  t1   : Option Nat := none
  resp : Option (Int × Int) := none
  deriving DecidableEq, Repr

/-- A finished peer-delay exchange: t3, t4 and the link delay it gave, in units of 2^-16 ns (R103). -/
structure PdDone where
  t3 : Int
  t4 : Int
  ld : Int
  deriving DecidableEq, Repr

/-- The time messages of one port: sequence numbers used, the peer-delay history, and by domain the Delay_Req that waits for its response with its
egress capture; `next…` are counts of boundaries at which the next message is due (R100 to R104). -/
structure PtpPort where
  pdSeq     : Nat := 0
  pdReq     : Option PdReq := none
  pdDone    : List PdDone := []
  pdLost    : Nat := 0
  dreqSeq   : Nat := 0
  dreq      : FMap (Nat × Option Nat) := []
  syncSeq   : Nat := 0
  nextSync  : FMap Nat := []
  nextDreq  : FMap Nat := []
  nextPdreq : Nat := 0
  deriving DecidableEq, Repr

/-- What the device does to a time message of its own as it leaves (R100 to R103): Sync of a domain; a relayed one-step Sync with ingress capture,
correction and cumulativeScaledRateOffset; a relayed two-step Sync with its sequenceId; Delay_Req of a domain; Pdelay_Req; Pdelay_Resp with the
capture and the correctionField of its request. -/
inductive PtpOut where
  | sync (domain : Nat)
  | relay (domain x : Nat) (corr csro : Int)
  | relayTwo (domain seq : Nat)
  | delayReq (domain : Nat)
  | pdelayReq
  | pdelayResp (x : Nat) (corr : Int)
  deriving DecidableEq, Repr

/-- One PPS input (R109): last edge, consecutive edges, and whether an edge was already missed. -/
structure PpsIn where
  last   : Option Nat := none
  run    : Nat := 0
  first  : Nat := 0
  missed : Bool := false
  deriving DecidableEq, Repr

/-- One PPS output (R108): its level, the second of its last edge, and when its pulse ends. -/
structure PpsOut where
  level   : Bool := false
  lastSec : Option Int := none
  endX    : Nat := 0
  deriving DecidableEq, Repr

/-- The time unit. `nextB` is the output time in ns of the next boundary; `boundX`, `boundT` the capture and output time of the
last one; `acq` counts the boundaries to the end of the ACQ_STEP span (R88); `tickRun` is false before the first boundary (R93); `prevTick`
is the number of the tick before the one in progress; `generals` counts messages discarded for want of firmware (R100). -/
structure TimeSt where
  a        : DomainSt := {}
  b        : DomainSt := {}
  out      : Xform := {}
  acquire  : Bool := true
  outDom   : Option Nat := none
  outReacq : Bool := false
  tickRun  : Bool := false
  tick     : Nat := 0
  nextB    : Nat := 0
  boundX   : Nat := 0
  boundT   : Nat := 0
  acq      : Nat := 0
  stableX  : Nat := 0
  twoStep  : List TwoStep := []
  syncs    : List SyncWait := []
  ptp      : FMap PtpPort := []
  relays   : List Relay := []
  generals : Nat := 0
  ppsInA   : PpsIn := {}
  ppsInB   : PpsIn := {}
  ppsOutA  : PpsOut := {}
  ppsOutB  : PpsOut := {}
  refRun   : Nat := 0
  prevTick : Nat := 0
  /-- The output time since its boundary at which the gates of a tick extended by an acquire step stay (R295). -/
  gateT    : Option Int := none
  deriving DecidableEq, Repr

/-! ### Access paths (chapter 02) -/

/-- An event of a notification object (R61). -/
structure Event where
  key  : Nat
  seq  : Nat
  time : Nat
  x    : Nat
  acq  : Bool
  lost : Bool
  v    : Nat
  data : Bytes
  deriving DecidableEq, Repr

/-- A subscription: subscriber, index, sub-index (0xFF every one), records lost, and the CAN tag of its SUBSCRIBE (R60, R66). -/
structure Sub where
  who  : Requester
  idx  : Nat
  sub  : Nat
  lost : Nat := 0
  tag  : Nat := 0
  deriving DecidableEq, Repr

/-- A subscriber's queue of at most 32 records, and the sources of which it lost events (R62). -/
structure SubQueue where
  who   : Requester
  queue : List Event := []
  lost  : List Nat := []
  deriving DecidableEq, Repr

/-- An open Prosta session (R53 to R55): `window` bit k set: counter `high` - k was accepted. -/
structure Session where
  id     : Nat
  slot   : Nat
  key    : Bytes
  high   : Nat := 0
  window : Nat := 0
  devSeq : Nat := 1
  last   : Nat
  port   : Nat := 0
  node   : Nat := 0
  mac    : Nat := 0
  vlan   : Option Nat := none
  enc    : Bool := false
  deriving DecidableEq, Repr

/-- An open bulk write (R47). -/
structure Bulk where
  who   : Requester
  key   : Nat
  total : Nat
  got   : Bytes
  last  : Nat
  deriving DecidableEq, Repr

/-- A CAN FD agent (R64 to R66): the inbound transfer, and the response waiting to be sent with its tag. -/
structure CanAgent where
  active : Bool := false
  tag    : Nat := 0
  len    : Nat := 0
  count  : Nat := 0
  buf    : Bytes := []
  last   : Nat := 0
  resp   : Option (Nat × Bytes) := none
  deriving DecidableEq, Repr

/-- The dictionary window (R67, R68, R439): the buffer (absent bytes are zero), the request in progress and its response. -/
structure Window where
  buf     : Bytes := []
  busy    : Bool := false
  done    : Bool := false
  overrun : Bool := false
  len     : Nat := 0
  atomic  : Bool := false
  master  : Nat := 0x10
  status  : Nat := 0
  resp    : Bytes := []
  ready   : Bool := false
  discard : Bool := false
  deriving DecidableEq, Repr

/-- A Prosta request as its response needs it (R49, R51): arrival port, requester's MAC, the four bytes of its VLAN tag, SRC_NODE,
REQ_ID, ENC, SESSION_ID; `me` an assumed node's ID (R411), 0 the device's own; `auth` the key, GCM nonce and SEQ where the response does not use
the open session. -/
structure ProstaReq where
  port  : Nat
  mac   : Nat
  vlan  : Option Nat
  src   : Nat
  reqId : Nat
  enc   : Bool
  sid   : Nat
  me    : Nat := 0
  auth  : Option (Bytes × Bytes × Nat) := none
  deriving DecidableEq, Repr

/-- The path a request came by, and so the way of its response. -/
inductive Path where
  /-- An operation record presented by itself; its response is emitted. -/
  | direct
  /-- A Prosta frame (R51). -/
  | prosta (q : ProstaReq)
  /-- A CAN FD transfer of an agent with its tag (R65). -/
  | can (agent tag : Nat)
  /-- The dictionary window (R67). -/
  | window
  /-- A cascade DICT frame (R417). -/
  | cascade
  /-- A tether DICT record: nothing is returned (R404). -/
  | none
  deriving DecidableEq, Repr

/-- A response record (R43); `waiting` until the operation it answers is complete, `part` the offset and length of a BULK_READ that waits. -/
structure Resp where
  opcode  : Nat
  idx     : Nat
  sub     : Nat
  status  : Nat := 0
  ty      : Nat := 0
  data    : Bytes := []
  waiting : Bool := false
  part    : Option (Nat × Nat) := none
  deriving DecidableEq, Repr

/-- The response records of one request, held until none waits (R46). -/
structure Reply where
  tag  : Nat
  path : Path
  who  : Requester
  recs : List Resp
  deriving DecidableEq, Repr

/-- The access paths. `bulkLost` holds the TIMEOUT reports of R47 not yet given; `nextSid` counts the sessions opened. -/
structure Access where
  subs     : List Sub := []
  queues   : List SubQueue := []
  sessions : List Session := []
  nextSid  : Nat := 0
  bulks    : List Bulk := []
  bulkLost : List (Requester × Nat) := []
  canA     : CanAgent := {}
  canB     : CanAgent := {}
  window   : Window := {}
  nonces   : Nat := 0
  replies  : List Reply := []
  nextTag  : Nat := 0
  deriving DecidableEq, Repr

/-! ### Faults (chapter 18) -/

/-- A fault that a mechanism has reported and the collector has not yet taken (R524). -/
structure Reported where
  rep  : FaultReport
  x    : Nat
  time : Nat
  acq  : Bool
  deriving DecidableEq, Repr

/-- The first-error capture (R438, R529). -/
structure Capture where
  valid  : Bool := false
  more   : Bool := false
  cls    : Nat := 0
  access : Nat := 0
  master : Nat := 0
  source : Nat := 0
  addr   : Nat := 0
  time   : Nat := 0
  seq    : Nat := 0
  deriving DecidableEq, Repr

/-- The fault collector. `logged` counts the rows of a source in the tick of `logTick`; `lost` lists sources with unlogged faults;
`resets` lists (source, X) of RESET reactions carried out (R528). -/
structure Faults where
  reported : List Reported := []
  cap      : Capture := {}
  logTick  : Nat := 0
  logged   : FMap Nat := []
  lost     : List Nat := []
  resets   : List (Nat × Nat) := []
  nLow     : Bool := false
  nEnd     : Nat := 0
  nWait    : Bool := false
  irq      : Bool := false
  deriving DecidableEq, Repr

/-- The watchdogs (R533 to R535): armed, and the last kick as an X or a count of boundaries. -/
structure Watchdogs where
  mgmtArmed  : Bool := false
  mgmtKick   : Nat := 0
  expired    : Option Nat := none
  restarts   : List Nat := []
  tickArmed  : List Nat := []
  tickCount  : FMap Nat := []
  hostArmed  : Bool := false
  hostCount  : Nat := 0
  deriving DecidableEq, Repr

/-! ### Power (chapter 19) -/

/-- What is powered: nothing valid yet, starting from T0, forwarding, or stabled (R542, R543, R555). -/
inductive Phase where
  | off | starting | running | stabled
  deriving DecidableEq, Repr

/-- Power and start-up. `stabling` is the X at which stabled-mode entry began; `cool` that at which every sensor was first cool after a
thermal entry (R554); `loaded` that the dictionary image is applied; `redirect` holds from shed entry to the first boundary after the restore (R553);
`wakeN` while AON_WAKE_N is driven, `waking` from a wake to forwarding, and `stableNext` where a request then waits (R557). -/
structure Power where
  phase     : Phase := .starting
  forwarding : Bool := false
  straps    : Straps := ⟨0, false, false⟩
  t0        : Nat := 0
  stabling  : Option Nat := none
  cool      : Option Nat := none
  storing   : Bool := false
  loaded    : Bool := false
  newest    : Nat := 0xFF
  newestSeq : Nat := 0
  cmpRun    : FMap Nat := []
  flfEnergy : FMap Nat := []
  reqPin    : Bool := true
  wakeN     : Bool := false
  waking    : Bool := false
  stableNext : Bool := false
  awaiting  : Bool := false
  avsFailed : Option Nat := none
  redirect  : Bool := false
  tj        : Int := 0
  deriving DecidableEq, Repr

/-! ### Ports (chapter 04) -/

/-- One external port beside its entries: the mode and FEC resolved for the coming UP, when HOLDING began, preemption verification
attempts, a received remote fault, the measured latencies in ps, and its pending copies of the preempted frame. -/
structure PortSt where
  mode    : Nat := 0
  fec     : Nat := 0
  holdX   : Nat := 0
  verify  : Nat := 0
  remote  : Bool := false
  rxPs    : Nat := 0
  txPs    : Nat := 0
  deriving DecidableEq, Repr

/-! ### Frames, queues and the pipelines (chapters 05 to 09, 12) -/

/-- An edit of R230 that took effect; the port's own MAC and LAN, the LSDU sizes and the padding are filled in at each egress (R232). -/
inductive Edit where
  /-- VLAN_PUSH with TPID and TCI. -/
  | vlanPush (tpid tci : Nat)
  /-- VLAN_POP of n tags. -/
  | vlanPop (n : Nat)
  /-- VLAN_SET: the TCI bits of mask take v. -/
  | vlanSet (mask v : Nat)
  /-- MAC_SET: DMAC, SMAC, or the egress port's own address as SMAC. -/
  | mac (dm sm : Option Nat) (own : Bool)
  /-- TTL_DEC. -/
  | ttl
  /-- DSCP_SET. -/
  | dscp (v : Nat)
  /-- RTAG_PUSH with its sequence number. -/
  | rtagPush (seq : Nat)
  /-- RTAG_POP. -/
  | rtagPop
  /-- HSR_PUSH with PATH_ID and its sequence number. -/
  | hsrPush (path seq : Nat)
  /-- HSR_POP. -/
  | hsrPop
  /-- PRP_ADD with LAN (2: of the egress port) and its sequence number. -/
  | prpAdd (lan seq : Nat)
  /-- PRP_STRIP. -/
  | prpStrip
  /-- Truncation of a mirror copy (R271). -/
  | trunc (n : Nat)
  deriving DecidableEq, Repr

/-- The result of a frame's classification (R162). -/
structure Verdict where
  tc      : Nat := 0
  colour  : Nat := 0
  queue   : Nat := 0
  binding : Option Nat := none
  tag     : Nat := 0
  spread  : Nat := 0
  deriving DecidableEq, Repr

/-- The context of an action program (R223). `dest` none is FLOOD, else a destination of R178; `nh` is a NextHops row number and row; `l2row`
and `emRow` are the rows that the destination and stream searches hit. -/
structure Ctx where
  tc      : Nat := 0
  colour  : Nat := 0
  queue   : Nat := 0
  dest    : Option Nat := none
  bridged : Option Nat := none
  nh      : Option (Nat × Nat) := none
  l2hit   : Bool := false
  stream  : Option Nat := none
  tag     : Nat := 0
  vid     : Nat := 0
  fid     : Nat := 0
  spread  : Nat := 0
  flags   : Nat := 0
  tickLow : Nat := 0
  udf1    : Nat := 0
  binding : Option Nat := none
  l2row   : Option Nat := none
  emRow   : Option Nat := none
  deriving DecidableEq, Repr

/-- A learn or move request (R181, R182): `old` is the destination found on a source hit. -/
structure LearnReq where
  fid  : Nat
  mac  : Nat
  dest : Nat
  old  : Option Nat
  port : Nat
  tc   : Nat
  deriving DecidableEq, Repr

/-- A setpoint block to accept at the tail (R237, R238): its offset where its ANCHOR exists, and PP_MASK. -/
structure SetBlock where
  off  : Option Nat
  mask : Nat
  deriving DecidableEq, Repr

/-- A servicer's verdict (R385): VERDICT, QUEUE where valid, DEST and BINDING. -/
structure Service where
  verdict : Nat
  queue   : Option Nat := none
  dest    : Nat := 0
  binding : Nat := 0
  deriving DecidableEq, Repr

/-- What a frame brings back from the paddock (R383): the deep results by key (0 L2, 1 stream, 2 route), or a verdict. -/
structure Back where
  hits    : List (Nat × Option Nat) := []
  verdict : Option Service := none
  deriving DecidableEq, Repr

/-- A frame in the device. `tail`: 0 its last byte has not arrived, 1 it proved good, 2 bad. `x`, `time`, `tick`: ingress timestamp referred
to the ball. `oport`, `ox`, `otime`: those of its original ingress, `dhopX` its D_HOP target (R129, R130). `mcLeft` counts copies not yet joined or dropped. -/
structure Frame where
  port    : Nat
  pl      : Nat
  bytes   : Bytes
  x       : Nat
  time    : Nat
  tick    : Nat
  acq     : Bool := false
  frag    : Bool := false
  tail    : Nat := 0
  ctx     : Ctx := {}
  edits   : List Edit := []
  oport   : Nat
  ox      : Nat
  otime   : Nat := 0
  dhopX   : Nat := 0
  pass    : Nat := 0
  ppass   : Nat := 0
  back    : Option Back := none
  learn   : Option LearnReq := none
  limit   : Option LearnReq := none
  blocks  : List SetBlock := []
  prp     : Option Nat := none
  ptp     : Option PtpOut := none
  held    : Bool := true
  fcsBad  : Bool := false
  mc      : Bool := false
  mcLeft  : Nat := 0
  mcJoin  : Nat := 0
  mcDrop  : Nat := 0
  deriving DecidableEq, Repr

/-- What a host or firmware record says of its frame beside the frame (R450): CAUSE, REASON, HANDLE and service queue. -/
structure Punt where
  cause   : Nat := 1
  reason  : Nat := 0
  handle  : Nat := 0
  service : Nat := 0
  edited  : Bool := false
  deriving DecidableEq, Repr

/-- An entry of a queue: a frame or copy with its edits, class, colour, mirror session, punt data, launch target (output time, R297),
D_HOP target (capture at the ball, R129), part of a spilled queue (0 head, 1 tail, 2 HBM), bytes still to send after a preemption,
the capture of its first byte then, and whether that frame cut through. -/
structure QEntry where
  frame  : Nat
  edits  : List Edit := []
  tc     : Nat := 0
  colour : Nat := 0
  mirror : Option Nat := none
  punt   : Punt := {}
  target : Option Int := none
  dhop   : Option Nat := none
  part   : Nat := 0
  held   : Bool := false
  tag    : Option Nat := none
  rest   : Option Nat := none
  counted : Bool := false
  firstX : Option Nat := none
  cut    : Bool := false
  deriving DecidableEq, Repr

/-- A copy or frame on its way to admission: egress port, queue and entry (R266). `own` marks the frame itself, not a copy. -/
structure Copy where
  port  : Nat
  queue : Nat
  entry : QEntry
  own   : Bool := false
  deriving DecidableEq, Repr

/-- A residue entry (R267). -/
structure Residue where
  copy : Copy
  key  : Nat × Nat × Nat
  tick : Nat
  deriving DecidableEq, Repr

/-- A transmission: queue row, entry, capture of the first byte, length as sent with FCS, whether it cuts through, and bytes this fragment
began with. -/
structure Tx where
  row    : Nat
  entry  : QEntry
  x      : Nat
  len    : Nat
  cut    : Bool := false
  deriving DecidableEq, Repr

/-- A frame held at its action stage, or running it (R224): program base and length, ARG, the word to run next, words to skip, edits that
took effect, the launch target and whether the setpoint block consumes the frame. -/
structure Stage where
  frame   : Nat
  base    : Nat
  len     : Nat
  arg     : Nat
  pc      : Nat := 0
  skip    : Nat := 0
  edits   : List Edit := []
  launch  : Option Int := none
  argOk   : Bool := true
  consume : Bool := false
  sampled : Bool := false
  ended   : Bool := false
  dropped : Bool := false
  punted  : Option Copy := none
  paddock : Option (Nat × Nat) := none
  deriving DecidableEq, Repr

/-- A frame taken by a sampler, held until its last byte has arrived (R272, R273). -/
structure SamplePend where
  sampler : Nat
  pl      : Nat
  frame   : Nat
  seq     : Nat
  offered : Nat
  ready   : Bool := false
  fcsBad  : Bool := false
  dest    : Nat := 0
  ctx     : Ctx := {}
  bytes   : Bytes := []
  port    : Nat := 0
  len     : Nat := 0
  time    : Nat := 0
  x       : Nat := 0
  acq     : Bool := false
  deriving DecidableEq, Repr

/-- The state of a recovery function (R203, R204); `last` is the count of boundaries at its last pass, `passed` whether a frame without a
sequence number has passed since its last reset. -/
structure RecSt where
  seq     : Nat := 0
  history : Nat := 0
  takeAny : Bool := true
  last    : Nat := 0
  passed  : Bool := false
  deriving DecidableEq, Repr

/-- A two-bucket shaper or meter: committed and peak bucket in units of 1/64,000,000 byte, brought up to capture `x` (R304). -/
structure Bucket where
  c : Int
  p : Int
  x : Nat
  deriving DecidableEq, Repr

/-- A key of the recent-change record of a pipeline (R184). -/
structure RecentKey where
  fid : Nat
  mac : Nat
  x   : Nat
  deriving DecidableEq, Repr

/-- One write of an exact-match copy (R199): row i takes v, or what row `src` holds there, HIT as it stands. -/
inductive EmStep where
  | put (i v : Nat)
  | copy (src i : Nat)
  deriving DecidableEq, Repr

/-- What a software table write does once its update slots have been used (R165, R189, R199, R211). -/
inductive UpdOp where
  /-- Row i of TABLE t takes v; a table of all pipelines or pairs is written in each. -/
  | row (t i v : Nat)
  /-- Steps of each exact-match copy, in order, one for each slot. -/
  | em (steps : List EmStep)
  /-- L2Insert of a row. -/
  | l2Insert (v : Nat)
  /-- L2Delete of a key. -/
  | l2Delete (fid mac : Nat)
  /-- L2Flush by MODE, with its PORT and FID. -/
  | flush (mode port fid : Nat)
  /-- A row that has been staged: its slots build what the commit will bring into force (R165, R194, R211). -/
  | staged
  deriving DecidableEq, Repr

/-- A table write waiting for update slots (R213): `ticket` names its response record; `left` lists the slots that each pipeline still owes it. -/
structure Update where
  ticket : Option (Nat × Nat)
  op     : UpdOp
  left   : List (Nat × Nat)
  deriving DecidableEq, Repr

/-- A paddock slot (R379): 0 FREE, 1 ACTIVE, 2 DONE. `src` is SOURCE_KIND * 1024 + SOURCE_ID; `hits` the deep results by key
(0 L2, 1 stream, 2 route), each key with its PIPE above its 160 bits; `data` is the request's data or its result; `late` names the kind and generation of
the slot's operation that timed out last (R390). -/
structure Slot where
  state   : Nat := 0
  gen     : Nat := 0
  kind    : Nat := 0
  src     : Nat := 0
  seq     : Nat := 0
  x       : Nat := 0
  pl      : Nat := 0
  frame   : Option Nat := none
  keys    : List (Nat × Nat) := []
  hits    : List (Nat × Option Nat) := []
  alt     : Bool := false
  data    : Nat := 0
  status  : Nat := 0
  timed   : Bool := false
  refused : Bool := false
  reason  : Nat := 0
  service : Nat := 0
  limit   : Nat := 0
  verdict : Option Service := none
  learn   : Option LearnReq := none
  who     : Requester := ⟨0, 0⟩
  ticket  : Option (Nat × Nat) := none
  ord     : Nat := 0
  late    : Option (Nat × Nat) := none
  deriving DecidableEq, Repr

/-- A request operation without a slot (R381). -/
structure WaitOp where
  kind : Nat
  who  : Requester
  data : Nat
  x    : Nat
  ticket : Option (Nat × Nat)
  deriving DecidableEq, Repr

/-- The pipelines, the buffer and the paddock. -/
structure Net where
  nextId   : Nat := 0
  frames   : FMap Frame := []
  queues   : FMap (List QEntry) := []
  tx       : FMap Tx := []
  copies   : FMap (List Copy) := []
  stage    : FMap Stage := []
  residue  : List Residue := []
  releasing : Nat := 0
  vt       : FMap Nat := []
  flast    : FMap Nat := []
  buckets  : FMap Bucket := []
  delay    : FMap Nat := []
  guardN   : FMap Nat := []
  histReset : List Nat := []
  delayReset : Bool := false
  learnQ   : FMap (List LearnReq) := []
  recent   : FMap (List RecentKey) := []
  deepRate : FMap Nat := []
  scrub    : FMap (Nat × Nat) := []
  samples  : List SamplePend := []
  offers   : FMap Nat := []
  offered  : FMap Nat := []
  runs     : FMap Nat := []
  /-- Action sampling buffer of each pipeline: records held, and the core clock of its last record (R519). -/
  sampBuf  : FMap (Nat × Nat) := []
  recirc   : List Nat := []
  recs     : FMap RecSt := []
  /-- Capture of the last ageing visit of a row: pipeline * 2^27 + row, the deep table's from 262,144 on (R187). -/
  aged     : FMap Nat := []
  bounds   : Nat := 0
  bad      : List (Nat × Nat) := []
  repair   : FMap (List (Nat × Nat)) := []
  updates  : List Update := []
  slots    : FMap Slot := []
  waiting  : List WaitOp := []
  reentry  : List Nat := []
  deep     : FMap Nat := []
  deepAlt  : FMap Nat := []
  timedOut : Bool := false
  allocs   : Nat := 0
  deriving DecidableEq, Repr

/-! ### The host block (chapter 14) -/

/-- A DMA ring (R447): punt rings 0 to 7, inject rings 8 to 15, the notification ring 16. -/
structure Ring where
  base    : Nat := 0
  enable  : Bool := false
  log2    : Nat := 6
  units   : Nat := 8
  head    : Nat := 0
  tail    : Nat := 0
  error   : Bool := false
  noBuf   : Bool := false
  irqEn   : Bool := false
  holdoff : Nat := 0
  phase   : Bool := true
  waits   : Bool := false
  deriving DecidableEq, Repr

/-- A word in a mailbox queue with its sender's master ID and epoch (R442). -/
structure MboxWord where
  data   : Nat
  sender : Nat
  epoch  : Nat
  deriving DecidableEq, Repr

/-- What one end of a mailbox channel shows of its outbound and inbound queues (R440). -/
structure MboxEnd where
  emptyEvt  : Bool := false
  dropped   : Bool := false
  overflow  : Bool := false
  drops     : Nat := 0
  arrival   : Bool := false
  arrivalEn : Bool := false
  emptyEn   : Bool := false
  deriving DecidableEq, Repr

/-- A mailbox channel: the queues A to B and B to A and its two ends. -/
structure Mbox where
  ab : List MboxWord := []
  ba : List MboxWord := []
  a  : MboxEnd := {}
  b  : MboxEnd := {}
  deriving DecidableEq, Repr

/-- A semaphore: its holder with the holder's epoch, and BROKEN (R445, R446). -/
structure Sem where
  holder : Option (Nat × Nat) := none
  broken : Bool := false
  deriving DecidableEq, Repr

/-- An MSI-X table entry (log 7: masked at reset). -/
structure Vec where
  addr : Nat := 0
  data : Nat := 0
  mask : Bool := true
  deriving DecidableEq, Repr

/-- The host block. `due` lists vectors whose message is to be sent, `hold` those in their holdoff with the capture of the first event;
`latchHi` the high halves latched by master and register, `half` low halves written; `tokens` the punt bucket in units of 1/8,000,000 bit;
`bar2` the size of BAR2 as a power of two; `dbSet` the doorbells set in core clock `dbClk` (R444), `resetAt` the clock of each master's last reset
(R443). -/
structure HostSt where
  scratch  : Nat := 0
  quiesce  : Bool := false
  rings    : FMap Ring := []
  mbox     : FMap Mbox := []
  dbPend   : Nat := 0
  dbMask   : Nat := 0xFFFFFFFF
  dbSet    : Nat := 0
  dbClk    : Nat := 0
  sems     : FMap Sem := []
  cause    : Nat := 0
  vecs     : FMap Vec := []
  pba      : Nat := 0
  due      : List Nat := []
  hold     : List (Nat × Nat) := []
  time     : Nat := 0
  raw      : Nat := 0
  latchHi  : FMap Nat := []
  half     : FMap Nat := []
  tokens   : Int := 4194304000000
  tokenX   : Nat := 0
  linked   : Bool := false
  d3       : Bool := false
  subsys   : Nat := 0
  bar2     : Nat := 35
  resetAt  : FMap Nat := []
  deriving DecidableEq, Repr

/-! ### Tick-committed changes (chapter 10) -/

/-- Staged values by key: scalar entries and TABLE rows as in `Dict` (R323). -/
structure Staged where
  scal : FMap Nat := []
  rows : FMap Nat := []
  deriving DecidableEq, Repr

/-- A pending batch (R324 to R331): the tick it is bound to, the tick asked for, ASSOC_FLIP, LATE_APPLY, whether it was late, its
requester's master and its arrival time as TIMEX. -/
structure Batch where
  id      : Nat
  tick    : Nat
  asked   : Nat
  flip    : Bool
  lateOk  : Bool
  late    : Bool
  master  : Nat
  arrival : Nat
  st      : Staged
  deriving DecidableEq, Repr

/-- A commit boundary that frames of the old epoch may still look across: its capture and the values that it replaced. -/
structure Epoch where
  x   : Nat
  old : Staged
  deriving DecidableEq, Repr

/-- The commit unit: the open stage, pending batches in rising order of tick, the COMMIT_IDs of the last 64 applied (newest first), staged
rows of each applied batch not yet folded (oldest first), the last commit boundaries (newest first), the output time of the last associative
flip, the LPM units that each applied batch holds in reserve with the capture of its boundary (R194), and the capture at which the request
being served arrived, where that is not now (R329). -/
structure Commit where
  stage    : Staged := {}
  batches  : List Batch := []
  applied  : List Nat := []
  folding  : List Nat := []
  epochs   : List Epoch := []
  flipT    : Option Nat := none
  lpmHeld  : List (Nat × Nat) := []
  arriveX  : Option Nat := none
  deriving DecidableEq, Repr

/-! ### The trigger yard and process ports (chapter 11) -/

/-- A start of an OUTPUT line: its scheduled time in output time (2^-16 ns), its width in ns, and the tick it is scheduled in. -/
structure Pulse where
  start : Int
  width : Nat
  tick  : Nat
  deriving DecidableEq, Repr

/-- A yard line: its queue of one-shots in order of start, the start and end of its last scheduled pulse that passed the tests, starts
passed in a tick, the pulse at the ball with its end, its input level, its last recorded edge, and whether edges were lost since. -/
structure YLine where
  queue   : List Pulse := []
  prev    : Option Int := none
  prevEnd : Int := 0
  tick    : Nat := 0
  count   : Nat := 0
  active  : Bool := false
  endT    : Int := 0
  input   : Bool := false
  lastX   : Option Nat := none
  lost    : Bool := false
  capTime : Nat := 0
  deriving DecidableEq, Repr

/-- A start group (R348): starts waiting, as (line, start), and the last release. -/
structure YGroup where
  queue : List (Nat × Pulse) := []
  last  : Option Int := none
  deriving DecidableEq, Repr

/-- A setpoint word as the halter evaluated it for the next tick (R361): OUT, TGT, MISS, STATE and FORCED. -/
structure NextWord where
  out    : Nat
  tgt    : Nat
  miss   : Nat
  st     : Nat
  forced : Bool
  deriving DecidableEq, Repr

/-- A transfer in progress (R356): the output time in ns that it starts at, SCLK_NS, and the bits of DO[0] and DO[1]. -/
structure Shift where
  startT : Nat
  sclk   : Nat
  do0    : List Bool
  do1    : List Bool
  deriving DecidableEq, Repr

/-- The yard and the process ports. `pend`, `pendDoms` wait for the boundary (R242, R343); `release` is a written YardSafeRelease; `genTick` the
tick each generator last fired for; `slots` the setpoint store by word * 2^64 + tick (R359); `next` the words evaluated for the next tick;
`miss` the MISS counts that exceed 255; `acting` the words in a run of halter action (R364); `busy` the tick of each transfer in progress and `shift` what it drives; `stored` the highest pipeline
that stored a word in core clock `storedClk`, by the key of its slot (R359);
`good` the ports whose last transfer ended with good CRCs, with its tick, `got` the same whatever its CRCs; `loopWords` a pair's staged words by pair * 512 + word; `loopDone`
the words of each completed port; `loopRun` consecutive overruns by pair * 8 + port; `loopStat` OVERRUN bits; `built` the tick each sample
group last built for and `groupN` its frame count. -/
structure Yard where
  lines     : FMap YLine := []
  groups    : FMap YGroup := []
  pend      : Staged := {}
  pendDoms  : FMap Bytes := []
  release   : Bool := false
  genTick   : FMap Nat := []
  slots     : FMap Nat := []
  next      : FMap NextWord := []
  evalTick  : FMap Nat := []
  miss      : FMap Nat := []
  acting    : List Nat := []
  busy      : FMap Nat := []
  shift     : FMap Shift := []
  good      : FMap Nat := []
  got       : FMap Nat := []
  stored    : FMap Nat := []
  storedClk : Nat := 0
  loopWords : FMap Nat := []
  loopDone  : FMap (List (Nat × Nat)) := []
  loopRun   : FMap Nat := []
  loopStat  : FMap Nat := []
  resume    : List Nat := []
  built     : FMap Nat := []
  groupN    : FMap Nat := []
  deriving DecidableEq, Repr

/-! ### Pairs and cascades (chapter 13) -/

/-- A tether PDU received ahead of its predecessor (R399): TSEQ, bytes, arrival. -/
structure HeldPdu where
  tseq : Nat
  pdu  : Bytes
  x    : Nat
  deriving DecidableEq, Repr

/-- The mirrored word state of a process port (R403): the tick its words are driven in, and OUT, TGT, MISS, STATE of each word. -/
structure MirrorWords where
  tick  : Nat
  words : List (Nat × Nat × Nat × Nat)
  deriving DecidableEq, Repr

/-- The pair unit. `sendQ` holds records waiting for a tether port; `high` is the highest TSEQ accepted and `window` bit k the acceptance of
`high` - k; `applied` the last TSEQ applied; `alive` the paths that delivered a heartbeat in the tick in progress; `silent` and `flagged` the
silent ticks of each path and whether they were reported; `claimX` the instant OWN_GNT was last found low while claiming; `viaTakeover` marks
such a claim; `startDone` is set once OwnStartClaim has been looked at; `shadow` and `words` are the mate's mirrored state; `recDirty` lists the recovery
functions that changed, oldest first; `badRole` holds while the mate shows the member's own role. -/
structure PairSt where
  tseq     : Nat := 0
  sendQ    : List Bytes := []
  high     : Option Nat := none
  window   : Nat := 0
  applied  : Option Nat := none
  held     : List HeldPdu := []
  hbOut    : Bool := false
  alive    : List Nat := []
  silent   : FMap Nat := []
  flagged  : List Nat := []
  miss     : Nat := 0
  badRole  : Bool := false
  ownReq   : Bool := false
  ownGnt   : Bool := false
  claimX   : Nat := 0
  yieldX   : Nat := 0
  release  : Bool := false
  viaTakeover : Bool := false
  startDone : Bool := false
  shadow   : FMap RecSt := []
  words    : FMap MirrorWords := []
  recDirty : List Nat := []
  deriving DecidableEq, Repr

/-- An image being received over the cascade (R415): KIND, TARGET, TOTAL, STORE and the bytes so far. -/
structure CascImage where
  kind   : Nat
  target : Nat
  total  : Nat
  store  : Bool
  got    : Bytes
  deriving DecidableEq, Repr

/-- The cascade unit (R413 to R420). `busyX` is the end of the frame being sent, `enumX` the instant of the last ENUM, `stopped` a master that met a
conflict; `waiting` a slave that waits for its image; `image` the image being received and `pendImg` one being applied; `images` the master's
cascade section as (KIND, TARGET, image), `tries` the resends to each position; `test` the payload and end of a TEST in progress, `held` the ports
it holds. -/
structure CascSt where
  seq     : Nat := 0
  busyX   : Nat := 0
  enumX   : Nat := 0
  stopped : Bool := false
  waiting : Bool := false
  image   : Option CascImage := none
  pendImg : Option CascImage := none
  images  : List (Nat × Nat × Bytes) := []
  tries   : FMap Nat := []
  test    : Option (Bytes × Nat) := none
  held    : List Nat := []
  deriving DecidableEq, Repr

/-! ### HBM and the buffer pools (chapter 16) -/

/-- An allocated pool buffer (R496 to R501): its owners as bits by master ID, the last owner, and POISONED. -/
structure PoolBuf where
  owners   : Nat
  last     : Nat
  poisoned : Bool := false
  deriving DecidableEq, Repr

/-- HBM. `mem` holds the bytes of the host region and the pools that something has written, addresses strictly rising; `keep` whether content
is kept at the coming READY, `order` the address order of the stacks that it was written in; `session` the instant of the last command of a
firmware training session; `results` HbmTrainResult by master; `postponed` refreshes by PC * 32 + bank, `asleep` the pseudo-channels in
self-refresh; `errs` corrected errors by (PC * 32 + bank) * 2^14 + row in this patrol pass, `patrolAt` the patrol's last address; `bankUsed` hard repairs made by bank,
`exhausted` banks reported; `bufs` and `gens` the buffers by POOL * 2^20 + INDEX, `poolRes` PoolResult by master; `noSpare` that a cell failed with no spare. -/
structure HbmSt where
  mem       : List Host.Cell := []
  keep      : Bool := false
  order     : Nat × Nat := (2, 2)
  session   : Option Nat := none
  results   : FMap Nat := []
  postponed : FMap Nat := []
  asleep    : List Nat := []
  errs      : FMap Nat := []
  /-- Rows soft-repaired since the stacks were last powered (R493), as (PC * 32 + bank) * 2^14 + row. -/
  soft      : List Nat := []
  patrolAt  : Nat := 0
  bankUsed  : FMap Nat := []
  exhausted : List Nat := []
  bufs      : FMap PoolBuf := []
  gens      : FMap Nat := []
  poolRes   : FMap Nat := []
  noSpare   : Bool := false
  deriving DecidableEq, Repr

/-! ### Firmware banks (chapter 15) -/

/-- What a checked image's header says that later steps need (R468). -/
structure BankHdr where
  keySlot  : Nat
  rollback : Nat
  handoff  : Nat
  version  : Nat
  deriving DecidableEq, Repr

/-- Firmware: the headers of VALID banks, that of the running image, the image loaded for a swap, whether the active bank is on trial, SEQ of the boot state copy
in use, the tick of an armed swap, whether the handoff was asked for and is ready (R473 to R476), and the level before the last rollback commit
with its capture (R472). -/
structure FwSt where
  banks    : FMap BankHdr := []
  running  : Option BankHdr := none
  standby  : Option BankHdr := none
  trial    : Bool := false
  bootSeq  : Nat := 0
  swapTick : Nat := 0
  asked    : Bool := false
  ready    : Bool := false
  blown    : Option (Nat × Nat) := none
  deriving DecidableEq, Repr

/-! ### Sweeps and bandwidth (chapter 17) -/

/-- The boundary snapshot (R19, R508): the dictionary as it stood, the tick, the boundary time as TIMEX, the raw counter and the ACQ_STEP flag. -/
structure Snap where
  dict : Dict
  tick : Nat
  time : Nat
  raw  : Nat
  acq  : Bool
  deriving DecidableEq, Repr

/-- A record being dumped from a snapshot bank (R509, R512): its set, the bank's number and its words. -/
structure Dump where
  set   : Nat
  bank  : Nat
  words : List Nat
  deriving DecidableEq, Repr

/-- Telemetry. `swept`, `bwDone` and `irqDone` are the boundary counts whose sweep, bandwidth window and tick interrupt are done; `skips` the sweeps a
set has skipped since its last record, `skipping` the sets whose last sweep was skipped; `bwBase` the octets and frames (rx octets, tx octets, rx frames, tx frames) of each port and
`bwTime` the output time at the window's start; `bwAcq` an acquire step in the window. -/
structure Tele where
  snap     : Option Snap := none
  dumps    : List Dump := []
  swept    : Nat := 0
  skips    : FMap Nat := []
  skipping : List Nat := []
  bwDone   : Nat := 0
  bwBase   : FMap (Nat × Nat × Nat × Nat) := []
  bwTime   : Option Int := none
  bwAcq    : Bool := false
  irqDone  : Nat := 0
  deriving DecidableEq, Repr

/-! ### The test access port (R585) -/

/-- The sixteen states of the TAP controller of IEEE 1149.1. -/
inductive TapState where
  | testLogicReset | runTestIdle | selectDr | captureDr | shiftDr | exit1Dr | pauseDr | exit2Dr | updateDr
  | selectIr | captureIr | shiftIr | exit1Ir | pauseIr | exit2Ir | updateIr
  deriving DecidableEq, Repr

/-- The TAP: its controller, the instruction, the two shift registers and the update stage of the boundary register. -/
structure Tap where
  fsm   : TapState := .testLogicReset
  ir    : Nat := 0x01
  irSh  : Nat := 0
  drSh  : Nat := 0
  bound : Nat := 0
  tdo   : Bool := true
  deriving DecidableEq, Repr

/-- Everything of the block but the queue of commands. `recent` lists the ring rows written in the last TickPeriod as (X, TABLE, row,
ACQ_STEP bit) for R88 step 5; `seqs` the next SOURCE_SEQ of each source (R16). -/
structure Dev where
  now    : Nat := 0
  frees  : Nat := 0
  dict   : Dict := {}
  seqs   : FMap Nat := []
  recent : List (Nat × Nat × Nat × Nat) := []
  time   : TimeSt := {}
  access : Access := {}
  faults : Faults := {}
  wd     : Watchdogs := {}
  power  : Power := {}
  out    : List Output := []
  ports  : FMap PortSt := []
  net    : Net := {}
  host   : HostSt := {}
  commit : Commit := {}
  yard   : Yard := {}
  pair   : PairSt := {}
  casc   : CascSt := {}
  hbm    : HbmSt := {}
  fw     : FwSt := {}
  tele   : Tele := {}
  tap    : Tap := {}
  deriving DecidableEq, Repr

/-- The machine: the queue of waiting commands, first in first out, and the block. -/
structure State where
  pending : List Instr := []
  dev     : Dev := {}
  deriving DecidableEq, Repr

/-- The block right after T0 with its rails valid and every entry at its default (R41, R542, R543); nothing is queued. -/
def State.reset : State := {}

end Sys2Proof.Machine
end

