-- ==== Sys2Proof/Machine/Ops.lean ====
section
/-!
DEFINITION. The named operations over the state that every family uses: dictionary storage, output time, event records and their
sequence numbers, notifications, fault reports, free values and what is emitted.
-/
namespace Sys2Proof.Machine

/-! ### The dictionary's storage (R31, R38) -/

/-- The raw value of the entry with key k in a dictionary. -/
def Dict.get (c : Dict) (k : Nat) : Nat := (c.scal.get? k).getD (defaultOf k)

/-- A dictionary with entry k at v. -/
def Dict.set (c : Dict) (k v : Nat) : Dict := { c with scal := c.scal.set k v }

/-- Row i of TABLE t in a dictionary. -/
def Dict.row (c : Dict) (t i : Nat) : Nat := (c.rows.get? (t * 2 ^ 20 + i)).getD (defaultRow t i)

/-- A dictionary with row i of TABLE t at v. -/
def Dict.setRow (c : Dict) (t i v : Nat) : Dict := { c with rows := c.rows.set (t * 2 ^ 20 + i) v }

/-- A DOMAIN or STR value in a dictionary. -/
def Dict.dom (c : Dict) (k : Nat) : Bytes := (c.doms.get? k).getD (defaultDom k)

/-- A dictionary with DOMAIN or STR k at b. -/
def Dict.setDom (c : Dict) (k : Nat) (b : Bytes) : Dict := { c with doms := c.doms.set k b }

/-- The raw value of the entry with key k. -/
def Dev.get (d : Dev) (k : Nat) : Nat := d.dict.get k

/-- A BOOL entry (R32). -/
def Dev.getB (d : Dev) (k : Nat) : Bool := d.get k != 0

/-- Store a raw value without a notification event. -/
def Dev.store (k v : Nat) (d : Dev) : Dev := { d with dict := d.dict.set k v }

/-- Row i of TABLE t. -/
def Dev.row (d : Dev) (t i : Nat) : Nat := d.dict.row t i

/-- Store row i of TABLE t. -/
def Dev.setRow (t i v : Nat) (d : Dev) : Dev := { d with dict := d.dict.setRow t i v }

/-- Store a field of row i of TABLE t. -/
def Dev.setRowFld (t i hi lo v : Nat) (d : Dev) : Dev := d.setRow t i (setFld (d.row t i) hi lo v)

/-- Add n to a counter field of row i of TABLE t; U64 and U32 counters wrap at their width (R505). -/
def Dev.addRow (t i hi lo n : Nat) (d : Dev) : Dev := d.setRowFld t i hi lo (fld (d.row t i) hi lo + n)

/-- A DOMAIN or STR value. -/
def Dev.dom (d : Dev) (k : Nat) : Bytes := d.dict.dom k

/-- Store a DOMAIN or STR value. -/
def Dev.setDom (k : Nat) (b : Bytes) (d : Dev) : Dev := { d with dict := d.dict.setDom k b }

/-! ### Output time (R76, R77) -/

/-- l_d(x) of R76. -/
def Xform.at (f : Xform) (x : Nat) : Int := f.o + x * 2 ^ 13 + f.w * x / 2 ^ 35

/-- Raw count of a capture (R75). -/
def rawOf (x : Nat) : Nat := x / 8

/-- TIMEX of a time value (R77); a time below 0 has no TIMEX and reads 0. -/
def toTimex (l : Int) : Nat :=
  let n := l.toNat
  n / 65536000000000 * 2 ^ 48 + n / 65536 % 1000000000 * 2 ^ 16 + n % 65536

/-- The time value of a TIMEX (R32). -/
def fromTimex (t : Nat) : Nat := (t / 2 ^ 48 * 1000000000 + t / 2 ^ 16 % 2 ^ 32) * 65536 + t % 65536

/-- Output time at the instant of the command, in units of 2^-16 ns. -/
def Dev.outTime (d : Dev) : Int := d.time.out.at d.now

/-- Output time now, as TIMEX. -/
def Dev.stamp (d : Dev) : Nat := toTimex d.outTime

/-- Output time now in whole ns. -/
def Dev.outNs (d : Dev) : Nat := (d.outTime / 65536).toNat

/-- Whether a record taken now carries ACQ_STEP (R30, R88 step 5). -/
def Dev.acqNow (d : Dev) : Bool := d.time.acq != 0

/-- The active TickPeriod in ns (R91). -/
def Dev.period (d : Dev) : Nat := d.get E.TickPeriod

/-- The tick in progress; 0 before the first boundary (R93). -/
def Dev.tickNow (d : Dev) : Nat := if d.time.tickRun then d.time.tick else 0

/-- The output time in ns at which tick n begins (R9). -/
def Dev.tickStart (d : Dev) (n : Nat) : Nat := d.get E.TickPhase + n * d.period

/-- The instant ns after now, as a capture. -/
def Dev.after (d : Dev) (ns : Nat) : Nat := d.now + 8 * ns

/-! ### Event records (R16) -/

/-- The next SOURCE_SEQ of a source (log 11: the first event carries 0) and the state that has used it. -/
def Dev.nextSeq (src : Nat) (d : Dev) : Nat × Dev :=
  let n := d.seqs.getD src 0
  (n, { d with seqs := d.seqs.set src ((n + 1) % 65536) })

/-- The source key of an event stream of TABLE t, instance i. -/
def srcKey (t i : Nat) : Nat := t * 2 ^ 16 + i

/-- Append an output. -/
def Dev.emit (o : Output) (d : Dev) : Dev := { d with out := o :: d.out }

/-- Take a free value of w bits (log 3): the value the spec leaves open. -/
def Dev.free (w : Nat) (d : Dev) : Nat × Dev :=
  (Config.freeValue d.frees % 2 ^ w, { d with frees := d.frees + 1 })

/-! ### Notifications (R60 to R62) -/

/-- Whether a subscription covers the entry with key k. -/
def Sub.covers (s : Sub) (k : Nat) : Bool := s.idx == k / 256 && (s.sub == k % 256 || s.sub == 0xFF)

/-- One subscriber's queue takes an event, or loses it where it holds 32 (R62). -/
def SubQueue.push (e : Event) (q : SubQueue) : SubQueue :=
  if q.queue.length < 32 then
    { q with queue := q.queue ++ [{ e with lost := q.lost.contains e.key }], lost := q.lost.filter (· != e.key) }
  else { q with lost := if q.lost.contains e.key then q.lost else e.key :: q.lost }

/-- The event of a change of the notification object k to value v (R61), queued for every subscriber. -/
def Dev.event (k v : Nat) (data : Bytes) (d : Dev) : Dev :=
  let (n, d) := d.nextSeq k
  let e : Event := { key := k, seq := n, time := d.stamp, x := d.now, acq := d.acqNow, lost := false, v, data }
  let hit (w : Requester) : Bool := d.access.subs.any fun s => s.who == w && s.covers k
  let full (w : Requester) : Bool := d.access.queues.any fun q => q.who == w && decide (32 ≤ q.queue.length)
  { d with access := { d.access with
      queues := d.access.queues.map fun q => if hit q.who then q.push e else q
      subs := d.access.subs.map fun s => if s.covers k && full s.who then { s with lost := s.lost + 1 } else s } }

/-- Set an entry; a change of a notification object creates one event (R61). -/
def Dev.put (k v : Nat) (d : Dev) : Dev :=
  let old := d.get k
  let d := d.store k v
  if notifies k && old != v then d.event k v [] else d

/-- Set a BOOL entry. -/
def Dev.putB (k : Nat) (b : Bool) (d : Dev) : Dev := d.put k b.toNat

/-- Set a DOMAIN entry that may be a notification object. -/
def Dev.putDom (k : Nat) (b : Bytes) (d : Dev) : Dev := d.setDom k b

/-- The value of counter k after n more than v: at its width it saturates or wraps (R505). -/
def counted (k v n : Nat) : Nat := if saturates k then min (v + n) (2 ^ widthOf k - 1) else (v + n) % 2 ^ widthOf k

/-- Add n to a counter. -/
def Dev.add (k n : Nat) (d : Dev) : Dev := d.put k (counted k (d.get k) n)

/-- Count one. -/
def Dev.inc (k : Nat) (d : Dev) : Dev := d.add k 1

/-- Write the next row of a ring of cap rows at TABLE t whose rows written are counted at key cnt: `f` makes the row from its
SOURCE_SEQ (source src) and the ACQ_STEP flag; bit `acqBit` is that flag (kept for R88 step 5). -/
def Dev.ringPush (t cap cnt src acqBit : Nat) (f : Nat → Bool → Nat) (d : Dev) : Dev :=
  let (n, d) := d.nextSeq src
  let i := d.get cnt % cap
  let d := d.setRow t i (f n d.acqNow)
  let keep := d.now - 8 * d.period
  let d := { d with recent := (d.now, t, i, acqBit) :: d.recent.filter fun r => decide (keep ≤ r.1) }
  d.inc cnt

/-! ### Fault reports (R524) -/

/-- A mechanism reports a fault of a source with its ADDR, the master whose access met it and the access type (R529). -/
def Dev.reportBy (src addr master access : Nat) (d : Dev) : Dev :=
  { d with faults := { d.faults with reported := d.faults.reported ++
      [{ rep := { source := src, addr, master, access }, x := d.now, time := d.stamp, acq := d.acqNow }] } }

/-- The faults reported since the first n met an access of a master (R529). -/
def Dev.metBy (master access n : Nat) (d : Dev) : Dev :=
  let l := d.faults.reported
  let mark (q : Reported) : Reported := if q.rep.access = 3 then { q with rep := { q.rep with master, access } } else q
  { d with faults := { d.faults with reported := l.take n ++ (l.drop n).map mark } }

/-- A mechanism reports a fault that no access met: MASTER 0x00, ACCESS 3 (R529). -/
def Dev.report (src addr : Nat) (d : Dev) : Dev := d.reportBy src addr 0x00 3

/-! ### Interrupt causes (R454) -/

/-- Change the host block. -/
def Dev.modHost (g : HostSt → HostSt) (d : Dev) : Dev := { d with host := g d.host }

/-- Ring r; a ring never written has its reset values. -/
def Dev.ring (d : Dev) (r : Nat) : Ring := d.host.rings.getD r {}

/-- Set ring r. -/
def Dev.setRing (r : Nat) (v : Ring) (d : Dev) : Dev := d.modHost fun h => { h with rings := h.rings.set r v }

/-- The ring of a vector: notification 3, punt 4 to 11, inject 12 to 19. -/
def ringOfVec (v : Nat) : Option Nat := if v = 3 then some 16 else if 4 ≤ v ∧ v < 20 then some (v - 4) else none

/-- The vector of a ring. -/
def vecOfRing (r : Nat) : Nat := if r = 16 then 3 else r + 4

/-- The holdoff of a vector in captures (R454). -/
def Dev.holdoffX (d : Dev) (v : Nat) : Nat :=
  match ringOfVec v with
  | some r => (d.ring r).holdoff * 800
  | none => 0

/-- An event of vector v: its cause bit is set; where it rises, a message becomes due, starts its holdoff, or is pending in the PBA. -/
def Dev.irqCause (v : Nat) (d : Dev) : Dev :=
  if bit d.host.cause v then d
  else
    let d := d.modHost fun h => { h with cause := setBit h.cause v true }
    if (d.host.vecs.getD v {}).mask then d.modHost fun h => { h with pba := setBit h.pba v true }
    else if d.holdoffX v = 0 then d.modHost fun h => { h with due := h.due ++ [v] }
    else d.modHost fun h => { h with hold := h.hold ++ [(v, d.now)] }

/-- The fields of HB_STATUS whose change is an event of vector 0: FORWARDING, FW_RUNNING, HBM_READY, YARD_SAFE and MATE_STATE (R434). -/
def Dev.statusWord (d : Dev) : Nat :=
  d.power.forwarding.toNat * 64 + (d.get E.FirmwareState == 2).toNat * 32 + (d.get E.HbmState == 2).toNat * 16 + d.get E.YardSafe * 4 + d.get E.MateState

/-- An event of vector 0 where HB_STATUS has changed. -/
def Dev.statusIrq (old : Nat) (d : Dev) : Dev := if d.statusWord = old then d else d.irqCause 0

/-! ### The instant of a command -/

/-- The period of the 1.4 GHz core clock that capture x lies in: two commands of one period come in the same clock (log 153). -/
def coreClock (x : Nat) : Nat := x * 7 / 40

/-- Whether the main domains run: every command but those of the always-on domain needs this (R542, R555). -/
def Power.alive (p : Power) : Bool := p.phase == .starting || p.phase == .running

/-- The block at instant t. -/
def Dev.setNow (t : Nat) (d : Dev) : Dev := { d with now := t }

/-- The block with its TAP in state v. -/
def Dev.setTap (v : Tap) (d : Dev) : Dev := { d with tap := v }

/-- Run f at instant x: time never goes back, nothing inside a command moves it (log 12), and nothing but its own balls reaches the TAP (R585). -/
def Dev.at (x : Nat) (f : Dev → Dev) (d : Dev) : Dev :=
  let t := max d.now x
  ((f (d.setNow t)).setNow t).setTap d.tap

/-- A command of the main domains at instant x: while they are not powered only time passes (R542, R555). -/
def State.live (s : State) (x : Nat) (f : Dev → Dev) : Host.Outcome State Fault Refusal :=
  .next { s with dev := s.dev.at x fun d => if d.power.alive then (f d).statusIrq d.statusWord else d }

/-- A command of the always-on domain or the pins at instant x. -/
def State.aon (s : State) (x : Nat) (f : Dev → Dev) : Host.Outcome State Fault Refusal :=
  .next { s with dev := s.dev.at x f }

/-- Whether HBM is available (R18): HbmState is 2 (R502). -/
def Dev.hbmUp (d : Dev) : Bool := d.get E.HbmState == 2

/-- Values laid over a dictionary. -/
def Dict.overlay (d : Dict) (s : Staged) : Dict :=
  { d with scal := s.scal.foldl (fun m e => m.set e.1 e.2) d.scal, rows := s.rows.foldl (fun m e => m.set e.1 e.2) d.rows }

/-- The device as frames with ingress timestamp x see it (R21): the values that each commit boundary after x replaced are put back. -/
def Dev.asOf (d : Dev) (x : Nat) : Dev :=
  d.commit.epochs.foldl (fun d e => if x < e.x then { d with dict := d.dict.overlay e.old } else d) d

/-- Apply f where c holds. -/
def Dev.cond (c : Bool) (f : Dev → Dev) (d : Dev) : Dev := if c then f d else d

/-- Apply f for each element of a list, in order. -/
def Dev.each {α : Type} (l : List α) (f : α → Dev → Dev) (d : Dev) : Dev := l.foldl (fun d a => f a d) d

/-- Apply f for each i below n, in rising order. -/
def Dev.upto (n : Nat) (f : Nat → Dev → Dev) (d : Dev) : Dev := d.each (List.range n) f

end Sys2Proof.Machine
end

