-- ==== Sys2Proof/Machine/RowFields.lean ====
section
/-!
DEFINITION. The fields of the rows of every TABLE, one function per field, as the row layouts of the spec's chapters place them
(bit 0 is the least significant bit of the row, R5, R33).
-/
namespace Sys2Proof.Machine.Row

/-! Subscriptions (R70) -/
def Subscriptions.valid (r : Nat) : Nat := fld r 127 127
def Subscriptions.master (r : Nat) : Nat := fld r 103 96
def Subscriptions.sessionId (r : Nat) : Nat := fld r 95 64
def Subscriptions.index (r : Nat) : Nat := fld r 63 48
def Subscriptions.sub (r : Nat) : Nat := fld r 47 40
def Subscriptions.lost (r : Nat) : Nat := fld r 31 0

/-! ProstaRoutes (R59) -/
def ProstaRoutes.valid (r : Nat) : Nat := fld r 79 79
def ProstaRoutes.tagged (r : Nat) : Nat := fld r 78 78
def ProstaRoutes.egressPort (r : Nat) : Nat := fld r 77 71
def ProstaRoutes.pcp (r : Nat) : Nat := fld r 70 68
def ProstaRoutes.vid (r : Nat) : Nat := fld r 67 56
def ProstaRoutes.nextHopMac (r : Nat) : Nat := fld r 47 0

/-! Sessions (R70) -/
def Sessions.valid (r : Nat) : Nat := fld r 191 191
def Sessions.sessionId (r : Nat) : Nat := fld r 159 128
def Sessions.keySlot (r : Nat) : Nat := fld r 127 120
def Sessions.idleSeconds (r : Nat) : Nat := fld r 95 64
def Sessions.highestSeq (r : Nat) : Nat := fld r 63 0

/-! TimeEvents (R110) -/
def TimeEvents.kind (r : Nat) : Nat := fld r 383 376
def TimeEvents.domain (r : Nat) : Nat := fld r 375 375
def TimeEvents.port (r : Nat) : Nat := fld r 374 368
def TimeEvents.sourceSeq (r : Nat) : Nat := fld r 367 352
def TimeEvents.sequenceId (r : Nat) : Nat := fld r 351 336
def TimeEvents.acqStep (r : Nat) : Nat := fld r 320 320
def TimeEvents.remote (r : Nat) : Nat := fld r 319 224
def TimeEvents.local (r : Nat) : Nat := fld r 223 128
def TimeEvents.correction (r : Nat) : Nat := fld r 127 64
def TimeEvents.x (r : Nat) : Nat := fld r 63 0

/-! PortClassify (R148) -/
def PortClassify.portLabel (r : Nat) : Nat := fld r 127 120
def PortClassify.profileNonip (r : Nat) : Nat := fld r 119 115
def PortClassify.profileIp4 (r : Nat) : Nat := fld r 114 110
def PortClassify.profileIp6 (r : Nat) : Nat := fld r 109 105
def PortClassify.trustPcp (r : Nat) : Nat := fld r 104 104
def PortClassify.deiYellow (r : Nat) : Nat := fld r 103 103
def PortClassify.pcpMap (r : Nat) : Nat := fld r 102 79
def PortClassify.udf0Def (r : Nat) : Nat := fld r 78 76
def PortClassify.udf1Def (r : Nat) : Nat := fld r 75 73
def PortClassify.defaultResult (r : Nat) : Nat := fld r 63 0

/-! SearchProfiles (R149) -/
def SearchProfiles.treeEnable (r : Nat) : Nat := fld r 662 662
def SearchProfiles.treeSet (r : Nat) : Nat := fld r 661 658
def SearchProfiles.assocEnable (r : Nat) : Nat := fld r 657 657
def SearchProfiles.width (r : Nat) : Nat := fld r 656 655
def SearchProfiles.pfByte (r : Nat) : Nat := fld r 654 648
def SearchProfiles.pfConst (r : Nat) : Nat := fld r 647 640
def SearchProfiles.globalMask (r : Nat) : Nat := fld r 639 0

/-! Indirection (R171) -/
def Indirection.dest (r : Nat) : Nat := fld r 15 0

/-! AssocRows (R156) -/
def AssocRows.epochValid (r : Nat) : Nat := fld r 711 710
def AssocRows.result (r : Nat) : Nat := fld r 703 640
def AssocRows.value (r : Nat) : Nat := fld r 639 320
def AssocRows.care (r : Nat) : Nat := fld r 319 0

/-! AssocRowsAll (R156) -/
/-! TreeNodes (R172) -/
def TreeNodes.type (r : Nat) : Nat := fld r 63 62
def TreeNodes.cutLsb (r : Nat) : Nat := fld r 61 54
def TreeNodes.cutWidth (r : Nat) : Nat := fld r 53 51
def TreeNodes.childBase (r : Nat) : Nat := fld r 50 33

/-! TreeNodesAll (R172) -/
/-! TreeLists (R172) -/

/-! TreeListsAll (R172) -/
/-! TreeRules (R154) -/
def TreeRules.valid (r : Nat) : Nat := fld r 455 455
def TreeRules.result (r : Nat) : Nat := fld r 447 384
def TreeRules.aLo (r : Nat) : Nat := fld r 383 368
def TreeRules.aHi (r : Nat) : Nat := fld r 367 352
def TreeRules.bLo (r : Nat) : Nat := fld r 351 336
def TreeRules.bHi (r : Nat) : Nat := fld r 335 320
def TreeRules.value (r : Nat) : Nat := fld r 319 160
def TreeRules.care (r : Nat) : Nat := fld r 159 0

/-! TreeRulesAll (R154) -/
/-! TreeSets (R151) -/
def TreeSets.valid (r : Nat) : Nat := fld r 191 191
def TreeSets.root (r : Nat) : Nat := fld r 179 162
def TreeSets.rangeALsb (r : Nat) : Nat := fld r 161 152
def TreeSets.rangeBLsb (r : Nat) : Nat := fld r 151 142
def TreeSets.keySelect (r : Nat) : Nat := fld r 139 0

/-! TreeSetsAll (R151) -/
/-! L2Rows (R177) -/
def L2Rows.valid (r : Nat) : Nat := fld r 87 87
def L2Rows.static (r : Nat) : Nat := fld r 86 86
def L2Rows.hit (r : Nat) : Nat := fld r 85 85
def L2Rows.saDiscard (r : Nat) : Nat := fld r 84 84
def L2Rows.daDiscard (r : Nat) : Nat := fld r 83 83
def L2Rows.fid (r : Nat) : Nat := fld r 75 64
def L2Rows.mac (r : Nat) : Nat := fld r 63 16
def L2Rows.destKind (r : Nat) : Nat := fld r 15 14
def L2Rows.dest (r : Nat) : Nat := fld r 13 0

/-! Vlans (R216) -/
def Vlans.valid (r : Nat) : Nat := fld r 127 127
def Vlans.learn (r : Nat) : Nat := fld r 126 126
def Vlans.fid (r : Nat) : Nat := fld r 125 114
def Vlans.members (r : Nat) : Nat := fld r 95 0

/-! PortBridge (R217) -/
def PortBridge.pvid (r : Nat) : Nat := fld r 63 52
def PortBridge.learn (r : Nat) : Nat := fld r 51 51
def PortBridge.ingressFilter (r : Nat) : Nat := fld r 50 50
def PortBridge.limitDrop (r : Nat) : Nat := fld r 49 49
def PortBridge.learnLimit (r : Nat) : Nat := fld r 48 31
def PortBridge.streamId (r : Nat) : Nat := fld r 30 29
def PortBridge.hostRoute (r : Nat) : Nat := fld r 28 28
def PortBridge.lagValid (r : Nat) : Nat := fld r 27 27
def PortBridge.lag (r : Nat) : Nat := fld r 26 20

/-! LagGroups (R180) -/
def LagGroups.valid (r : Nat) : Nat := fld r 127 127
def LagGroups.count (r : Nat) : Nat := fld r 126 123
def LagGroups.member (r : Nat) : Nat := fld r 111 0

/-! L2Events (R190) -/
def L2Events.kind (r : Nat) : Nat := fld r 255 252
def L2Events.sourceSeq (r : Nat) : Nat := fld r 251 236
def L2Events.acqStep (r : Nat) : Nat := fld r 235 235
def L2Events.newDest (r : Nat) : Nat := fld r 231 216
def L2Events.oldDest (r : Nat) : Nat := fld r 215 200
def L2Events.fid (r : Nat) : Nat := fld r 199 188
def L2Events.mac (r : Nat) : Nat := fld r 187 140
def L2Events.time (r : Nat) : Nat := fld r 95 0

/-! LpmRoutes (R193) -/
def LpmRoutes.valid (r : Nat) : Nat := fld r 159 159
def LpmRoutes.family (r : Nat) : Nat := fld r 158 158
def LpmRoutes.len (r : Nat) : Nat := fld r 157 151
def LpmRoutes.prefixF (r : Nat) : Nat := fld r 143 16
def LpmRoutes.nextHop (r : Nat) : Nat := fld r 15 0

/-! NextHops (R196) -/
def NextHops.valid (r : Nat) : Nat := fld r 95 95
def NextHops.kind (r : Nat) : Nat := fld r 94 93
def NextHops.ecmpSize (r : Nat) : Nat := fld r 92 85
def NextHops.dest (r : Nat) : Nat := fld r 84 69
def NextHops.vid (r : Nat) : Nat := fld r 59 48
def NextHops.dmac (r : Nat) : Nat := fld r 47 0

/-! EmRows (R198) -/
def EmRows.valid (r : Nat) : Nat := fld r 255 255
def EmRows.hit (r : Nat) : Nat := fld r 254 254
def EmRows.key (r : Nat) : Nat := fld r 239 80
def EmRows.nhValid (r : Nat) : Nat := fld r 79 79
def EmRows.nextHop (r : Nat) : Nat := fld r 78 63
def EmRows.streamValid (r : Nat) : Nat := fld r 62 62
def EmRows.stream (r : Nat) : Nat := fld r 61 46
def EmRows.rcvValid (r : Nat) : Nat := fld r 45 45
def EmRows.recovery (r : Nat) : Nat := fld r 44 31

/-! RecoveryFunctions (R202) -/
def RecoveryFunctions.valid (r : Nat) : Nat := fld r 63 63
def RecoveryFunctions.algorithm (r : Nat) : Nat := fld r 62 62
def RecoveryFunctions.seqSource (r : Nat) : Nat := fld r 61 60
def RecoveryFunctions.takeNoSequence (r : Nat) : Nat := fld r 59 59
def RecoveryFunctions.historyLength (r : Nat) : Nat := fld r 55 48
def RecoveryFunctions.resetTicks (r : Nat) : Nat := fld r 47 24

/-! RecoveryCounters (R218) -/
def RecoveryCounters.passed (r : Nat) : Nat := fld r 447 384
def RecoveryCounters.discarded (r : Nat) : Nat := fld r 383 320
def RecoveryCounters.outOfOrder (r : Nat) : Nat := fld r 319 256
def RecoveryCounters.rogue (r : Nat) : Nat := fld r 255 192
def RecoveryCounters.lost (r : Nat) : Nat := fld r 191 128
def RecoveryCounters.tagless (r : Nat) : Nat := fld r 127 64
def RecoveryCounters.resets (r : Nat) : Nat := fld r 63 0

/-! Bindings (R220) -/
def Bindings.valid (r : Nat) : Nat := fld r 127 127
def Bindings.progBase (r : Nat) : Nat := fld r 126 113
def Bindings.len (r : Nat) : Nat := fld r 112 109
def Bindings.cost (r : Nat) : Nat := fld r 108 103
def Bindings.arg (r : Nat) : Nat := fld r 95 64

/-! ProgramStore (R245) -/
def ProgramStore.opcode (r : Nat) : Nat := fld r 31 26
def ProgramStore.operands (r : Nat) : Nat := fld r 25 0

/-! MacPool (R245) -/
def MacPool.mac (r : Nat) : Nat := fld r 47 0

/-! PortRewrite (R246) -/
def PortRewrite.prpLan (r : Nat) : Nat := fld r 48 48
def PortRewrite.portMac (r : Nat) : Nat := fld r 47 0

/-! SeqGen (R245) -/
def SeqGen.valid (r : Nat) : Nat := fld r 31 31
def SeqGen.next (r : Nat) : Nat := fld r 15 0

/-! ActionCounters (R245) -/
def ActionCounters.frames (r : Nat) : Nat := fld r 127 64
def ActionCounters.octets (r : Nat) : Nat := fld r 63 0

/-! TemplateFills (R240) -/
def TemplateFills.kind (r : Nat) : Nat := fld r 31 29
def TemplateFills.offset (r : Nat) : Nat := fld r 28 20
def TemplateFills.arg (r : Nat) : Nat := fld r 19 0

/-! ActionSamples (R243) -/
def ActionSamples.sourceSeq (r : Nat) : Nat := fld r 255 240
def ActionSamples.acqStep (r : Nat) : Nat := fld r 239 239
def ActionSamples.pipe (r : Nat) : Nat := fld r 238 236
def ActionSamples.binding (r : Nat) : Nat := fld r 235 224
def ActionSamples.pc (r : Nat) : Nat := fld r 223 220
def ActionSamples.progAddr (r : Nat) : Nat := fld r 219 206
def ActionSamples.instrF (r : Nat) : Nat := fld r 205 174
def ActionSamples.tableId (r : Nat) : Nat := fld r 173 166
def ActionSamples.tableAddr (r : Nat) : Nat := fld r 165 142
def ActionSamples.latency (r : Nat) : Nat := fld r 141 126
def ActionSamples.ingressPort (r : Nat) : Nat := fld r 125 119
def ActionSamples.timestamp (r : Nat) : Nat := fld r 95 0

/-! AdmissionProfiles (R257) -/
def AdmissionProfiles.minCells (r : Nat) : Nat := fld r 63 48
def AdmissionProfiles.maxCells (r : Nat) : Nat := fld r 47 29
def AdmissionProfiles.alpha (r : Nat) : Nat := fld r 28 25
def AdmissionProfiles.yellow16 (r : Nat) : Nat := fld r 24 20
def AdmissionProfiles.red16 (r : Nat) : Nat := fld r 19 15

/-! QueueConfig (R282) -/
def QueueConfig.profile (r : Nat) : Nat := fld r 63 59
def QueueConfig.spill (r : Nat) : Nat := fld r 58 58
def QueueConfig.spillOn (r : Nat) : Nat := fld r 57 40
def QueueConfig.spillMax (r : Nat) : Nat := fld r 39 24

/-! QueueState (R283) -/
def QueueState.occ (r : Nat) : Nat := fld r 127 109
def QueueState.highWater (r : Nat) : Nat := fld r 108 90
def QueueState.spilling (r : Nat) : Nat := fld r 89 89
def QueueState.tail (r : Nat) : Nat := fld r 88 70
def QueueState.hbmCells (r : Nat) : Nat := fld r 69 43
def QueueState.frames (r : Nat) : Nat := fld r 42 24

/-! QueueDrops (R281) -/
def QueueDrops.green (r : Nat) : Nat := fld r 319 256
def QueueDrops.yellow (r : Nat) : Nat := fld r 255 192
def QueueDrops.red (r : Nat) : Nat := fld r 191 128
def QueueDrops.residue (r : Nat) : Nat := fld r 127 64
def QueueDrops.flushed (r : Nat) : Nat := fld r 63 0

/-! PortBufferCounters (R281) -/
def PortBufferCounters.stompIn (r : Nat) : Nat := fld r 255 192
def PortBufferCounters.stompOut (r : Nat) : Nat := fld r 191 128
def PortBufferCounters.portDownDrops (r : Nat) : Nat := fld r 127 64
def PortBufferCounters.cutDiscards (r : Nat) : Nat := fld r 63 0

/-! McGroups (R265) -/
def McGroups.valid (r : Nat) : Nat := fld r 127 127
def McGroups.pruneIngress (r : Nat) : Nat := fld r 126 126
def McGroups.members (r : Nat) : Nat := fld r 97 0

/-! Samplers (R272) -/
def Samplers.valid (r : Nat) : Nat := fld r 63 63
def Samplers.target (r : Nat) : Nat := fld r 62 61
def Samplers.ringFromSpread (r : Nat) : Nat := fld r 60 60
def Samplers.ring (r : Nat) : Nat := fld r 59 57
def Samplers.trunc (r : Nat) : Nat := fld r 56 48
def Samplers.n (r : Nat) : Nat := fld r 47 24

/-! MirrorSessions (R271) -/
def MirrorSessions.valid (r : Nat) : Nat := fld r 63 63
def MirrorSessions.truncEn (r : Nat) : Nat := fld r 62 62
def MirrorSessions.trunc (r : Nat) : Nat := fld r 61 53
def MirrorSessions.tagEn (r : Nat) : Nat := fld r 52 52
def MirrorSessions.pcp (r : Nat) : Nat := fld r 51 49
def MirrorSessions.vid (r : Nat) : Nat := fld r 48 37
def MirrorSessions.colour (r : Nat) : Nat := fld r 36 35
def MirrorSessions.queue (r : Nat) : Nat := fld r 34 31
def MirrorSessions.dest (r : Nat) : Nat := fld r 30 15

/-! WeaveWindows (R290) -/
def WeaveWindows.startTick (r : Nat) : Nat := fld r 63 52
def WeaveWindows.startNs (r : Nat) : Nat := fld r 51 32
def WeaveWindows.gates (r : Nat) : Nat := fld r 15 0

/-! QueueSched (R316) -/
def QueueSched.group (r : Nat) : Nat := fld r 63 61
def QueueSched.weight (r : Nat) : Nat := fld r 60 48
def QueueSched.launchTol (r : Nat) : Nat := fld r 47 28
def QueueSched.lateAction (r : Nat) : Nat := fld r 27 27

/-! QueueShapers (R303) -/
def QueueShapers.enable (r : Nat) : Nat := fld r 127 127
def QueueShapers.resetMode (r : Nat) : Nat := fld r 126 126
def QueueShapers.lengthAdj (r : Nat) : Nat := fld r 125 120
def QueueShapers.cir (r : Nat) : Nat := fld r 115 84
def QueueShapers.pir (r : Nat) : Nat := fld r 83 52
def QueueShapers.cbs (r : Nat) : Nat := fld r 51 28
def QueueShapers.pbs (r : Nat) : Nat := fld r 27 4

/-! PortShapers (R303) -/
def PortShapers.enable (r : Nat) : Nat := fld r 127 127
def PortShapers.resetMode (r : Nat) : Nat := fld r 126 126
def PortShapers.lengthAdj (r : Nat) : Nat := fld r 125 120
def PortShapers.cir (r : Nat) : Nat := fld r 115 84
def PortShapers.pir (r : Nat) : Nat := fld r 83 52
def PortShapers.cbs (r : Nat) : Nat := fld r 51 28
def PortShapers.pbs (r : Nat) : Nat := fld r 27 4

/-! ShaperTokens (R317) -/
def ShaperTokens.c (r : Nat) : Nat := fld r 63 32
def ShaperTokens.p (r : Nat) : Nat := fld r 31 0

/-! QueueTxCounters (R317) -/
def QueueTxCounters.frames (r : Nat) : Nat := fld r 319 256
def QueueTxCounters.octets (r : Nat) : Nat := fld r 255 192
def QueueTxCounters.launched (r : Nat) : Nat := fld r 191 128
def QueueTxCounters.launchLate (r : Nat) : Nat := fld r 127 64
def QueueTxCounters.lateDropped (r : Nat) : Nat := fld r 63 0

/-! StreamFilters (R318) -/
def StreamFilters.valid (r : Nat) : Nat := fld r 63 63
def StreamFilters.blockOversize (r : Nat) : Nat := fld r 62 62
def StreamFilters.gateValid (r : Nat) : Nat := fld r 61 61
def StreamFilters.meterValid (r : Nat) : Nat := fld r 60 60
def StreamFilters.maxSdu (r : Nat) : Nat := fld r 59 46
def StreamFilters.gate (r : Nat) : Nat := fld r 45 34
def StreamFilters.meter (r : Nat) : Nat := fld r 33 20

/-! StreamGates (R319) -/
def StreamGates.valid (r : Nat) : Nat := fld r 63 63
def StreamGates.closeOnInvalid (r : Nat) : Nat := fld r 62 62
def StreamGates.ipvValid (r : Nat) : Nat := fld r 61 61
def StreamGates.ipv (r : Nat) : Nat := fld r 60 57
def StreamGates.cycleTicks (r : Nat) : Nat := fld r 56 44
def StreamGates.offset (r : Nat) : Nat := fld r 43 32
def StreamGates.openLen (r : Nat) : Nat := fld r 31 19

/-! Meters (R320) -/
def Meters.valid (r : Nat) : Nat := fld r 127 127
def Meters.colourAware (r : Nat) : Nat := fld r 126 126
def Meters.resetMode (r : Nat) : Nat := fld r 125 125
def Meters.redDrop (r : Nat) : Nat := fld r 124 124
def Meters.cir (r : Nat) : Nat := fld r 115 84
def Meters.pir (r : Nat) : Nat := fld r 83 52
def Meters.cbs (r : Nat) : Nat := fld r 51 28
def Meters.pbs (r : Nat) : Nat := fld r 27 4

/-! StreamCounters (R321) -/
def StreamCounters.matching (r : Nat) : Nat := fld r 383 320
def StreamCounters.passingSdu (r : Nat) : Nat := fld r 319 256
def StreamCounters.notPassingSdu (r : Nat) : Nat := fld r 255 192
def StreamCounters.passingGate (r : Nat) : Nat := fld r 191 128
def StreamCounters.notPassingGate (r : Nat) : Nat := fld r 127 64
def StreamCounters.red (r : Nat) : Nat := fld r 63 0

/-! MeterCounters (R321) -/
def MeterCounters.green (r : Nat) : Nat := fld r 191 128
def MeterCounters.yellow (r : Nat) : Nat := fld r 127 64
def MeterCounters.red (r : Nat) : Nat := fld r 63 0

/-! StreamBlocked (R321) -/
def StreamBlocked.blocked (r : Nat) : Nat := fld r 7 7

/-! GateLatched (R321) -/
def GateLatched.latched (r : Nat) : Nat := fld r 7 7

/-! QueueHistograms (R321) -/
def QueueHistograms.samples (r : Nat) : Nat := fld r 1087 1024

/-! PendingBatches (R340) -/
def PendingBatches.valid (r : Nat) : Nat := fld r 127 127
def PendingBatches.assocFlip (r : Nat) : Nat := fld r 126 126
def PendingBatches.lateApply (r : Nat) : Nat := fld r 125 125
def PendingBatches.tickChange (r : Nat) : Nat := fld r 124 124
def PendingBatches.commitId (r : Nat) : Nat := fld r 111 96
def PendingBatches.tick (r : Nat) : Nat := fld r 95 32
def PendingBatches.stagedRows (r : Nat) : Nat := fld r 31 0

/-! CommitReports (R336) -/
def CommitReports.epoch (r : Nat) : Nat := fld r 351 320
def CommitReports.status (r : Nat) : Nat := fld r 319 312
def CommitReports.cause (r : Nat) : Nat := fld r 311 308
def CommitReports.acqStep (r : Nat) : Nat := fld r 307 307
def CommitReports.sourceSeq (r : Nat) : Nat := fld r 303 288
def CommitReports.commitId (r : Nat) : Nat := fld r 287 272
def CommitReports.master (r : Nat) : Nat := fld r 271 264
def CommitReports.requestedTick (r : Nat) : Nat := fld r 255 192
def CommitReports.appliedTick (r : Nat) : Nat := fld r 191 128
def CommitReports.stagedRows (r : Nat) : Nat := fld r 127 96
def CommitReports.arrival (r : Nat) : Nat := fld r 95 0

/-! YardLines (R368) -/
def YardLines.mode (r : Nat) : Nat := fld r 127 126
def YardLines.invert (r : Nat) : Nat := fld r 125 125
def YardLines.safeLevel (r : Nat) : Nat := fld r 124 123
def YardLines.shared (r : Nat) : Nat := fld r 122 122
def YardLines.genValid (r : Nat) : Nat := fld r 121 121
def YardLines.gen (r : Nat) : Nat := fld r 120 117
def YardLines.sgpValid (r : Nat) : Nat := fld r 116 116
def YardLines.sgp (r : Nat) : Nat := fld r 115 113
def YardLines.edge (r : Nat) : Nat := fld r 112 111
def YardLines.gateValid (r : Nat) : Nat := fld r 110 110
def YardLines.gateLine (r : Nat) : Nat := fld r 109 104
def YardLines.deglitchNs (r : Nat) : Nat := fld r 103 96
def YardLines.minPeriodNs (r : Nat) : Nat := fld r 95 72
def YardLines.maxPeriodNs (r : Nat) : Nat := fld r 71 48
def YardLines.pulsesPerTick (r : Nat) : Nat := fld r 47 40
def YardLines.outTrim (r : Nat) : Nat := fld r 39 24
def YardLines.inTrim (r : Nat) : Nat := fld r 23 8

/-! Generators (R369) -/
def Generators.valid (r : Nat) : Nat := fld r 127 127
def Generators.periodTicks (r : Nat) : Nat := fld r 126 114
def Generators.phaseTicks (r : Nat) : Nat := fld r 113 102
def Generators.offsetQ (r : Nat) : Nat := fld r 101 79
def Generators.widthNs (r : Nat) : Nat := fld r 78 55

/-! StartGroups (R367) -/
def StartGroups.valid (r : Nat) : Nat := fld r 63 63
def StartGroups.minSpacingNs (r : Nat) : Nat := fld r 62 43

/-! StartGroupCounters (R367) -/
def StartGroupCounters.delayed (r : Nat) : Nat := fld r 127 64
def StartGroupCounters.maxDelayNs (r : Nat) : Nat := fld r 63 32

/-! YardCaptures (R352) -/
def YardCaptures.sourceSeq (r : Nat) : Nat := fld r 191 176
def YardCaptures.line (r : Nat) : Nat := fld r 175 170
def YardCaptures.edge (r : Nat) : Nat := fld r 169 169
def YardCaptures.acqStep (r : Nat) : Nat := fld r 168 168
def YardCaptures.lost (r : Nat) : Nat := fld r 167 167
def YardCaptures.x (r : Nat) : Nat := fld r 162 96
def YardCaptures.time (r : Nat) : Nat := fld r 95 0

/-! YardLineCounters (R367) -/
def YardLineCounters.starts (r : Nat) : Nat := fld r 383 320
def YardLineCounters.delayed (r : Nat) : Nat := fld r 319 256
def YardLineCounters.suppressed (r : Nat) : Nat := fld r 255 192
def YardLineCounters.captures (r : Nat) : Nat := fld r 191 128
def YardLineCounters.capturesLost (r : Nat) : Nat := fld r 127 64
def YardLineCounters.eventsDiscarded (r : Nat) : Nat := fld r 63 0

/-! PpConfig (R371) -/
def PpConfig.enable (r : Nat) : Nat := fld r 127 127
def PpConfig.twoLines (r : Nat) : Nat := fld r 126 126
def PpConfig.shared (r : Nat) : Nat := fld r 125 125
def PpConfig.wordsOut (r : Nat) : Nat := fld r 120 114
def PpConfig.wordsIn (r : Nat) : Nat := fld r 113 107
def PpConfig.sclkNs (r : Nat) : Nat := fld r 106 96
def PpConfig.guardNs (r : Nat) : Nat := fld r 95 77

/-! PpCounters (R370) -/
def PpCounters.transfers (r : Nat) : Nat := fld r 511 448
def PpCounters.crcErrors (r : Nat) : Nat := fld r 447 384
def PpCounters.setpointLate (r : Nat) : Nat := fld r 383 320
def PpCounters.setpointEarly (r : Nat) : Nat := fld r 319 256
def PpCounters.setpointReplaced (r : Nat) : Nat := fld r 255 192
def PpCounters.setpointIgnored (r : Nat) : Nat := fld r 191 128
def PpCounters.loopOverruns (r : Nat) : Nat := fld r 127 64
def PpCounters.loopCommits (r : Nat) : Nat := fld r 63 0

/-! SetpointLimits (R373) -/
def SetpointLimits.kind (r : Nat) : Nat := fld r 159 158
def SetpointLimits.source (r : Nat) : Nat := fld r 157 156
def SetpointLimits.staleTicks (r : Nat) : Nat := fld r 155 148
def SetpointLimits.min (r : Nat) : Nat := fld r 127 96
def SetpointLimits.max (r : Nat) : Nat := fld r 95 64
def SetpointLimits.slew (r : Nat) : Nat := fld r 63 32
def SetpointLimits.safe (r : Nat) : Nat := fld r 31 0

/-! SetpointWordState (R372) -/
def SetpointWordState.out (r : Nat) : Nat := fld r 127 96
def SetpointWordState.tgt (r : Nat) : Nat := fld r 95 64
def SetpointWordState.miss (r : Nat) : Nat := fld r 63 56
def SetpointWordState.state (r : Nat) : Nat := fld r 55 54
def SetpointWordState.forced (r : Nat) : Nat := fld r 53 53

/-! SetpointWordCounters (R372) -/
def SetpointWordCounters.clamped (r : Nat) : Nat := fld r 191 128
def SetpointWordCounters.slewLimited (r : Nat) : Nat := fld r 127 64
def SetpointWordCounters.staleExpiries (r : Nat) : Nat := fld r 63 0

/-! SampleGroups (R374) -/
def SampleGroups.valid (r : Nat) : Nat := fld r 63 63
def SampleGroups.template (r : Nat) : Nat := fld r 62 57
def SampleGroups.periodTicks (r : Nat) : Nat := fld r 56 44
def SampleGroups.phaseTicks (r : Nat) : Nat := fld r 43 32
def SampleGroups.pipe (r : Nat) : Nat := fld r 31 29
def SampleGroups.buildNs (r : Nat) : Nat := fld r 28 9

/-! SampleGroupCounters (R372) -/
def SampleGroupCounters.built (r : Nat) : Nat := fld r 127 64
def SampleGroupCounters.omitted (r : Nat) : Nat := fld r 63 32

/-! PaddockCounters (R392) -/
def PaddockCounters.issued (r : Nat) : Nat := fld r 383 320
def PaddockCounters.completed (r : Nat) : Nat := fld r 319 256
def PaddockCounters.timedOut (r : Nat) : Nat := fld r 255 192
def PaddockCounters.noSlot (r : Nat) : Nat := fld r 191 128
def PaddockCounters.hbmBypass (r : Nat) : Nat := fld r 127 64
def PaddockCounters.refused (r : Nat) : Nat := fld r 63 0

/-! ServiceQueues (R393) -/
def ServiceQueues.valid (r : Nat) : Nat := fld r 63 63
def ServiceQueues.servicer (r : Nat) : Nat := fld r 62 62
def ServiceQueues.ring (r : Nat) : Nat := fld r 61 59
def ServiceQueues.timeoutAction (r : Nat) : Nat := fld r 58 57
def ServiceQueues.maxOutstanding (r : Nat) : Nat := fld r 56 44

/-! PaddockCompletions (R391) -/
def PaddockCompletions.kind (r : Nat) : Nat := fld r 255 252
def PaddockCompletions.sourceKind (r : Nat) : Nat := fld r 251 250
def PaddockCompletions.sourceId (r : Nat) : Nat := fld r 249 240
def PaddockCompletions.sourceSeq (r : Nat) : Nat := fld r 239 224
def PaddockCompletions.status (r : Nat) : Nat := fld r 223 216
def PaddockCompletions.acqStep (r : Nat) : Nat := fld r 215 215
def PaddockCompletions.pipe (r : Nat) : Nat := fld r 214 212
def PaddockCompletions.timedOut (r : Nat) : Nat := fld r 211 211
def PaddockCompletions.refused (r : Nat) : Nat := fld r 210 210
def PaddockCompletions.handle (r : Nat) : Nat := fld r 207 192
def PaddockCompletions.arg (r : Nat) : Nat := fld r 191 176
def PaddockCompletions.detail (r : Nat) : Nat := fld r 175 160
def PaddockCompletions.latencyNs (r : Nat) : Nat := fld r 159 128
def PaddockCompletions.released (r : Nat) : Nat := fld r 95 0

/-! PaddockSlots (R394) -/
def PaddockSlots.state (r : Nat) : Nat := fld r 63 62
def PaddockSlots.kind (r : Nat) : Nat := fld r 61 58
def PaddockSlots.gen (r : Nat) : Nat := fld r 57 54
def PaddockSlots.sourceId (r : Nat) : Nat := fld r 53 44
def PaddockSlots.sourceKind (r : Nat) : Nat := fld r 43 43
def PaddockSlots.ageNs (r : Nat) : Nat := fld r 31 0

/-! MirrorRecoveryMask (R424) -/
def MirrorRecoveryMask.mask (r : Nat) : Nat := fld r 0 0

/-! PairEvents (R427) -/
def PairEvents.kind (r : Nat) : Nat := fld r 159 152
def PairEvents.sourceSeq (r : Nat) : Nat := fld r 151 136
def PairEvents.acqStep (r : Nat) : Nat := fld r 135 135
def PairEvents.detail (r : Nat) : Nat := fld r 127 96
def PairEvents.time (r : Nat) : Nat := fld r 95 0

/-! CascadeReplies (R428) -/
def CascadeReplies.sourceSeq (r : Nat) : Nat := fld r 4063 4048
def CascadeReplies.acqStep (r : Nat) : Nat := fld r 4047 4047
def CascadeReplies.trunc (r : Nat) : Nat := fld r 4046 4046
def CascadeReplies.time (r : Nat) : Nat := fld r 4031 3936
def CascadeReplies.frame (r : Nat) : Nat := fld r 3935 0

/-! MailboxEnds (R457) -/
def MailboxEnds.endA (r : Nat) : Nat := fld r 31 24
def MailboxEnds.endB (r : Nat) : Nat := fld r 23 16

/-! MasterEpochs (R456) -/
def MasterEpochs.epoch (r : Nat) : Nat := fld r 7 0

/-! ShaperCeilings (R464) -/
def ShaperCeilings.pirCeil (r : Nat) : Nat := fld r 63 32
def ShaperCeilings.burstCeil (r : Nat) : Nat := fld r 31 8

/-! HbmTraining (R486) -/
def HbmTraining.valid (r : Nat) : Nat := fld r 127 127
def HbmTraining.vrefDq (r : Nat) : Nat := fld r 119 112
def HbmTraining.wrDelay (r : Nat) : Nat := fld r 111 104
def HbmTraining.rdDelay (r : Nat) : Nat := fld r 103 96
def HbmTraining.caDelay (r : Nat) : Nat := fld r 95 88
def HbmTraining.rdEye (r : Nat) : Nat := fld r 87 80
def HbmTraining.wrEye (r : Nat) : Nat := fld r 79 72
def HbmTraining.vrefMargin (r : Nat) : Nat := fld r 71 64

/-! HbmRegions (R502) -/
def HbmRegions.kind (r : Nat) : Nat := fld r 127 125
def HbmRegions.hostAccess (r : Nat) : Nat := fld r 124 123
def HbmRegions.base (r : Nat) : Nat := fld r 34 0

/-! HbmRepairs (R493) -/
def HbmRepairs.hardUsed (r : Nat) : Nat := fld r 63 48
def HbmRepairs.hardLeft (r : Nat) : Nat := fld r 47 32
def HbmRepairs.softActive (r : Nat) : Nat := fld r 31 16
def HbmRepairs.banksExhausted (r : Nat) : Nat := fld r 15 8

/-! LaneEyeMargin (R502) -/
def LaneEyeMargin.horizontal (r : Nat) : Nat := fld r 31 16
def LaneEyeMargin.vertical (r : Nat) : Nat := fld r 15 0

/-! PoolQuotas (R504) -/
def PoolQuotas.quota3 (r : Nat) : Nat := fld r 127 96
def PoolQuotas.quota2 (r : Nat) : Nat := fld r 95 64
def PoolQuotas.quota1 (r : Nat) : Nat := fld r 63 32
def PoolQuotas.quota0 (r : Nat) : Nat := fld r 31 0

/-! SweepSets (R514) -/
def SweepSets.valid (r : Nat) : Nat := fld r 127 127
def SweepSets.target (r : Nat) : Nat := fld r 126 126
def SweepSets.overwrite (r : Nat) : Nat := fld r 125 125
def SweepSets.periodTicks (r : Nat) : Nat := fld r 124 108
def SweepSets.phaseTicks (r : Nat) : Nat := fld r 107 92
def SweepSets.base4k (r : Nat) : Nat := fld r 91 40
def SweepSets.size4k (r : Nat) : Nat := fld r 39 20

/-! SweepSelect (R510) -/
def SweepSelect.valid (r : Nat) : Nat := fld r 63 63
def SweepSelect.repeat (r : Nat) : Nat := fld r 62 56
def SweepSelect.index (r : Nat) : Nat := fld r 55 40
def SweepSelect.stepLog2 (r : Nat) : Nat := fld r 39 36
def SweepSelect.first (r : Nat) : Nat := fld r 35 18
def SweepSelect.count (r : Nat) : Nat := fld r 17 0

/-! SweepCatalog (R522) -/
def SweepCatalog.index (r : Nat) : Nat := fld r 63 48
def SweepCatalog.table (r : Nat) : Nat := fld r 47 47
def SweepCatalog.count (r : Nat) : Nat := fld r 31 0

/-! EventFilters (R516) -/
def EventFilters.valid (r : Nat) : Nat := fld r 127 127
def EventFilters.kindMask (r : Nat) : Nat := fld r 126 111
def EventFilters.privMask (r : Nat) : Nat := fld r 110 106
def EventFilters.masterAny (r : Nat) : Nat := fld r 105 105
def EventFilters.master (r : Nat) : Nat := fld r 104 97
def EventFilters.fclassMask (r : Nat) : Nat := fld r 96 90
def EventFilters.indexLo (r : Nat) : Nat := fld r 89 74
def EventFilters.indexHi (r : Nat) : Nat := fld r 73 58
def EventFilters.rowLo (r : Nat) : Nat := fld r 57 34
def EventFilters.rowHi (r : Nat) : Nat := fld r 33 10

/-! EventTrace (R517) -/
def EventTrace.sourceSeq (r : Nat) : Nat := fld r 255 240
def EventTrace.acqStep (r : Nat) : Nat := fld r 239 239
def EventTrace.kind (r : Nat) : Nat := fld r 238 235
def EventTrace.priv (r : Nat) : Nat := fld r 234 232
def EventTrace.master (r : Nat) : Nat := fld r 231 224
def EventTrace.status (r : Nat) : Nat := fld r 223 216
def EventTrace.fclass (r : Nat) : Nat := fld r 215 213
def EventTrace.index (r : Nat) : Nat := fld r 207 192
def EventTrace.row (r : Nat) : Nat := fld r 191 168
def EventTrace.opcode (r : Nat) : Nat := fld r 167 160
def EventTrace.length (r : Nat) : Nat := fld r 159 128
def EventTrace.detail (r : Nat) : Nat := fld r 127 96
def EventTrace.time (r : Nat) : Nat := fld r 95 0

/-! ActionSampleConfig (R519) -/
def ActionSampleConfig.enable (r : Nat) : Nat := fld r 63 63
def ActionSampleConfig.n (r : Nat) : Nat := fld r 62 39
def ActionSampleConfig.bindingLo (r : Nat) : Nat := fld r 38 27
def ActionSampleConfig.bindingHi (r : Nat) : Nat := fld r 26 15

/-! PortBandwidth (R521) -/
def PortBandwidth.rxKbps (r : Nat) : Nat := fld r 127 96
def PortBandwidth.txKbps (r : Nat) : Nat := fld r 95 64
def PortBandwidth.rxLoad (r : Nat) : Nat := fld r 63 44
def PortBandwidth.txLoad (r : Nat) : Nat := fld r 43 24
def PortBandwidth.valid (r : Nat) : Nat := fld r 23 23

/-! FaultReactions (R526) -/
def FaultReactions.capture (r : Nat) : Nat := fld r 63 63
def FaultReactions.irq (r : Nat) : Nat := fld r 62 62
def FaultReactions.faultN (r : Nat) : Nat := fld r 61 61
def FaultReactions.yardSafe (r : Nat) : Nat := fld r 60 60
def FaultReactions.portShut (r : Nat) : Nat := fld r 59 59
def FaultReactions.reset (r : Nat) : Nat := fld r 58 56

/-! FaultCounts (R539) -/
def FaultCounts.count (r : Nat) : Nat := fld r 63 0

/-! FaultLog (R531) -/
def FaultLog.sourceSeq (r : Nat) : Nat := fld r 255 240
def FaultLog.acqStep (r : Nat) : Nat := fld r 239 239
def FaultLog.lost (r : Nat) : Nat := fld r 238 238
def FaultLog.class (r : Nat) : Nat := fld r 237 235
def FaultLog.access (r : Nat) : Nat := fld r 234 233
def FaultLog.captured (r : Nat) : Nat := fld r 232 232
def FaultLog.master (r : Nat) : Nat := fld r 231 224
def FaultLog.source (r : Nat) : Nat := fld r 223 208
def FaultLog.reactions (r : Nat) : Nat := fld r 207 200
def FaultLog.addr (r : Nat) : Nat := fld r 159 96
def FaultLog.time (r : Nat) : Nat := fld r 95 0

/-! AonComparators (R562) -/
def AonComparators.valid (r : Nat) : Nat := fld r 63 63
def AonComparators.wakeEn (r : Nat) : Nat := fld r 62 62
def AonComparators.lowMv (r : Nat) : Nat := fld r 61 51
def AonComparators.highMv (r : Nat) : Nat := fld r 50 40
def AonComparators.hystMv (r : Nat) : Nat := fld r 39 32
def AonComparators.samples (r : Nat) : Nat := fld r 31 24

/-! TimeAlarms (R562) -/
def TimeAlarms.valid (r : Nat) : Nat := fld r 127 127
def TimeAlarms.wakeEn (r : Nat) : Nat := fld r 126 126
def TimeAlarms.fired (r : Nat) : Nat := fld r 125 125
def TimeAlarms.time (r : Nat) : Nat := fld r 95 0

end Sys2Proof.Machine.Row
end

