-- ==== Sys2Proof/Machine/Catalog.lean ====
section
/-!
DEFINITION. The sweep catalogue (R506, R522): which entries and TABLEs hold counters, and the words of a sweep record.
-/
namespace Sys2Proof.Machine

/-- U32 and U64 entries with access RO or RC that are levels, settings or low-water marks, not counters, as (index, sub-index). -/
def catalogLevels : List (Nat × Nat) := [
  (0x2000, 0x01), (0x0280, 0x02), (0x0280, 0x03), (0x0280, 0x04), (0x0280, 0x05), (0x3501, 0x01), (0x3501, 0x02), (0x3501, 0x03),
  (0x3604, 0x01), (0x3781, 0x01), (0x4000, 0x01), (0x4000, 0x02), (0x4000, 0x03), (0x4000, 0x04), (0x4000, 0x05), (0x4000, 0x06),
  (0x4000, 0x07), (0x4000, 0x08), (0x4060, 0x03), (0x4608, 0x01), (0x6001, 0x05), (0x7010, 0x05), (0x7800, 0x03), (0x8000, 0x01),
  (0x8000, 0x02), (0x8820, 0x01), (0x8820, 0x02), (E.FreeCellsLow / 256, E.FreeCellsLow % 256)]

/-- Indices of which no entry is a counter, for the same reason. -/
def catalogLevelIdx : List Nat := [0x3401, 0x7002, 0x7035, 0x7850, 0x7861, 0x8003, E.PoolLow 0 / 256]

/-- Whether a line of the entry tables holds counters (R506). -/
def EntrySpec.counts (e : EntrySpec) : Bool :=
  (e.ty == .u32 || e.ty == .u64) && (e.acc == .ro || e.acc == .rc) && decide (0x0200 ≤ e.idx) && decide (e.idx < 0x9000) &&
    !catalogLevels.contains (e.idx, e.subLo) && !catalogLevelIdx.contains e.idx

/-- The RO TABLEs whose row fields are all counters (R506). -/
def catalogTables : List Nat := [
  T.RecoveryCounters, T.ActionCounters, T.QueueDrops, T.PortBufferCounters, T.QueueTxCounters, T.StreamCounters, T.MeterCounters,
  T.QueueHistograms, T.StartGroupCounters, T.YardLineCounters, T.PpCounters, T.SetpointWordCounters, T.SampleGroupCounters,
  T.PaddockCounters, T.FaultCounts]

/-- Whether index:sub is a counter entry. -/
def isCounter (idx sub : Nat) : Bool := entrySpecs.any fun e => e.counts && e.covers idx sub

/-- The fields of a row of TABLE t from its most significant end, as (least significant bit, width) (R511). -/
def rowFields (t : Nat) : List (Nat × Nat) :=
  ((tableOf t).bind fun s => (rowLayouts[s.layout]?).map (·.2)).getD []

/-- The body words of the section that entry idx of a SweepSelect row makes (R511). -/
def sectionWords (idx count : Nat) : Nat :=
  if catalogTables.contains idx then count * (rowFields idx).length else count

/-- Whether a section may be swept (R510). -/
def sectionOk (idx first count : Nat) : Bool :=
  if catalogTables.contains idx then decide (first + count ≤ ((tableOf idx).map (·.cap)).getD 0)
  else (List.range count).all fun i => isCounter idx (first + i)

/-- The entries that a SweepSelect row names. -/
def selectIndices (r : Nat) : List Nat :=
  (List.range (Row.SweepSelect.repeat r + 1)).map fun k => Row.SweepSelect.index r + k * 2 ^ Row.SweepSelect.stepLog2 r

/-- Whether a SweepSelect row may be written (R510). -/
def selectOk (r : Nat) : Bool :=
  Row.SweepSelect.valid r == 0 || (Row.SweepSelect.count r != 0 && decide (Row.SweepSelect.stepLog2 r ≤ 8) &&
    (selectIndices r).all fun i => sectionOk i (Row.SweepSelect.first r) (Row.SweepSelect.count r))

/-- The valid SweepSelect rows of set s, in row order. -/
def Dev.sweepRows (d : Dev) (s : Nat) : List Nat :=
  ((List.range 32).map fun i => d.row T.SweepSelect (32 * s + i)).filter fun r => Row.SweepSelect.valid r == 1

/-- The words of set s's record (R511). -/
def Dev.recordWords (d : Dev) (s : Nat) : Nat :=
  7 + ((d.sweepRows s).map fun r =>
    ((selectIndices r).map fun i => 2 + sectionWords i (Row.SweepSelect.count r)).sum).sum

/-- Whether set s is valid. -/
def Dev.sweepValid (d : Dev) (s : Nat) : Bool := Row.SweepSets.valid (d.row T.SweepSets s) == 1

/-- The record words of all valid sets together (R509). -/
def Dev.sweepWords (d : Dev) : Nat := (((List.range 8).filter d.sweepValid).map d.recordWords).sum

/-- A row of SweepCatalog: one per index, with its sub-indices or rows (R522). -/
def catalogRow (idx : Nat) (table : Bool) (n : Nat) : Nat := idx * 2 ^ 48 + table.toNat * 2 ^ 47 + n

/-- One counter index with its highest counter sub-index merged into the list. -/
def catalogMerge (idx sub : Nat) : List (Nat × Nat) → List (Nat × Nat)
  | [] => [(idx, sub)]
  | (i, s) :: l => if i = idx then (i, max s sub) :: l else if idx < i then (idx, sub) :: (i, s) :: l else (i, s) :: catalogMerge idx sub l

/-- The rows of SweepCatalog in rising order of index, scalar entries first. -/
def catalog : List Nat :=
  let scal := entrySpecs.foldl (fun (l : List (Nat × Nat)) e =>
    if e.counts then (List.range e.n).foldl (fun l i => catalogMerge (e.idx + i * e.step) e.subHi l) l else l) []
  (scal.map fun e => catalogRow e.1 false e.2) ++
    catalogTables.map fun t => catalogRow t true (((tableOf t).map (·.cap)).getD 0)

end Sys2Proof.Machine
end

