-- ==== Sys2Proof/Machine/Parse.lean ====
section
/-!
DEFINITION. The parser and the classification key (R139 to R147): a frame is its bytes from the destination address to the last byte
before the FCS.
-/
namespace Sys2Proof.Machine

/-- A recognised tag of the tag region: 0 VLAN, 1 R-tag, 2 HSR tag, with the offset of its EtherType (R141). -/
structure Tag where
  kind : Nat
  off  : Nat
  deriving DecidableEq, Repr

/-- What the parser finds (R140 to R147). `tags` in order from the outermost; `typeOff` is the offset of the EtherType that ends the tag
region; `l3`, `l4` the offsets of those headers; `l4Len` the length of a complete L4 header; `ptpOff` that of a PTP header. -/
structure Parsed where
  flags   : Nat := 0
  tags    : List Tag := []
  typeOff : Nat := 12
  etype   : Nat := 0
  ends    : Bool := false
  kind    : Nat := 0
  l3      : Nat := 0
  dscp    : Nat := 0
  ecn     : Nat := 0
  proto   : Nat := 0
  sip     : Nat := 0
  dip     : Nat := 0
  flow    : Nat := 0
  l4      : Option Nat := none
  l4Len   : Option Nat := none
  sport   : Nat := 0
  dport   : Nat := 0
  tcp     : Nat := 0
  ptpOff  : Option Nat := none
  deriving DecidableEq, Repr

/-- The parse window: the first min(L, 256) bytes, without the FCS (R139). -/
def window (f : Bytes) : Bytes := f.take 256

/-- Set flag bit b. -/
def Parsed.flag (b : Nat) (p : Parsed) : Parsed := { p with flags := setBit p.flags b true }

/-- Whether flag bit b is set. -/
def Parsed.has (p : Parsed) (b : Nat) : Bool := bit p.flags b

/-- Set the flags of a mask. -/
def Parsed.cut (m : Nat) (p : Parsed) : Parsed := { p with flags := p.flags ||| m }

/-- The flags of a header that ends at offset e of a frame of n bytes, none where it is complete: TRUNC where the frame ends before, DEPTH
where a window shorter than the frame does (R139, R143, R144). -/
def cutFlag (n e : Nat) : Option Nat :=
  let m := (if n < e then 2 ^ 15 else 0) + if 256 < e ∧ 256 < n then 2 ^ 14 else 0
  if m = 0 then none else some m

/-- Count the tags of a kind. -/
def Parsed.count (p : Parsed) (k : Nat) : Nat := (p.tags.filter fun t => t.kind == k).length

/-- The tag kind of an EtherType (R140). -/
def tagKind (extra t : Nat) : Option Nat :=
  if t = 0x8100 ∨ t = 0x88A8 ∨ t = 0x9100 ∨ (t = extra ∧ extra ≠ 0) then some 0
  else if t = 0xF1C1 then some 1 else if t = 0x892F then some 2 else none

/-- Bytes of a tag: EtherType and TCI, or EtherType and four bytes ending in the sequence number. -/
def tagLen (k : Nat) : Nat := if k = 0 then 4 else 6

/-- The tag region from offset o (R141). -/
def parseTags (w : Bytes) (n extra : Nat) : Nat → Nat → Parsed → Parsed
  | 0, _, p => p
  | fuel + 1, o, p =>
    let p := { p with typeOff := o }
    match cutFlag n (o + 2) with
    | some m => { p.cut m with ends := true }
    | none =>
      let t := beAt w o 2
      match tagKind extra t with
      | none => if t < 0x600 then { p.flag 0 with etype := t, ends := true } else { p with etype := t }
      | some k =>
        if p.count k ≥ (if k = 0 then 3 else 1) then { p.flag 9 with etype := t, ends := true }
        else match cutFlag n (o + tagLen k) with
          | some m => { p.cut m with ends := true }
          | none =>
            let p := { p with tags := p.tags ++ [{ kind := k, off := o }] }
            let p := if k = 1 then p.flag 7 else if k = 2 then p.flag 6 else p
            parseTags w n extra fuel (o + tagLen k) p

/-- The one's complement sum of 16-bit words, folded. -/
def sum16 : Bytes → Nat
  | a :: b :: l =>
    let s := a.toNat * 256 + b.toNat + sum16 l
    s % 65536 + s / 65536
  | [a] => a.toNat * 256
  | [] => 0

/-- The L4 header at offset o for protocol number pr (R140, R144). -/
def parseL4 (w : Bytes) (n o pr : Nat) (p : Parsed) : Parsed :=
  let len := if pr = 17 then 8 else if pr = 6 then 20 else if pr = 1 ∨ pr = 58 then 4 else 0
  if len = 0 then p
  else match cutFlag n (o + len) with
    | some m => p.cut m
    | none =>
      let p := p.flag 2
      if len = 4 then { p with sport := beAt w o 2, dport := 0, l4Len := some 4 }
      else if len = 8 then { p with sport := beAt w o 2, dport := beAt w (o + 2) 2, l4Len := some 8 }
      else
        let d := beAt w (o + 12) 1 / 16
        { p with sport := beAt w o 2, dport := beAt w (o + 2) 2, tcp := beAt w (o + 13) 1,
                 l4Len := if d < 5 then none else some (d * 4) }

/-- IPv4 at offset o (R143, R144). -/
def parseIp4 (w : Bytes) (n o : Nat) (p : Parsed) : Parsed :=
  let p := { p with kind := 1, l3 := o }
  if n < o + 1 then p.flag 15
  else
    let v := beAt w o 1
    let hl := v % 16 * 4
    let fields (p : Parsed) : Parsed :=
      { p with dscp := beAt w (o + 1) 1 / 4, ecn := beAt w (o + 1) 1 % 4, proto := beAt w (o + 9) 1,
               sip := beAt w (o + 12) 4, dip := beAt w (o + 16) 4 }
    let p := if v % 16 > 5 then p.flag 1 else p
    let fr := beAt w (o + 6) 2
    let off := fr % 8192
    let frag (p : Parsed) : Parsed := if off = 0 ∧ bit fr 13 then p.flag 13 else if off ≠ 0 then p.flag 12 else p
    if v / 16 ≠ 4 ∨ v % 16 < 5 then (frag (fields p)).flag 8
    else match cutFlag n (o + hl) with
      | some m => p.cut m
      | none =>
        let p := frag (fields p)
        if sum16 (slice w o hl) ≠ 65535 ∨ beAt w (o + 2) 2 < hl then p.flag 8
        else if off ≠ 0 then p
        else
          let p := if o + hl < n then { p with l4 := some (o + hl) } else p
          parseL4 w n (o + hl) p.proto p

/-- IPv6 extension headers from offset o with next header nh; fuel is the number still allowed (R140, R144). -/
def parseExt (w : Bytes) (n : Nat) : Nat → Nat → Nat → Parsed → Parsed
  | fuel, o, nh, p =>
    let p := { p with proto := nh }
    if [135, 139, 140, 253, 254].contains nh then
      let p := p.flag 11
      if o < n then { p with l4 := some o } else p
    else if !([0, 43, 44, 51, 60].contains nh) then
      let p := if o < n then { p with l4 := some o } else p
      parseL4 w n o nh p
    else match fuel with
      | 0 =>
        let p := p.flag 10
        if o < n then { p with l4 := some o } else p
      | fuel + 1 =>
        match cutFlag n (o + 2) with
        | some m => p.cut m
        | none =>
          let l := beAt w (o + 1) 1
          let len := if nh = 44 then 8 else if nh = 51 then (l + 2) * 4 else (l + 1) * 8
          match cutFlag n (o + len) with
          | some m => p.cut m
          | none =>
            let nx := beAt w o 1
            if nh = 44 then
              let fr := beAt w (o + 2) 2
              if fr / 8 ≠ 0 then { p with proto := nx }.flag 12
              else parseExt w n fuel (o + len) nx (if fr % 2 = 1 then p.flag 13 else p)
            else parseExt w n fuel (o + len) nx p

/-- IPv6 at offset o (R143, R144). -/
def parseIp6 (w : Bytes) (n o : Nat) (p : Parsed) : Parsed :=
  let p := { p with kind := 2, l3 := o }
  if n < o + 1 then p.flag 15
  else
    let fields (p : Parsed) : Parsed :=
      { p with dscp := beAt w o 2 / 64 % 64, ecn := beAt w o 2 / 16 % 4, proto := beAt w (o + 6) 1, flow := beAt w o 4 % 2 ^ 20,
               sip := beAt w (o + 8) 16, dip := beAt w (o + 24) 16 }
    if beAt w o 1 / 16 ≠ 6 then (fields p).flag 8
    else match cutFlag n (o + 40) with
      | some m => p.cut m
      | none => parseExt w n 4 (o + 40) (beAt w (o + 6) 1) (fields p)

/-- A PTP common header of 34 bytes at offset o. -/
def parsePtp (n o : Nat) (p : Parsed) : Parsed :=
  match cutFlag n (o + 34) with
  | some m => p.cut m
  | none => { p.flag 4 with ptpOff := some o }

/-- The parser (R139 to R144) on a frame's bytes, with ExtraTpid. -/
def parse (extra : Nat) (f : Bytes) : Parsed :=
  let n := f.length
  let w := window f
  let p := parseTags w n extra 8 12 {}
  let o := p.typeOff + 2
  let p := if p.ends then p
    else if p.etype = 0x0800 then parseIp4 w n o p
    else if p.etype = 0x86DD then parseIp6 w n o p
    else if p.etype = 0x88F7 then parsePtp n o p
    else if p.etype = 0x88B8 ∨ p.etype = 0x88BA then p.flag 3
    else p
  let p := match p.l4, p.l4Len with
    | some l4, some len => if p.proto = 17 ∧ (p.dport = 319 ∨ p.dport = 320) then parsePtp n (l4 + len) p else p
    | _, _ => p
  if n + 4 ≤ 256 ∧ 14 ≤ n ∧ beAt w (n - 2) 2 = 0x88FB then p.flag 5 else p

/-- The TCI of the i-th VLAN tag, 0 where absent. -/
def Parsed.vlan (p : Parsed) (w : Bytes) (i : Nat) : Nat :=
  match (p.tags.filter fun t => t.kind == 0)[i]? with
  | some t => beAt w (t.off + 2) 2
  | none => 0

/-- The sequence number of the R-tag, or of the HSR tag where there is no R-tag (R146). -/
def Parsed.seqNum (p : Parsed) (w : Bytes) : Nat :=
  match p.tags.find? fun t => t.kind == 1 with
  | some t => beAt w (t.off + 4) 2
  | none => match p.tags.find? fun t => t.kind == 2 with
    | some t => beAt w (t.off + 4) 2
    | none => 0

/-- The bytes of the tags the parser recognises, the PRP trailer included (R127). -/
def Parsed.tagBytes (p : Parsed) : Nat := (p.tags.map fun t => tagLen t.kind).sum + (if p.has 5 then 6 else 0)

/-- A user-defined field by a UdfDef word (R147). -/
def Parsed.udf (p : Parsed) (w : Bytes) (df : Nat) : Nat :=
  let off := fld df 15 8
  let a := match fld df 31 29 with
    | 0 => some 0
    | 1 => if p.kind = 0 then none else some p.l3
    | 2 => p.l4
    | 3 => match p.l4, p.l4Len with
      | some o, some n => if p.has 2 then some (o + n) else none
      | _, _ => none
    | _ => none
  match a with
  | some a => beAt w (a + off) 4
  | none => 0

/-- What the frame brings beside its bytes: ingress port and the low bits of the tick of its ingress timestamp. -/
def keyOf (p : Parsed) (w : Bytes) (port label tickLow udf0 udf1 : Nat) : Nat :=
  let ptp := match p.ptpOff with
    | some o => beAt w o 1 % 16 * 2 ^ 12 + beAt w o 1 / 16 * 2 ^ 8 + beAt w (o + 4) 1
    | none => 0
  let appid := if p.has 3 then beAt w (p.typeOff + 2) 2 else 0
  port * 2 ^ 633 + label * 2 ^ 625 + p.flags * 2 ^ 609 + min 3 (p.count 0) * 2 ^ 607 + beAt w 0 6 * 2 ^ 559 + beAt w 6 6 * 2 ^ 511 +
    p.etype * 2 ^ 495 + p.vlan w 0 * 2 ^ 479 + p.vlan w 1 * 2 ^ 463 + p.vlan w 2 * 2 ^ 447 + p.seqNum w * 2 ^ 431 + ptp * 2 ^ 415 +
    appid * 2 ^ 399 + udf0 * 2 ^ 367 + udf1 * 2 ^ 335 + tickLow % 256 * 2 ^ 327 + p.kind * 2 ^ 318 + p.dscp * 2 ^ 312 + p.ecn * 2 ^ 310 +
    p.proto * 2 ^ 302 + p.sip * 2 ^ 174 + p.dip * 2 ^ 46 + p.sport * 2 ^ 30 + p.dport * 2 ^ 14 + p.tcp * 2 ^ 6

/-- Key byte b, for b = 0 to 79 (R145). -/
def keyByte (k b : Nat) : Nat := fld k (639 - 8 * b) (632 - 8 * b)

end Sys2Proof.Machine
end

