-- ==== Sys2Proof/Machine/Classify.lean ====
section
/-!
DEFINITION. Classification (R148 to R170): port profiles, decision trees, the associative array, the result word, hashing and
indirection. `c` is the view of the device whose epoch the frame takes (R163).
-/
namespace Sys2Proof.Machine

/-! ### CRC-32C (R168) -/

/-- One bit of the reflected Castagnoli polynomial. -/
def crcBit (c : Nat) : Nat := if c % 2 = 1 then (c / 2) ^^^ 0x82F63B78 else c / 2

/-- One byte. -/
def crcByte (c b : Nat) : Nat := crcBit (crcBit (crcBit (crcBit (crcBit (crcBit (crcBit (crcBit (c ^^^ b))))))))

/-- CRC-32C of bytes from an initial value, with final XOR (R168). -/
def crc32c (seed : Nat) (b : Bytes) : Nat := (b.foldl (fun c x => crcByte c x.toNat) seed) ^^^ 0xFFFFFFFF

/-! ### What a search finds beside its result -/

/-- The notes of a classification: counters to add to, and words with bad parity that were read, as (TABLE, row). -/
structure Notes where
  adds : List (Nat × Nat) := []
  bad  : List (Nat × Nat) := []
  deriving DecidableEq, Repr

/-- Both notes. -/
def Notes.join (a b : Notes) : Notes := { adds := a.adds ++ b.adds, bad := a.bad ++ b.bad }

/-- Whether the word at a row of a TABLE has bad parity. -/
def Dev.isBad (c : Dev) (t i : Nat) : Bool := c.net.bad.contains (t, i)

/-- The pipeline whose L2 table a TABLE index is. -/
def l2Pl (t : Nat) : Option Nat := (List.range 8).find? fun pl => T.L2Rows pl == t

/-- Whether row i of TABLE t is a learned L2 row, which needs no shadow (R210). -/
def Dev.learnedRow (d : Dev) (t i : Nat) : Bool :=
  (l2Pl t).isSome && Row.L2Rows.valid (d.row t i) == 1 && Row.L2Rows.static (d.row t i) == 0

/-- Whether TABLE t holds words of classification, whose bad parity R167 governs. -/
def classTable (t : Nat) : Bool := decide (T.AssocRows ≤ t) && decide (t ≤ T.TreeSetsAll)

/-- A row read in pipeline pl by a master with an access has bad parity (R167, R209, R210): class C, and a place among the 64 that wait for
repair; without a shadow class U, for a word of classification in place of class C. A row of LpmRoutes has the pair of its copy above bit 20. -/
def Dev.foundBadBy (pl master access t i : Nat) (d : Dev) : Dev :=
  let info := t * 2 ^ 32 + i % 2 ^ 20
  let repairs := d.hbmUp || d.learnedRow t i
  let q := d.net.repair.getD pl []
  let q' := if !repairs || q.contains (t, i) || decide (64 ≤ q.length) then q else q ++ [(t, i)]
  let d := d.cond repairs fun d => { d with net := { d.net with repair := d.net.repair.set pl q' } }
  let d := d.cond (repairs || !classTable t) (Dev.reportBy Src.tableParity info master access)
  d.cond (!repairs) (Dev.reportBy Src.tableNoShadow info master access)

/-- A row read by a frame's lookup or classification has bad parity: no access of a master is involved (R529). -/
def Dev.foundBad (pl t i : Nat) (d : Dev) : Dev := d.foundBadBy pl 0x00 3 t i

/-- A lookup of pipeline pl reads row i of TABLE t: bad parity raises its faults (R209). -/
def Dev.readBad (pl t i : Nat) (d : Dev) : Dev := d.cond (d.isBad t i) (Dev.foundBad pl t i)

/-! ### Decision trees (R150 to R154) -/

/-- How a walk ends. -/
inductive Walk where
  | leaf (node : Nat) | miss | error | bad (node : Nat)
  deriving DecidableEq, Repr

/-- The walk from a node of pair k's memory with fuel node reads left (R153). -/
def treeWalk (c : Dev) (k cv : Nat) : Nat → Nat → Walk
  | 0, _ => .error
  | fuel + 1, n =>
    if c.isBad (T.TreeNodes k) n then .bad n
    else
      let w := c.row (T.TreeNodes k) n
      match Row.TreeNodes.type w with
      | 1 =>
        let lo := Row.TreeNodes.cutLsb w
        let v := fld cv (lo + Row.TreeNodes.cutWidth w) lo
        if fuel = 0 then .error else treeWalk c k cv fuel (Row.TreeNodes.childBase w + v)
      | 2 => .leaf w
      | _ => .miss

/-- Whether rule r matches (R154). -/
def ruleMatches (r tk a b : Nat) : Bool :=
  Row.TreeRules.valid r == 1 && ((tk ^^^ Row.TreeRules.value r) &&& Row.TreeRules.care r) == 0 &&
    decide (Row.TreeRules.aLo r ≤ a) && decide (a ≤ Row.TreeRules.aHi r) &&
    decide (Row.TreeRules.bLo r ≤ b) && decide (b ≤ Row.TreeRules.bHi r)

/-- The tree key of a set descriptor (R151). -/
def treeKey (desc k : Nat) : Nat :=
  (List.range 20).foldl (fun acc j => acc + keyByte k (fld (Row.TreeSets.keySelect desc) (7 * j + 6) (7 * j)) * 2 ^ (8 * j)) 0

/-- The tree search of set n in pair k (R150 to R154): the result word of the lowest matching rule. -/
def treeSearch (c : Dev) (k n key : Nat) : Option Nat × Notes :=
  let desc := c.row T.TreeSets (k * 16 + n)
  if Row.TreeSets.valid desc = 0 then (none, {})
  else
    let ra := Row.TreeSets.rangeALsb desc
    let rb := Row.TreeSets.rangeBLsb desc
    let a := fld key (ra + 15) ra
    let b := fld key (rb + 15) rb
    let tk := treeKey desc key
    match treeWalk c k (a * 2 ^ 176 + b * 2 ^ 160 + tk) 12 (Row.TreeSets.root desc) with
    | .miss => (none, {})
    | .error => (none, { adds := [(E.TreeWalkErrors k, 1)] })
    | .bad n => (none, { bad := [(T.TreeNodes k, n)] })
    | .leaf w =>
      let l := fld w 58 43
      if c.isBad (T.TreeLists k) l then (none, { bad := [(T.TreeLists k, l)] })
      else
        let word := c.row (T.TreeLists k) l
        let rules := (List.range (fld w 61 59 + 1)).map fun e => fld word (17 * e + 16) (17 * e)
        let bad := rules.filter fun r => c.isBad (T.TreeRules k) r
        let hits := rules.filter fun r => !c.isBad (T.TreeRules k) r && ruleMatches (c.row (T.TreeRules k) r) tk a b
        let best := hits.foldl (fun m r => match m with
          | none => some r
          | some m => some (min m r)) none
        (best.map fun r => Row.TreeRules.result (c.row (T.TreeRules k) r), { bad := bad.map fun r => (T.TreeRules k, r) })

/-! ### The associative array (R155 to R158) -/

/-- Whether bank b takes part in a search with pre-filter key p (R157). -/
def bankTakesPart (c : Dev) (wide : Bool) (p b : Nat) : Bool :=
  ((p ^^^ c.get (E.BankTag b)) &&& c.get (E.BankMask b)) == 0 && (c.getB (E.BankWide b) == wide)

/-- Whether half a row's compare matches (R158). -/
def halfMatches (row key mask : Nat) : Bool :=
  ((key ^^^ Row.AssocRows.value row) &&& Row.AssocRows.care row &&& mask) == 0

/-- The associative search of pipeline pl with a profile (R155 to R158): the result of the lowest matching row. Rows that are not stored
have EPOCH_VALID 0 and cannot match. -/
def assocSearch (c : Dev) (pl prof key epoch : Nat) : Option Nat × Notes :=
  let width := Row.SearchProfiles.width prof
  let pf := Row.SearchProfiles.pfByte prof
  let p := if pf = 127 then Row.SearchProfiles.pfConst prof else keyByte key pf
  let gm := Row.SearchProfiles.globalMask prof
  let wide := width == 2
  let banks := (List.range 32).filter (bankTakesPart c wide p)
  let base := T.AssocRows * 2 ^ 20 + pl * 8192
  let stored := (c.dict.rows.between base (base + 8192)).map fun e => (e.1 - base, e.2)
  let part := stored.filter fun e => banks.contains (e.1 / 256)
  let isBad (n : Nat) := c.isBad T.AssocRows (pl * 8192 + n)
  let live := part.filter fun e => bit (Row.AssocRows.epochValid e.2) epoch
  let hit (e : Nat × Nat) : Bool :=
    if wide then e.1 % 2 == 0 && !isBad e.1 && !isBad (e.1 + 1) && halfMatches e.2 (key / 2 ^ 320) (gm / 2 ^ 320) &&
      halfMatches (c.row T.AssocRows (pl * 8192 + e.1 + 1)) (key % 2 ^ 320) (gm % 2 ^ 320)
    else if width = 0 then !isBad e.1 && halfMatches e.2 (key / 2 ^ 320) (gm / 2 ^ 320)
    else !isBad e.1 && halfMatches e.2 (key % 2 ^ 320) (gm % 2 ^ 320)
  let bad := (c.net.bad.filter fun b => b.1 == T.AssocRows && decide (pl * 8192 ≤ b.2) && decide (b.2 < pl * 8192 + 8192) &&
    banks.contains ((b.2 - pl * 8192) / 256))
  ((live.find? hit).map fun e => Row.AssocRows.result e.2,
   { adds := [(E.AssocBanksSearched pl, banks.length)], bad })

/-! ### Results (R160 to R162) -/

/-- Fields of a result word (R160). -/
def resPriority (r : Nat) : Nat := fld r 63 60

/-- The winner of both engines (R161). -/
def resultWinner (tree assoc : Option Nat) : Option Nat :=
  match tree, assoc with
  | some t, some a => if resPriority t > resPriority a then some t else some a
  | some t, none => some t
  | none, a => a

/-- A field of the winner where its valid bit is set, else of the default where set, else the fallback (R162). -/
def resultField {α : Type} (win : Option Nat) (dflt : Nat) (valid : Nat) (get : Nat → α) (other : α) : α :=
  match win with
  | some w => if bit w valid then get w else if bit dflt valid then get dflt else other
  | none => if bit dflt valid then get dflt else other

/-! ### Hashing and indirection (R168 to R170) -/

/-- The hash fields of a key in bit order: number, bytes, value (R168). -/
def hashField (key flow i : Nat) : Nat × Nat :=
  let frag := bit (fld key 624 609) 12 || bit (fld key 624 609) 13
  match i with
  | 0 => (1, fld key 639 633)
  | 1 => (6, fld key 606 559)
  | 2 => (6, fld key 558 511)
  | 3 => (2, fld key 510 495)
  | 4 => (2, fld key 490 479)
  | 5 => (2, fld key 474 463)
  | 6 => (16, fld key 301 174)
  | 7 => (16, fld key 173 46)
  | 8 => (1, fld key 309 302)
  | 9 => (2, if frag then 0 else fld key 45 30)
  | 10 => (2, if frag then 0 else fld key 29 14)
  | 11 => (3, flow)
  | 12 => (4, fld key 398 367)
  | 13 => (4, fld key 366 335)
  | 14 => (2, fld key 414 399)
  | _ => (1, fld key 317 312)

/-- The value of field i after the ordering of R169. -/
def hashValue (key flow sel i : Nat) (sym : Bool) : Nat × Nat :=
  let pair (a b : Nat) : Nat × Nat :=
    let x := hashField key flow a
    let y := hashField key flow b
    if sym && bit sel a && bit sel b then
      if i = a then (x.1, min x.2 y.2) else (y.1, max x.2 y.2)
    else if i = a then x else y
  match i with
  | 1 | 2 => pair 1 2
  | 6 | 7 => pair 6 7
  | 9 | 10 => pair 9 10
  | _ => hashField key flow i

/-- The hash h of profile n (R168, R169). -/
def hashOf (c : Dev) (key flow n : Nat) : Nat :=
  let sel := c.get (E.HashFields n)
  let b := (List.range 16).flatMap fun i =>
    if bit sel i then
      let (w, v) := hashValue key flow sel i (c.getB (E.HashSymmetric n))
      toBE w v
    else []
  crc32c (c.get (E.HashSeed n)) b

/-- The spreading value (R170). -/
def spreadOf (c : Dev) (key flow prof table : Nat) : Nat :=
  let h := hashOf c key flow prof
  let idx := (h ^^^ (h / 2 ^ 12) ^^^ (h / 2 ^ 24)) &&& 0xfff
  c.row T.Indirection (table * 4096 + idx)

/-! ### The whole stage -/

/-- The key of a frame (R145): parsed frame, ingress port and tick of the ingress timestamp. -/
def Dev.frameKey (c : Dev) (p : Parsed) (w : Bytes) (port tick : Nat) : Nat :=
  let pc := c.row T.PortClassify port
  let udfWord (i : Nat) : Nat := p.udf w (c.get (E.UdfDef i))
  keyOf p w port (Row.PortClassify.portLabel pc) (tick % 256) (udfWord (Row.PortClassify.udf0Def pc))
    (udfWord (Row.PortClassify.udf1Def pc))

/-- Classification of a frame with its key in pipeline pl (R148 to R162). -/
def Dev.classify (c : Dev) (p : Parsed) (w : Bytes) (port pl key : Nat) : Verdict × Notes :=
  let pc := c.row T.PortClassify port
  let prof := c.row T.SearchProfiles
    (if p.kind = 1 then Row.PortClassify.profileIp4 pc else if p.kind = 2 then Row.PortClassify.profileIp6 pc
      else Row.PortClassify.profileNonip pc)
  let (tree, n1) := if Row.SearchProfiles.treeEnable prof = 1 then treeSearch c (pl / 2) (Row.SearchProfiles.treeSet prof) key
    else (none, {})
  let (assoc, n2) := if Row.SearchProfiles.assocEnable prof = 1 then assocSearch c pl prof key (c.get E.AssocEpoch) else (none, {})
  let win := resultWinner tree assoc
  let dflt := Row.PortClassify.defaultResult pc
  let tagged := decide (1 ≤ p.count 0)
  let tci := p.vlan w 0
  let pcp := tci / 2 ^ 13
  let tc := resultField win dflt 59 (fun r => fld r 58 56)
    (if Row.PortClassify.trustPcp pc = 1 && tagged then fld (Row.PortClassify.pcpMap pc) (3 * pcp + 2) (3 * pcp) else 0)
  let colour := resultField win dflt 55 (fun r => fld r 54 53) (if Row.PortClassify.deiYellow pc = 1 && bit tci 12 then 1 else 0)
  let queue := resultField win dflt 52 (fun r => fld r 51 48) tc
  let binding := resultField win dflt 47 (fun r => some (fld r 46 35)) none
  let (hp, it) := resultField win dflt 34 (fun r => (fld r 33 30, fld r 29 24)) (0, 0)
  let adds := (if tree.isSome then [(E.TreeMatches pl, 1)] else []) ++ (if assoc.isSome then [(E.AssocMatches pl, 1)] else []) ++
    (if win.isNone then [(E.DefaultResults pl, 1)] else [])
  ({ tc, colour, queue, binding, tag := fld (win.getD dflt) 23 8, spread := spreadOf c key p.flow hp it },
   (n1.join n2).join { adds })

/-- Count what a search in pipeline pl noted: its counters, and each word with bad parity in the given counter (R167, R209). -/
def Dev.note (pl : Nat) (n : Notes) (parity : Nat) (d : Dev) : Dev :=
  let d := d.each n.adds fun (k, v) d => d.add k v
  d.each n.bad fun (t, i) d => (d.inc parity).foundBad pl t i

end Sys2Proof.Machine
end

