-- ==== Sys2Proof/Machine/PortBase.lean ====
section
/-!
DEFINITION. Where ports and lanes lie (R114 to R117) and what may hold a port: read by the buffer, the pipelines and the port
state machine.
-/
namespace Sys2Proof.Machine

/-- The pipeline of an external port (R114). -/
def plOf (p : Nat) : Nat := if p < 64 then p / 8 else (p - 64) / 4

/-- The internal state of port p. -/
def Dev.port (d : Dev) (p : Nat) : PortSt := d.ports.getD p {}

/-- Set the internal state of port p. -/
def Dev.setPort (p : Nat) (v : PortSt) (d : Dev) : Dev := { d with ports := d.ports.set p v }

/-- Port rate of a mode in Mb/s (R117). -/
def rateOf (mode : Nat) : Nat :=
  match mode with
  | 1 | 12 => 25000
  | 2 => 50000
  | 3 => 100000
  | 4 => 200000
  | 5 => 400000
  | 8 | 9 => 1000
  | 10 => 2500
  | 11 => 10000
  | _ => 0

/-- The rate of port p in Mb/s: of the mode in use, else of its PortMode. -/
def Dev.portRate (d : Dev) (p : Nat) : Nat :=
  let m := d.get (E.ResolvedMode p)
  let held := (d.port p).mode
  rateOf (if m ≠ 0 then m else if held ≠ 0 then held else d.get (E.PortMode p))

/-- Whether port p is UP (R121). -/
def Dev.portUp (d : Dev) (p : Nat) : Bool := d.get (E.PortState p) == 4

/-- The ports that port p absorbs in a mode (R115). -/
def absorbs (p mode : Nat) : List Nat :=
  if mode = 4 then [p + 1] else if mode = 5 then [p + 1, p + 2, p + 3] else []

/-- Whether the first lane of trunk port p is used by another port's wide mode, its PortMode or the one it has negotiated (R115, R119). -/
def Dev.absorbed (d : Dev) (p : Nat) : Bool :=
  decide (p < 64) && (List.range (p % 4)).any fun k =>
    let o := p - (k + 1)
    (absorbs o (d.get (E.PortMode o)) ++ absorbs o (d.port o).mode).contains p

/-- Whether a fault reaction has shut port p (R527). -/
def Dev.isShut (d : Dev) (p : Nat) : Bool := if p < 64 then bit (d.get E.PortShutLow) p else bit (d.get E.PortShutHigh) (p - 64)

/-- The external ports that shed mode keeps (R552). -/
def shedKeeps (p : Nat) : Bool := decide (p < 4) || (decide (64 ≤ p) && decide (p < 68))

/-- Whether port p is held DISABLED: by PortEnable, absorption, a shut, shed mode or a cascade lane test (R121, R420, R527, R552). -/
def Dev.portHeld (d : Dev) (p : Nat) : Bool :=
  !d.getB (E.PortEnable p) || d.absorbed p || d.isShut p || (d.get E.PowerMode != 0 && !shedKeeps p) || d.casc.held.contains p

/-- Whether port p is a tether port of an enabled pair (R396). -/
def Dev.isTether (d : Dev) (p : Nat) : Bool :=
  d.getB E.PairEnable && (p == d.get E.TetherPortA || p == d.get E.TetherPortB)

/-- A MAC capture on port p at x, referred to the balls on the way in (R95): RxLatency and RxTrim in ps, to the nearest 125 ps. -/
def Dev.ingressX (d : Dev) (p x : Nat) : Nat :=
  ((x : Int) - (((d.port p).rxPs : Int) + sgn 32 (d.get (E.RxTrim p)) + 62) / 125).toNat

/-- A MAC capture on port p at x, referred to the balls on the way out (R95). -/
def Dev.egressX (d : Dev) (p x : Nat) : Nat :=
  ((x : Int) + (((d.port p).txPs : Int) + sgn 32 (d.get (E.TxTrim p)) + 62) / 125).toNat

end Sys2Proof.Machine
end

