-- ==== Sys2Proof/Machine/Lookup.lean ====
section
/-!
DEFINITION. Forwarding tables (chapter 06): the L2, LPM and exact-match searches, sequence recovery, destinations and groups, and the
table operations that software makes. `c` is the view of the frame's epoch; `d` the device now.
-/
namespace Sys2Proof.Machine

/-! ### Destinations (R178, R180) -/

/-- The 16-bit destination of a port. -/
def destPort (p : Nat) : Nat := p

/-- DEST_KIND of a destination. -/
def destKind (x : Nat) : Nat := x / 2 ^ 14 % 4

/-- DEST of a destination. -/
def destOf (x : Nat) : Nat := x % 2 ^ 14

/-- Whether R178 refuses a destination. -/
def destRefused (x : Nat) : Bool :=
  match destKind x with
  | 0 => !(decide (destOf x ≤ 97) || destOf x == 99)
  | 1 => decide (127 < destOf x)
  | 2 => false
  | _ => destOf x != 0

/-- The members in use of a LagGroups row. -/
def lagMembers (row : Nat) : List Nat := (List.range (Row.LagGroups.count row + 1)).map fun i => fld row (7 * i + 6) (7 * i)

/-- The member of group g that R180 picks for a spreading value: the first UP port in cyclic order from SPREAD mod COUNT. -/
def Dev.lagPick (d : Dev) (g spread : Nat) : Option Nat :=
  let row := d.row T.LagGroups g
  if Row.LagGroups.valid row = 0 then none
  else
    let m := lagMembers row
    let k := spread % m.length
    (m.drop k ++ m.take k).find? fun p => d.portUp p

/-- Whether port p belongs to group g (R180). -/
def Dev.inLag (d : Dev) (p g : Nat) : Bool :=
  let b := d.row T.PortBridge p
  Row.PortBridge.lagValid b == 1 && Row.PortBridge.lag b == g

/-- The destination a frame from port p would learn (R181). -/
def Dev.learnDest (d : Dev) (p : Nat) : Nat :=
  let b := d.row T.PortBridge p
  if Row.PortBridge.lagValid b = 1 then 2 ^ 14 + Row.PortBridge.lag b else destPort p

/-- Whether a destination is a port that is not UP, or a group with no member UP (R184 rule 1). -/
def Dev.destDown (d : Dev) (x : Nat) : Bool :=
  match destKind x with
  | 0 => decide (destOf x < 96) && !d.portUp (destOf x)
  | 1 => (d.lagPick (destOf x) 0).isNone
  | _ => false

/-! ### The L2 tables (R176, R177, R179) -/

/-- The candidate row of a key in way w (R176). -/
def l2Cand (fid mac w : Nat) : Nat :=
  let h := crc32c ((w + 1) * 0x9e3779b9 % 2 ^ 32) (toBE 2 fid ++ toBE 6 mac)
  w * 32768 + ((h ^^^ (h / 2 ^ 16)) &&& 0x7fff)

/-- The eight candidate rows of a key. -/
def l2Cands (fid mac : Nat) : List Nat := (List.range 8).map (l2Cand fid mac)

/-- The destination of an L2 row. -/
def l2Dest (r : Nat) : Nat := r % 2 ^ 16

/-- Whether row r holds the key. -/
def l2Holds (fid mac r : Nat) : Bool := Row.L2Rows.valid r == 1 && Row.L2Rows.fid r == fid && Row.L2Rows.mac r == mac

/-- The row number that holds a key in pipeline pl, parity apart. -/
def Dev.l2At (d : Dev) (pl fid mac : Nat) : Option Nat := (l2Cands fid mac).find? fun i => l2Holds fid mac (d.row (T.L2Rows pl) i)

/-- A search of pipeline pl's L2 table: the row number found, and candidates with bad parity, which do not match (R209). -/
def Dev.l2Search (d : Dev) (pl fid mac : Nat) : Option Nat × List Nat :=
  let c := l2Cands fid mac
  (c.find? fun i => !d.isBad (T.L2Rows pl) i && l2Holds fid mac (d.row (T.L2Rows pl) i), c.filter fun i => d.isBad (T.L2Rows pl) i)

/-- The learned rows of pipeline pl. -/
def Dev.l2Learned (d : Dev) (pl : Nat) : List (Nat × Nat) :=
  let base := T.L2Rows pl * 2 ^ 20
  ((d.dict.rows.between base (base + 262144)).filter fun e => Row.L2Rows.valid e.2 == 1 && Row.L2Rows.static e.2 == 0).map
    fun e => (e.1 - base, e.2)

/-- Write an L2 row and keep LearnedEntries; a rewritten row has good parity. -/
def Dev.l2Put (pl i v : Nat) (d : Dev) : Dev :=
  let isL (r : Nat) : Nat := if Row.L2Rows.valid r = 1 ∧ Row.L2Rows.static r = 0 then 1 else 0
  let old := d.row (T.L2Rows pl) i
  let d := d.setRow (T.L2Rows pl) i v
  let d := { d with net := { d.net with bad := d.net.bad.filter (· != (T.L2Rows pl, i)) } }
  d.put (E.LearnedEntries pl) (d.get (E.LearnedEntries pl) + isL v - isL old)

/-- An L2 row (R177). -/
def l2Row (static sa da : Bool) (fid mac dest : Nat) : Nat :=
  2 ^ 87 + static.toNat * 2 ^ 86 + 2 ^ 85 + sa.toNat * 2 ^ 84 + da.toNat * 2 ^ 83 + fid * 2 ^ 64 + mac * 2 ^ 16 + dest

/-- A row of pipeline pl's L2 event ring (R190). -/
def Dev.l2Event (pl kind new old fid mac : Nat) (d : Dev) : Dev :=
  let t := d.stamp
  d.ringPush (T.L2Events pl) 4096 (E.L2EventCount pl) (srcKey (T.L2Events pl) 0) 235 fun n acq =>
    kind * 2 ^ 252 + n * 2 ^ 236 + acq.toNat * 2 ^ 235 + new * 2 ^ 216 + old * 2 ^ 200 + fid * 2 ^ 188 + mac * 2 ^ 140 + t

/-- Whether a MAC is a group address. -/
def isGroup (mac : Nat) : Bool := bit mac 40

/-! ### The LPM trie (R192 to R195) -/

/-- The bit depths at which the levels of a family's trie begin (R192). -/
def lpmLevels (v6 : Bool) : List Nat := if v6 then [0, 16, 24, 32, 40, 48, 56] else [0, 16, 20, 24, 28]

/-- The depth of the node that holds a prefix of a length. -/
def lpmNode (v6 : Bool) (len : Nat) : Nat := (lpmLevels v6).foldl (fun m l => if l < len then l else m) 0

/-- Whether a left-aligned address agrees with a prefix in its first n bits. -/
def prefixEq (n addr p : Nat) : Bool := addr / 2 ^ (128 - n) == p / 2 ^ (128 - n)

/-- Row i of LpmRoutes in the copy of pair k, as its parity is kept (R192). -/
def lpmCopy (k i : Nat) : Nat := k * 2 ^ 20 + i

/-- The longest match for an address in the copy of pair k, with the bad rows met (R192, R195, R209). -/
def Dev.lpm (c : Dev) (k : Nat) (v6 : Bool) (dip : Nat) : Option Nat × List Nat :=
  let addr := if v6 then dip else dip * 2 ^ 96
  let base := T.LpmRoutes * 2 ^ 20
  let rows := (c.dict.rows.between base (base + 524288)).filter fun e =>
    Row.LpmRoutes.valid e.2 == 1 && (Row.LpmRoutes.family e.2 == 1) == v6
  let onPath := rows.filter fun e => c.isBad T.LpmRoutes (lpmCopy k (e.1 - base)) &&
    prefixEq (lpmNode v6 (Row.LpmRoutes.len e.2)) addr (Row.LpmRoutes.prefixF e.2)
  let stop := onPath.foldl (fun m e => min m (lpmNode v6 (Row.LpmRoutes.len e.2))) 128
  let bad := onPath.filter fun e => lpmNode v6 (Row.LpmRoutes.len e.2) == stop
  let hits := rows.filter fun e => prefixEq (Row.LpmRoutes.len e.2) addr (Row.LpmRoutes.prefixF e.2) &&
    (onPath.isEmpty || (decide (Row.LpmRoutes.len e.2 ≤ stop) && decide (0 < stop)))
  let best := hits.foldl (fun m e => match m with
    | none => some e
    | some b => some (if Row.LpmRoutes.len b.2 < Row.LpmRoutes.len e.2 then e else b)) none
  (best.map fun e => Row.LpmRoutes.nextHop e.2, bad.map fun e => lpmCopy k (e.1 - base))

/-- The next hop for a NextHops row number (R196): the row, or the row of the ECMP member; a member that is not valid and direct, or a row
with bad parity, is held as a row of zero. None where the row is not valid. Answers bad rows too. -/
def Dev.resolveNh (d : Dev) (n spread : Nat) : Option (Nat × Nat) × List Nat :=
  let r := d.row T.NextHops n
  if d.isBad T.NextHops n then (some (n, 0), [n])
  else if Row.NextHops.valid r = 0 then (none, [])
  else if Row.NextHops.kind r = 1 then
    let m := Row.NextHops.dest r + spread % (Row.NextHops.ecmpSize r + 1)
    let v := d.row T.NextHops m
    if d.isBad T.NextHops m then (some (m, 0), [m])
    else if Row.NextHops.valid v = 1 ∧ Row.NextHops.kind v = 0 then (some (m, v), [])
    else (some (m, 0), [])
  else (some (n, r), [])

/-! ### Exact match (R197 to R200) -/

/-- The candidate row of a key in way w (R199). -/
def emCand (key w : Nat) : Nat :=
  let h := crc32c ([0x1b873593, 0xcc9e2d51, 0x85ebca6b, 0xc2b2ae35].getD w 0) (toBE 20 key)
  w * 65536 + ((h ^^^ (h / 2 ^ 16)) &&& 0xffff)

/-- The four candidates of a key. -/
def emCands (key : Nat) : List Nat := (List.range 4).map (emCand key)

/-- Whether row r holds the key. -/
def emHolds (key r : Nat) : Bool := Row.EmRows.valid r == 1 && Row.EmRows.key r == key

/-- The row that holds a key in pair k's copy, parity apart. -/
def Dev.emAt (d : Dev) (k key : Nat) : Option Nat := (emCands key).find? fun i => emHolds key (d.row (T.EmRows k) i)

/-- A search of pair k's copy: the row found, and candidates with bad parity (R209). -/
def Dev.emSearch (d : Dev) (k key : Nat) : Option Nat × List Nat :=
  let c := emCands key
  (c.find? fun i => !d.isBad (T.EmRows k) i && emHolds key (d.row (T.EmRows k) i), c.filter fun i => d.isBad (T.EmRows k) i)

/-- Whether a key is well formed: a listed KIND and no bit outside its kind's fields (R197). -/
def emKeyOk (key : Nat) : Bool :=
  let rest := key % 2 ^ 156
  match key / 2 ^ 156 with
  | 1 => decide (rest < 2 ^ 32)
  | 2 => decide (rest < 2 ^ 128)
  | 3 | 4 => decide (rest < 2 ^ 60)
  | 5 => decide (rest < 2 ^ 152)
  | _ => false

/-- The stream key of a frame (R197). -/
def streamKey (sid vid : Nat) (p : Parsed) (w : Bytes) : Option Nat :=
  match sid with
  | 1 => some (3 * 2 ^ 156 + vid * 2 ^ 48 + beAt w 0 6)
  | 2 => some (4 * 2 ^ 156 + vid * 2 ^ 48 + beAt w 6 6)
  | 3 => if p.kind = 0 then none else some (5 * 2 ^ 156 + p.proto * 2 ^ 144 + p.dport * 2 ^ 128 + p.dip)
  | _ => none

/-- The route key of a frame. -/
def routeKey (p : Parsed) : Nat := p.kind * 2 ^ 156 + p.dip

/-- Write the same exact-match row to all four copies. -/
def Dev.emPut (i v : Nat) (d : Dev) : Dev :=
  d.upto 4 fun k d =>
    let d := d.setRow (T.EmRows k) i v
    { d with net := { d.net with bad := d.net.bad.filter (· != (T.EmRows k, i)) } }

/-- Other candidates to which the entry in row i could move, in ascending way order. -/
def Dev.emAlts (d : Dev) (i : Nat) : List Nat := (emCands (Row.EmRows.key (d.row (T.EmRows 0) i))).filter (· != i)

/-- One level of the breadth-first search of R199: chains of rows from a candidate to the row reached, newest first. -/
def Dev.emLevel (d : Dev) (chains : List (List Nat)) (seen : List Nat) : List (List Nat) × List Nat :=
  chains.foldl (fun (acc : List (List Nat) × List Nat) ch =>
    match ch with
    | [] => acc
    | i :: _ => (d.emAlts i).foldl (fun (acc : List (List Nat) × List Nat) j =>
        if acc.2.contains j then acc else (acc.1 ++ [j :: ch], j :: acc.2)) acc) ([], seen)

/-- The shortest chain that frees a candidate, newest row first, with at most fuel moves (R199 step 2). -/
def Dev.emChain (d : Dev) : Nat → List (List Nat) → List Nat → Option (List Nat)
  | 0, _, _ => none
  | fuel + 1, chains, seen =>
    let (next, seen) := d.emLevel chains seen
    match next.find? fun ch => match ch with
      | j :: _ => Row.EmRows.valid (d.row (T.EmRows 0) j) == 0
      | [] => false with
    | some ch => some ch
    | none => if next.isEmpty then none else d.emChain fuel next seen

/-- Perform a chain from its far end: each entry moves to the row before it (R199). Answers the row freed. -/
def Dev.emMoves : List Nat → Dev → Dev
  | j :: i :: l, d =>
    let d := d.emPut j (d.row (T.EmRows 0) i)
    (d.emPut i 0).emMoves (i :: l)
  | _, d => d

/-! ### Sequence recovery (R201 to R205) -/

/-- The number of ones among the low n bits. -/
def popcount : Nat → Nat → Nat
  | 0, _ => 0
  | n + 1, v => v % 2 + popcount n (v / 2)

/-- What a recovery function answers: pass or discard, its state, and what to add to OUT_OF_ORDER, ROGUE, LOST and TAGLESS. -/
structure RecOut where
  pass    : Bool
  st      : RecSt
  ooo     : Nat := 0
  rogue   : Nat := 0
  lost    : Nat := 0
  tagless : Nat := 0
  deriving DecidableEq, Repr

/-- R203 for a RecoveryFunctions row, its state and a sequence number. -/
def recStep (row : Nat) (st : RecSt) (seq : Option Nat) : RecOut :=
  match seq with
  | none => { pass := Row.RecoveryFunctions.takeNoSequence row == 1, st, tagless := 1 }
  | some s =>
    if st.takeAny then { pass := true, st := { st with seq := s, history := 1, takeAny := false } }
    else if Row.RecoveryFunctions.algorithm row = 1 then
      if s ≠ st.seq then { pass := true, st := { st with seq := s } } else { pass := false, st }
    else
      let h := Row.RecoveryFunctions.historyLength row
      let df := (s + 65536 - st.seq) % 65536
      if df < 32768 then
        if h ≤ df then { pass := false, st, rogue := 1 }
        else if df = 0 then
          if st.history % 2 = 1 then { pass := false, st } else { pass := true, st := { st with history := st.history + 1 }, ooo := 1 }
        else
          { pass := true, lost := df - popcount df (st.history / 2 ^ (h - df)),
            st := { st with seq := s, history := (st.history * 2 ^ df + 1) % 2 ^ h } }
      else
        let b := 65536 - df
        if h ≤ b then { pass := false, st, rogue := 1 }
        else if bit st.history b then { pass := false, st }
        else { pass := true, st := { st with history := st.history + 2 ^ b }, ooo := 1 }

/-- The state of function n becomes st; one that changes is noted for the mirror (R403). -/
def Dev.recSet (n : Nat) (st : RecSt) (d : Dev) : Dev :=
  let old := d.net.recs.getD n {}
  let d := { d with net := { d.net with recs := d.net.recs.set n st } }
  if { old with last := st.last, passed := st.passed } = st ∨ d.pair.recDirty.contains n then d
  else { d with pair := { d.pair with recDirty := d.pair.recDirty ++ [n] } }

/-- The state of function n is reset, counted in RESETS (R204). -/
def Dev.recReset (n : Nat) (d : Dev) : Dev := (d.recSet n { last := d.net.bounds }).addRow T.RecoveryCounters n 63 0 1

/-- The state of function n is read; bad parity, kept under its RecoveryCounters row, resets it (R204, R209). -/
def Dev.recParity (n : Nat) (d : Dev) : Dev :=
  d.cond (d.isBad T.RecoveryCounters n) fun d =>
    let d := (d.recReset n).inc E.RecoveryParityResets
    let d := { d with net := { d.net with bad := d.net.bad.filter (· != (T.RecoveryCounters, n)) } }
    d.report Src.tableParity (T.RecoveryCounters * 2 ^ 32 + n)

/-- A frame of pipeline pl is checked by function n: pass or discard (R203, R204, R209). -/
def Dev.recCheck (pl n : Nat) (seq : Option Nat) (d : Dev) : Bool × Dev :=
  let d := (d.readBad pl T.RecoveryFunctions n).recParity n
  let row := d.row T.RecoveryFunctions n
  let o := recStep row (d.net.recs.getD n {}) seq
  let st := if o.pass then { o.st with last := d.net.bounds, passed := o.st.passed || seq.isNone } else o.st
  let d := d.recSet n st
  let d := if o.pass then d.addRow T.RecoveryCounters n 447 384 1 else d.addRow T.RecoveryCounters n 383 320 1
  let d := (d.addRow T.RecoveryCounters n 319 256 o.ooo).addRow T.RecoveryCounters n 255 192 o.rogue
  (o.pass, (d.addRow T.RecoveryCounters n 191 128 o.lost).addRow T.RecoveryCounters n 127 64 o.tagless)

/-- RECOVERY_RESET_EXPIRY (R204): RESET_TICKS boundaries since the last pass after which no reset has come. -/
def Dev.recExpiry (n : Nat) (d : Dev) : Dev :=
  let st := d.net.recs.getD n {}
  let row := d.row T.RecoveryFunctions n
  if (!st.takeAny || st.passed) && decide (st.last + Row.RecoveryFunctions.resetTicks row ≤ d.net.bounds) then d.recReset n else d

/-- The sequence number of a PRP trailer, present where the frame ends in 0x88FB (R205). -/
def prpSeq (f : Bytes) : Option Nat :=
  if 20 ≤ f.length ∧ beAt f (f.length - 2) 2 = 0x88FB then some (beAt f (f.length - 6) 2) else none

/-- The sequence number by SEQ_SOURCE that the lookup stage can read; `none` in the outer place: checked at the tail (R201, R205). -/
def headSeq (source : Nat) (p : Parsed) (w : Bytes) : Option (Option Nat) :=
  let tag (k : Nat) : Option Nat := (p.tags.find? fun t => t.kind == k).map fun t => beAt w (t.off + 4) 2
  match source with
  | 0 => some (tag 1)
  | 1 => some (tag 2)
  | 2 => none
  | _ => match tag 1, tag 2 with
    | some s, _ => some (some s)
    | none, some s => some (some s)
    | none, none => none

/-! ### Software operations on the L2 tables (R189) -/

/-- The pipelines of a PIPE_MASK. -/
def maskPls (m : Nat) : List Nat := (List.range 8).filter (bit m)

/-- Where an insert of a key goes in pipeline pl: its own row, the first free candidate, or the first candidate that holds a learned
entry; none where every candidate is static. -/
def Dev.l2Place (d : Dev) (pl fid mac : Nat) : Option Nat :=
  let free (i : Nat) : Bool := Row.L2Rows.valid (d.row (T.L2Rows pl) i) == 0 && !d.isBad (T.L2Rows pl) i
  let learned (i : Nat) : Bool := Row.L2Rows.static (d.row (T.L2Rows pl) i) == 0
  match d.l2At pl fid mac with
  | some i => some i
  | none => match (l2Cands fid mac).find? free with
    | some i => some i
    | none => (l2Cands fid mac).find? learned

end Sys2Proof.Machine
end

