-- ==== Sys2Proof/Machine/Edits.lean ====
section
/-!
DEFINITION. The header edits of R230 on a frame's bytes (DMAC to the last byte before the FCS), and the frame as an egress port sends it.
-/
namespace Sys2Proof.Machine

/-- Bytes v put in before offset o. -/
def insertAt (b : Bytes) (o : Nat) (v : Bytes) : Bytes := b.take o ++ v ++ b.drop o

/-- n bytes taken out at offset o. -/
def removeAt (b : Bytes) (o n : Nat) : Bytes := b.take o ++ b.drop (o + n)

/-- The one's complement update of a checksum when a 16-bit word m becomes m' (RFC 1624). -/
def sumUpdate (hc m m' : Nat) : Nat :=
  let s := (65535 - hc) + (65535 - m) + m'
  let s := s % 65536 + s / 65536
  let s := s % 65536 + s / 65536
  65535 - s

/-- Write a 16-bit word of an IPv4 header at l3 + o and update the header checksum (R230). -/
def ip4Word (b : Bytes) (l3 o v : Nat) : Bytes :=
  let hc := sumUpdate (beAt b (l3 + 10) 2) (beAt b (l3 + o) 2) v
  patch (patch b (l3 + o) (toBE 2 v)) (l3 + 10) (toBE 2 hc)

/-- The VLAN tags of a parsed frame, outermost first. -/
def Parsed.vlans (p : Parsed) : List Nat := (p.tags.filter fun t => t.kind == 0).map (·.off)

/-- The offset directly after the last VLAN tag, or after SMAC (R230). -/
def Parsed.afterVlans (p : Parsed) : Nat := (p.vlans.getLast?.map (· + 4)).getD 12

/-- The tag of a kind other than VLAN. -/
def Parsed.tagAt (p : Parsed) (k : Nat) : Option Nat := (p.tags.find? fun t => t.kind == k).map (·.off)

/-- Whether the L3 header is present, sound and complete within the window (R230). -/
def Parsed.l3Ok (p : Parsed) (b : Bytes) : Bool :=
  let e := p.l3 + if p.kind = 1 then beAt b p.l3 1 % 16 * 4 else 40
  p.kind != 0 && !p.has 8 && decide (e ≤ min b.length 256)

/-- The length of the frame without padding, where its L3 header or length field tells it (log 20). -/
def unpadded (p : Parsed) (b : Bytes) : Nat :=
  let n := b.length
  if p.kind = 1 ∧ !p.has 8 then min n (p.l3 + beAt b (p.l3 + 2) 2)
  else if p.kind = 2 ∧ !p.has 8 then min n (p.l3 + 40 + beAt b (p.l3 + 4) 2)
  else if p.has 0 then min n (p.typeOff + 2 + p.etype)
  else n

/-- One edit on the bytes, for an egress port whose own MAC and LAN are given (R230, R232). LSDU sizes are left 0 (see `finish`). -/
def applyEdit (extra own lan : Nat) (b : Bytes) (e : Edit) : Bytes :=
  let p := parse extra b
  match e with
  | .vlanPush t c => insertAt b 12 (toBE 2 t ++ toBE 2 c)
  | .vlanPop n => ((p.vlans.take n).reverse).foldl (fun b o => removeAt b o 4) b
  | .vlanSet m v => match p.vlans with
    | o :: _ => patch b (o + 2) (toBE 2 ((beAt b (o + 2) 2 &&& (65535 - m)) ||| (v &&& m)))
    | [] => b
  | .mac dm sm o =>
    let b := match dm with
      | some m => patch b 0 (toBE 6 m)
      | none => b
    match sm with
    | some m => patch b 6 (toBE 6 m)
    | none => if o then patch b 6 (toBE 6 own) else b
  | .ttl => if p.kind = 1 then ip4Word b p.l3 8 (beAt b (p.l3 + 8) 2 - 256) else patch b (p.l3 + 7) (toBE 1 (beAt b (p.l3 + 7) 1 - 1))
  | .dscp v =>
    if p.kind = 1 then ip4Word b p.l3 0 (setFld (beAt b p.l3 2) 7 2 v)
    else patch b p.l3 (toBE 2 (setFld (beAt b p.l3 2) 11 6 v))
  | .rtagPush s => insertAt b p.afterVlans (toBE 2 0xF1C1 ++ toBE 2 0 ++ toBE 2 s)
  | .rtagPop => match p.tagAt 1 with
    | some o => removeAt b o 6
    | none => b
  | .hsrPush pa s => insertAt b p.afterVlans (toBE 2 0x892F ++ toBE 2 (pa * 4096) ++ toBE 2 s)
  | .hsrPop => match p.tagAt 2 with
    | some o => removeAt b o 6
    | none => b
  | .prpAdd l s => b ++ toBE 2 s ++ toBE 2 ((if (if l = 2 then lan else l) = 0 then 0xA else 0xB) * 4096) ++ toBE 2 0x88FB
  | .prpStrip =>
    let b := b.take (b.length - 6)
    b.take (unpadded p b)
  | .trunc n => b.take n

/-- Whether a PRP trailer that these edits added stands at the end. -/
def endsPrp (es : List Edit) : Bool :=
  (es.foldl (fun s e => match e with
    | .prpAdd _ _ => true
    | .prpStrip | .trunc _ => false
    | _ => s) false)

/-- Whether there is an HSR_PUSH edit: such a frame never cuts through (R233). -/
def pushesHsr (es : List Edit) : Bool := es.any fun e => match e with
  | .hsrPush _ _ => true
  | _ => false

/-- Whether an HSR tag that these edits added is still there. -/
def holdsHsr (es : List Edit) : Bool :=
  es.foldl (fun s e => match e with
    | .hsrPush _ _ => true
    | .hsrPop => false
    | _ => s) false

/-- Padding to 60 bytes before the FCS (before an added PRP trailer), and the LSDU sizes of added HSR tags and PRP trailers: the bytes
after the EtherType that stands before them (R230; log 19). -/
def finish (extra : Nat) (es : List Edit) (b : Bytes) : Bytes :=
  let prp := endsPrp es
  let pad : Bytes := List.replicate (60 - b.length) 0
  let b := if prp then insertAt b (b.length - 6) pad else b ++ pad
  let p := parse extra b
  let b := if !holdsHsr es then b else match p.tagAt 2 with
    | some o => patch b (o + 2) (toBE 2 (beAt b (o + 2) 2 / 4096 * 4096 + (b.length - (o + 2)) % 4096))
    | none => b
  if prp then
    let o := b.length - 4
    patch b o (toBE 2 (beAt b o 2 / 4096 * 4096 + (b.length - (p.afterVlans + 2)) % 4096))
  else b

/-- The frame as egress port q sends it (R230, R232): with no edits its own bytes. -/
def Dev.sentBytes (d : Dev) (q : Nat) (es : List Edit) (b : Bytes) : Bytes :=
  if es.isEmpty then b
  else
    let extra := d.get E.ExtraTpid
    let r := if q < 96 then d.row T.PortRewrite q else 0
    finish extra es (es.foldl (applyEdit extra (Row.PortRewrite.portMac r) (Row.PortRewrite.prpLan r)) b)

/-- The header as the edits so far leave it, for the tests of R230. -/
def Dev.editedHead (d : Dev) (es : List Edit) (b : Bytes) : Bytes := es.foldl (applyEdit (d.get E.ExtraTpid) 0 0) b

end Sys2Proof.Machine
end

