-- ==== Sys2Proof/Machine/Time.lean ====
section
/-!
DEFINITION. Network time (chapter 03): the domain transforms and their servo writes, output time, PPS, the PLL reference.
The tick boundary itself, which calls these in the order of R19, is in Sys2Proof/Machine/Tick.lean.
-/
namespace Sys2Proof.Machine

/-! ### Domains A (0) and B (1) -/

/-- The state of domain i. -/
def Dev.domainSt (d : Dev) (i : Nat) : DomainSt := if i = 0 then d.time.a else d.time.b

/-- Set the state of domain i. -/
def Dev.setDomainSt (i : Nat) (v : DomainSt) (d : Dev) : Dev :=
  if i = 0 then { d with time := { d.time with a := v } } else { d with time := { d.time with b := v } }

/-- Domain time of domain i at capture x (R76). -/
def Dev.domainTime (d : Dev) (i x : Nat) : Int := (d.domainSt i).xf.at x

/-- A transform with rate word w whose time at capture x is keep (R78). -/
def Xform.through (w : Int) (x : Nat) (keep : Int) : Xform := { o := keep - (x * 2 ^ 13 + w * x / 2 ^ 35), w }

/-! ### PPS outputs (R108, R112) -/

/-- PPS output i. -/
def Dev.ppsOut (d : Dev) (i : Nat) : PpsOut := if i = 0 then d.time.ppsOutA else d.time.ppsOutB

/-- Set PPS output i and drive its ball. -/
def Dev.setPpsOut (i : Nat) (v : PpsOut) (d : Dev) : Dev :=
  let d := if i = 0 then { d with time := { d.time with ppsOutA := v } } else { d with time := { d.time with ppsOutB := v } }
  d.emit (.pin d.now (if i = 0 then "PPS_A_OUT" else "PPS_B_OUT") v.level)

/-- The source time of PPS output i: a domain, output time, or off (R112). -/
def Dev.ppsSource (d : Dev) (i : Nat) : Option Int :=
  match d.get (E.OutSource i) with
  | 0 => some (d.domainTime 0 d.now)
  | 1 => some (d.domainTime 1 d.now)
  | 2 => some d.outTime
  | _ => none

/-- Whether OutGate holds PPS output i low (R108). -/
def Dev.ppsGated (d : Dev) (i : Nat) : Bool :=
  d.getB (E.OutGate i) && match d.get (E.OutSource i) with
    | 0 => !d.getB (E.Locked 0)
    | 1 => !d.getB (E.Locked 1)
    | _ => d.get E.OutputState == 0

/-- A pulse whose gate closes ends: the output stays low while OutGate holds it (R108). -/
def Dev.ppsHold (d : Dev) : Dev :=
  d.upto 2 fun i d => d.cond ((d.ppsOut i).level && d.ppsGated i) fun d => d.setPpsOut i { d.ppsOut i with level := false }

/-- The whole second of its source time that PPS output i is in, OutOffset taken off. -/
def Dev.ppsSec (d : Dev) (i : Nat) : Option Int :=
  (d.ppsSource i).map fun t => (t - sgn 32 (d.get (E.OutOffset i)) * 65536) / 65536000000000

/-- PPS output i starts from the second that its source is in: a new source, a new offset, a wake (R108). -/
def Dev.ppsArm (i : Nat) (d : Dev) : Dev :=
  let p := { d.ppsOut i with lastSec := d.ppsSec i }
  if i = 0 then { d with time := { d.time with ppsOutA := p } } else { d with time := { d.time with ppsOutB := p } }

/-! ### Servo writes (R78 to R86) -/

/-- Hardware clears Locked of domain i; a change from true raises class S (R83, R84). -/
def Dev.clearLocked (i : Nat) (d : Dev) : Dev :=
  if d.getB (E.Locked i) then ((d.putB (E.Locked i) false).ppsHold).report Src.domainLockLost i else d

/-- A clamp of a servo write: ClampEvents counts it and class H is raised (R81). -/
def Dev.servoClamped (i : Nat) (d : Dev) : Dev := (d.inc (E.ClampEvents i)).report Src.servoClamp i

/-- One row of the TimeEvents ring (R104). `meta` fields: kind, domain, port (127 none), sequenceId; then remote TIMEX, local TIMEX,
correction, X. -/
def timeEventRow (kind dom port seqId remote loc : Nat) (corr : Int) (x : Nat) (n : Nat) (acq : Bool) : Nat :=
  kind * 2 ^ 376 + dom * 2 ^ 375 + port * 2 ^ 368 + n * 2 ^ 352 + seqId % 65536 * 2 ^ 336 + acq.toNat * 2 ^ 320 +
    remote * 2 ^ 224 + loc * 2 ^ 128 + enc 64 corr * 2 ^ 64 + x % 2 ^ 64

/-- Write a time event (R104). -/
def Dev.timeEvent (kind dom port seqId remote loc : Nat) (corr : Int) (x : Nat) (d : Dev) : Dev :=
  d.ringPush T.TimeEvents 1024 E.TimeEventCount (srcKey T.TimeEvents 0) 320 (timeEventRow kind dom port seqId remote loc corr x)

/-- The rate part of R81 for domain i at the boundary: in ACQUIRE the write is taken as it is, else its step is clamped. -/
def Dev.servoRate (i : Nat) (d : Dev) : Dev :=
  let s := d.domainSt i
  match s.pend.rate with
  | none => d
  | some r =>
    let lim : Int := d.get (E.RateStepClamp i) * 281474976710656 / 1000000000
    let w := if d.get (E.DomainState i) = 0 then r else clampInt r (s.xf.w - lim) (s.xf.w + lim)
    let d := d.setDomainSt i { s with xf := Xform.through w d.now (s.xf.at d.now) }
    let d := d.put (E.RateWord i) (enc 64 w)
    d.cond (w != r) (Dev.servoClamped i)

/-- The SetTime and PhaseAdjust part of R81 for domain i at the boundary. -/
def Dev.servoPhase (i : Nat) (d : Dev) : Dev :=
  let s := d.domainSt i
  match s.pend.setTime, d.get (E.DomainState i) with
  | some t, 0 =>
    let d := d.setDomainSt i { s with xf := Xform.through s.xf.w d.now t }
    let d := d.put (E.DomainState i) 1
    let d := d.inc (E.StepCount i)
    d.timeEvent 6 i 127 0 0 (toTimex t) 0 d.now
  | _, _ =>
    if s.pend.phase = 0 then d else
    let lim : Int := d.get (E.PhaseClamp i) * 65536
    let v := clampInt s.pend.phase (-lim) lim
    let v' := max v (-(s.xf.at d.now))
    let d := d.setDomainSt i { s with xf := { s.xf with o := s.xf.o + v' } }
    let d := d.cond (v != s.pend.phase) (Dev.servoClamped i)
    d.cond (v' != v) (Dev.inc (E.ClampEvents i))

/-- Pending servo writes of domain i at a boundary, Reacquire first (R81, R83, R85). A servo write returns HOLDOVER to TRACKING. -/
def Dev.servoApply (i : Nat) (d : Dev) : Dev :=
  let p := (d.domainSt i).pend
  let d := d.cond p.reacquire (Dev.put (E.DomainState i) 0)
  let d := d.cond (p.written && d.get (E.DomainState i) == 2) (Dev.put (E.DomainState i) 1)
  let d := (d.servoRate i).servoPhase i
  let s := d.domainSt i
  d.setDomainSt i { s with pend := {}, quiet := if p.written then 0 else s.quiet + 1 }

/-- R83: a domain in TRACKING that saw no servo write for ServoTimeout ticks enters HOLDOVER. -/
def Dev.servoTimeout (i : Nat) (d : Dev) : Dev :=
  if d.get (E.DomainState i) = 1 ∧ d.get (E.ServoTimeout i) ≤ (d.domainSt i).quiet then
    ((d.put (E.DomainState i) 2).clearLocked i).report Src.domainHoldover i
  else d

/-! ### Output time -/

/-- AutoSwitch of R89 at a boundary. -/
def Dev.autoSwitch (d : Dev) : Dev :=
  let sel := d.get E.OutputDomain
  let other := 1 - sel
  if d.getB E.AutoSwitch && !d.getB (E.Locked sel) && d.get (E.DomainState other) == 1 && d.getB (E.Locked other) then
    (d.put E.OutputDomain other).inc E.DomainSwitches
  else d

/-- A waiting OutputDomain or OutputReacquire write takes effect at the boundary (R87, R89). -/
def Dev.outputSelect (d : Dev) : Dev :=
  let d := match d.time.outDom with
    | some v => d.put E.OutputDomain v
    | none => d
  let d := d.autoSwitch
  { d with time := { d.time with outDom := none, acquire := d.time.acquire || d.time.outReacq, outReacq := false } }

/-- The rate word of an output time that advances p while the selected domain advances p - s (R86), rounded down (log 13). -/
def slewWord (wSel p s : Int) : Int := (2 ^ 48 + wSel) * p / (p - s) - 2 ^ 48

/-- Output time at a boundary (R86): p is the TickPeriod in ns of the tick that begins. Answers whether an acquire step was taken. -/
def Dev.outputUpdate (p : Nat) (d : Dev) : Bool × Dev :=
  let sel := d.get E.OutputDomain
  let f := (d.domainSt sel).xf
  let lSel := f.at d.now
  let lOut := d.time.out.at d.now
  if d.time.acquire then
    let step := lSel != lOut
    let free := d.get (E.DomainState sel) == 0
    let d := { d with time := { d.time with out := f, acquire := free } }
    let d := d.cond step (Dev.inc E.AcqSteps)
    (step, ((d.put E.OutputError 0).put E.OutputState (if free then 0 else 1)).ppsHold)
  else
    let e := lSel - lOut
    let lim : Int := d.get E.OutputSlewLimit * 65536
    let s := clampInt e (-lim) lim
    let w := slewWord f.w (p * 65536) s
    let d := { d with time := { d.time with out := Xform.through w d.now lOut } }
    (false, ((d.put E.OutputError (enc 64 e)).put E.OutputState (if e.natAbs > 65536 then 2 else 1)).ppsHold)

/-- Every record taken in the last TickPeriod of raw time gets ACQ_STEP (R30, R88 step 5): rows of the rings, queued notifications, faults that the
collector has not taken, and what becomes a record of a frame: the frames held and the samples that wait. -/
def Dev.markAcq (d : Dev) : Dev :=
  let keep := d.now - 8 * d.period
  let d := d.each (d.recent.filter fun r => decide (keep ≤ r.1)) fun (_, t, i, b) d => d.setRowFld t i b b 1
  { d with
    access := { d.access with queues := d.access.queues.map fun q =>
      { q with queue := q.queue.map fun e => { e with acq := e.acq || decide (keep ≤ e.x) } } }
    faults := { d.faults with reported := d.faults.reported.map fun e => { e with acq := e.acq || decide (keep ≤ e.x) } }
    net := { d.net with
      frames := d.net.frames.map fun (e : Nat × Frame) => (e.1, { e.2 with acq := e.2.acq || decide (keep ≤ e.2.x) })
      samples := d.net.samples.map fun p => { p with acq := p.acq || (p.ready && decide (keep ≤ p.x)) } } }

/-! ### Boundaries -/

/-- The first boundary time in ns at or after the time value t: TickPhase + n * TickPeriod (R9, R91, R93). -/
def firstBoundary (period phase : Nat) (t : Int) : Nat :=
  let ns := cdiv t.toNat 65536
  phase + cdiv (ns - phase) period * period

/-- The tick number of the output time t in ns (R91). -/
def tickOf (period phase ns : Nat) : Nat := (ns - phase) / period

/-! ### PPS (R108, R109) -/

/-- PPS input i. -/
def Dev.ppsIn (d : Dev) (i : Nat) : PpsIn := if i = 0 then d.time.ppsInA else d.time.ppsInB

/-- Set PPS input i. -/
def Dev.setPpsIn (i : Nat) (v : PpsIn) (d : Dev) : Dev :=
  if i = 0 then { d with time := { d.time with ppsInA := v } } else { d with time := { d.time with ppsInB := v } }

/-- The selected edge of an enabled PPS input (R109): captured into the ring in domain i; the rate over the run of edges. A write of InEnable or
InEdge leaves the run and the last edge as they are (log 147). -/
def Dev.ppsEdge (i : Nat) (rising : Bool) (d : Dev) : Dev :=
  if d.getB (E.InEnable i) && (rising == (d.get (E.InEdge i) == 0)) then
    let p := d.ppsIn i
    let run := p.run + 1
    let first := if p.run = 0 then d.now else p.first
    let d := d.setPpsIn i { last := some d.now, run, first, missed := false }
    let d := d.timeEvent (4 + i) i 127 0 0 (toTimex (d.domainTime i d.now)) 0 d.now
    if run < 8 then d
    else
      let n : Int := ((run - 1) * 8000000000 : Nat)
      let meas : Int := (d.now - first : Nat)
      d.put (E.InRatePpb i) (enc 32 ((n - meas) * 1000000000 / meas))
  else d

/-- No edge within 1 s and 1 ms of raw time after the previous one (R109). -/
def Dev.ppsMissing (i : Nat) (d : Dev) : Dev :=
  let p := d.ppsIn i
  match p.last with
  | some l =>
    if d.getB (E.InEnable i) && decide (l + 8008000000 ≤ d.now) then
      let d := d.setPpsIn i { last := some (l + 8000000000), run := 0, first := 0, missed := true }
      let d := (d.inc (E.InMissing i)).put (E.InRatePpb i) 0x80000000
      d.cond (!p.missed) (Dev.report Src.ppsMissing i)
    else d
  | none => d

/-- A rising edge of PPS output i where its source time has crossed a whole second plus OutOffset (R108). -/
def Dev.ppsRise (i : Nat) (d : Dev) : Dev :=
  match d.ppsSec i, (d.ppsOut i).lastSec with
  | some sec, some s =>
    if sec ≤ s then d
    else if d.ppsGated i then d.setPpsOut i { d.ppsOut i with lastSec := some sec }
    else d.setPpsOut i { level := true, lastSec := some sec, endX := d.after (d.get (E.OutWidth i)) }
  | some _, none => d.ppsArm i
  | none, _ => d

/-- The pulse of PPS output i ends OutWidth after its edge (R108). -/
def Dev.ppsFall (i : Nat) (d : Dev) : Dev :=
  let p := d.ppsOut i
  if p.level && decide (p.endX ≤ d.now) then d.setPpsOut i { p with level := false } else d

/-- PPS outputs stop in stabled mode (R108). -/
def Dev.ppsStop (d : Dev) : Dev := (d.setPpsOut 0 { d.ppsOut 0 with level := false }).setPpsOut 1 { d.ppsOut 1 with level := false }

/-! ### The PLL reference (R106, R107) -/

/-- The measurements of RefOffsetPpb start again (R107). -/
def Dev.refRestart (d : Dev) : Dev :=
  ({ d with time := { d.time with refRun := 0 } }).put E.RefOffsetPpb 0x80000000

/-- Loss of REF10M_IN or of the recovered clock: holdover and class S (R106). The AON crystal is free-run and is not lost. -/
def Dev.pllLoss (d : Dev) : Dev :=
  if d.get E.PllRefSelect ≠ 0 ∧ d.get E.PllState ≠ 3 then
    (((d.put E.PllState 3).inc E.RefLossCount).refRestart).report Src.pllRefLoss (d.get E.PllRefSelect)
  else d

/-- The PLL locks on its selected reference (R106): with the AON crystal it is free-run. -/
def Dev.pllLock (d : Dev) : Dev :=
  if d.get E.PllRefSelect = 0 then d.put E.PllState 0 else (d.refRestart).put E.PllState 2

/-- A one-second measurement of the reference (R107): RefOffsetPpb is valid from the eighth after lock. -/
def Dev.refMeasure (ppb : Int) (d : Dev) : Dev :=
  if d.get E.PllState = 2 then
    let d := { d with time := { d.time with refRun := d.time.refRun + 1 } }
    if d.time.refRun < 8 then d else d.put E.RefOffsetPpb (enc 32 ppb)
  else d

/-- A change of the reference selection (R106): free-run on the crystal, else acquiring until lock; the count neither steps nor slips. A write of
SyncEPort is no such change, also while the recovered clock is selected (log 147). -/
def Dev.pllSelect (d : Dev) : Dev := (d.refRestart).put E.PllState (if d.get E.PllRefSelect = 0 then 0 else 1)

/-! ### The commands -/

/-- SERVO_TIMEOUT (R83). -/
def execServoTimeout (x i : Nat) (s : State) : Host.Outcome State Fault Refusal := s.live x (Dev.servoTimeout i)

/-- PPS_IN_EDGE (R109). -/
def execPpsInEdge (x i : Nat) (rising : Bool) (s : State) : Host.Outcome State Fault Refusal := s.live x (Dev.ppsEdge i rising)

/-- PPS_MISSING (R109). -/
def execPpsMissing (x i : Nat) (s : State) : Host.Outcome State Fault Refusal := s.live x (Dev.ppsMissing i)

/-- PPS_OUT_EDGE (R108). -/
def execPpsOutEdge (x i : Nat) (s : State) : Host.Outcome State Fault Refusal := s.live x (Dev.ppsRise i)

/-- PPS_OUT_PULSE_END (R108). -/
def execPpsOutPulseEnd (x i : Nat) (s : State) : Host.Outcome State Fault Refusal := s.live x (Dev.ppsFall i)

/-- PLL_REF_LOSS (R106). -/
def execPllRefLoss (x : Nat) (s : State) : Host.Outcome State Fault Refusal := s.live x Dev.pllLoss

/-- PLL_REF_LOCK (R106). -/
def execPllRefLock (x : Nat) (s : State) : Host.Outcome State Fault Refusal := s.live x Dev.pllLock

/-- REF_OFFSET_MEASUREMENT (R107). -/
def execRefOffsetMeasurement (x : Nat) (ppb : Int) (s : State) : Host.Outcome State Fault Refusal := s.live x (Dev.refMeasure ppb)

end Sys2Proof.Machine
end

