-- ==== Sys2Proof/Machine/Shaping.lean ====
section
/-!
DEFINITION. Token buckets, the weave's gates and the reservations of a port (R289 to R292, R303 to R306, R309, R132, R297).
-/
namespace Sys2Proof.Machine

/-! ### Token buckets (R304 to R306) -/

/-- A bucket's unit: 1/64,000,000 byte, so that a rate of 1 kb/s fills one unit in 125 ps. -/
def tokenUnit : Int := 64000000

/-- The key of port p's bucket; queue buckets have their row as key, meter m has 2,000 + m. -/
def portBucket (p : Nat) : Nat := 1536 + p

/-- Both buckets full, or zero (R306, R309). -/
def bucketInit (zero : Bool) (cbs pbs x : Nat) : Bucket :=
  if zero then { c := 0, p := 0, x } else { c := cbs * tokenUnit, p := pbs * tokenUnit, x }

/-- A bucket pair filled up to capture x (R304). -/
def Bucket.fill (b : Bucket) (cir pir cbs pbs x : Nat) : Bucket :=
  { c := min (cbs * tokenUnit) (b.c + cir * (x - b.x)), p := min (pbs * tokenUnit) (b.p + pir * (x - b.x)), x := max x b.x }

/-- The bucket of a shaper or meter row now; a bucket never set is full (reset of R306). -/
def Dev.bucket (d : Dev) (key row : Nat) : Bucket :=
  let cbs := Row.QueueShapers.cbs row
  let pbs := Row.QueueShapers.pbs row
  let b := (d.net.buckets.get? key).getD (bucketInit false cbs pbs d.now)
  b.fill (Row.QueueShapers.cir row) (Row.QueueShapers.pir row) cbs pbs d.now

/-- Set a bucket. -/
def Dev.setBucket (key : Nat) (b : Bucket) (d : Dev) : Dev := { d with net := { d.net with buckets := d.net.buckets.set key b } }

/-- Whether a bucket is above zero at 2^-16 byte (R304). -/
def tokenPos (v : Int) : Bool := decide (tokenUnit ≤ v * 65536)

/-- The shaper row of queue row r; internal queues have none. -/
def Dev.queueShaper (d : Dev) (r : Nat) : Nat := if r < 1536 then d.row T.QueueShapers r else 0

/-- Whether the committed and peak tests of a shaper permit; a disabled shaper always does (R303). -/
def Dev.shaperOk (d : Dev) (key row : Nat) (committed : Bool) : Bool :=
  if Row.QueueShapers.enable row = 0 then true
  else
    let b := d.bucket key row
    Row.QueueShapers.pir row != 0 && tokenPos b.p && (!committed || tokenPos b.c)

/-- Whether the queue shaper of row r permits in a band (R305): Q8 to Q11 are tested for C in band 3. -/
def Dev.queuePermits (d : Dev) (r band : Nat) : Bool := d.shaperOk r (d.queueShaper r) (band == 3)

/-- Whether the port shaper permits in a band (R305): bands 1 and 2 are never held back. -/
def Dev.portPermits (d : Dev) (p band : Nat) : Bool :=
  if band ≤ 2 ∨ 96 ≤ p then true else d.shaperOk (portBucket p) (d.row T.PortShapers p) (band == 4)

/-- Charge a shaper for a frame of n bytes as sent (R304). -/
def Dev.charge (key row n : Nat) (d : Dev) : Dev :=
  if Row.QueueShapers.enable row = 0 then d
  else
    let b := d.bucket key row
    let v : Int := (n + Row.QueueShapers.lengthAdj row : Nat) * tokenUnit
    d.setBucket key { b with c := b.c - v, p := b.p - v }

/-- Give back n bytes of a charge (R304: a cut-through frame's charge is corrected). -/
def Dev.refund (key row n : Nat) (d : Dev) : Dev :=
  if Row.QueueShapers.enable row = 0 then d
  else
    let b := d.bucket key row
    let v : Int := n * tokenUnit
    d.setBucket key { b with c := min (Row.QueueShapers.cbs row * tokenUnit) (b.c + v), p := min (Row.QueueShapers.pbs row * tokenUnit) (b.p + v) }

/-- The buckets of a shaper whose committed row changes (R306). -/
def Dev.shaperInstall (key row : Nat) (d : Dev) : Dev :=
  d.setBucket key (bucketInit (Row.QueueShapers.resetMode row == 1) (Row.QueueShapers.cbs row) (Row.QueueShapers.pbs row) d.now)

/-- The buckets of a meter whose committed row changes (R309). -/
def Dev.meterInstall (m row : Nat) (d : Dev) : Dev :=
  d.setBucket (2000 + m) (bucketInit (Row.Meters.resetMode row == 1) (Row.Meters.cbs row) (Row.Meters.pbs row) d.now)

/-- A meter colours a frame of n bytes (R309): the colour out, RED_DROP apart. -/
def Dev.meter (m row colour n : Nat) (d : Dev) : Nat × Dev :=
  if Row.Meters.valid row = 0 then (colour, d)
  else
    let b := d.bucket (2000 + m) row
    let v : Int := n * tokenUnit
    let aware := Row.Meters.colourAware row == 1
    let out := if (aware && colour == 2) || decide (b.p < v) then 2
      else if (aware && colour == 1) || decide (b.c < v) then 1 else 0
    let b := if out = 2 then b else if out = 1 then { b with p := b.p - v } else { b with p := b.p - v, c := b.c - v }
    let d := d.setBucket (2000 + m) b
    (out, match out with
      | 0 => d.addRow T.MeterCounters m 191 128 1
      | 1 => d.addRow T.MeterCounters m 127 64 1
      | _ => d.addRow T.MeterCounters m 63 0 1)

/-! ### The weave (R289 to R292) -/

/-- The weave position of port p in tick n (R289). -/
def Dev.weavePosAt (d : Dev) (p n : Nat) : Nat :=
  (((n : Int) - d.get (E.WeaveCycleOffset p)) % (max 1 (d.get (E.WeaveCycleTicks p)) : Int)).toNat

/-- The weave position of port p (R289). -/
def Dev.weavePos (d : Dev) (p : Nat) : Nat := d.weavePosAt p d.tickNow

/-- The windows of port p in use: start tick, start ns, gates. -/
def Dev.windows (d : Dev) (p : Nat) : List (Nat × Nat × Nat) :=
  (List.range (d.get (E.WindowCount p))).map fun i =>
    let r := d.row T.WeaveWindows (p * 1024 + i)
    (Row.WeaveWindows.startTick r, Row.WeaveWindows.startNs r, Row.WeaveWindows.gates r)

/-- Output time since the boundary of the tick in progress, in 2^-16 ns. In a tick that an acquire step has extended it stands where the step
found it (R295). -/
def Dev.sinceTick (d : Dev) : Int := d.time.gateT.getD (d.outTime - d.time.boundT * 65536)

/-- The gates of port p at weave position c and t after the boundary (R291). -/
def Dev.gatesAt (d : Dev) (p c : Nat) (t : Int) : Nat :=
  let w := d.windows p
  let past := w.filter fun e => decide (e.1 < c) || (e.1 == c && decide ((e.2.1 : Int) * 65536 ≤ t))
  match past.getLast?, w.getLast? with
  | some e, _ => e.2.2
  | none, some e => e.2.2
  | none, none => 0xFFFF

/-- The gates of port p now (R291). -/
def Dev.gates (d : Dev) (p : Nat) : Nat :=
  if 96 ≤ p ∨ !d.getB (E.WeaveEnable p) then 0xFFFF else d.gatesAt p (d.weavePos p) d.sinceTick

/-- Output time from position `pos` of port p's cycle until the next window that closes queue q starts, all in 2^-16 ns. -/
def Dev.closeFrom (d : Dev) (p q : Nat) (pos : Int) : Option Int :=
  let cyc : Int := d.get (E.WeaveCycleTicks p) * d.period * 65536
  let dist (e : Nat × Nat × Nat) : Int :=
    let v := ((e.1 * d.period + e.2.1 : Nat) : Int) * 65536 - pos
    if 0 ≤ v then v else v + cyc
  ((d.windows p).filter fun e => !bit e.2.2 q).foldl (fun m e => match m with
    | none => some (dist e)
    | some m => some (min m (dist e))) none

/-- Output time in 2^-16 ns from now until the gate of queue q on port p next closes; none where it does not (R291, R292). An extended tick
keeps its gates to its end, and the weave goes on from the tick that follows (R295). -/
def Dev.gateLeft (d : Dev) (p q : Nat) : Option Int :=
  if 96 ≤ p ∨ !d.getB (E.WeaveEnable p) then none
  else if d.time.gateT.isNone then d.closeFrom p q (d.weavePos p * d.period * 65536 + d.sinceTick)
  else
    let rest : Int := d.time.nextB * 65536 - d.outTime
    let c := d.weavePosAt p (tickOf d.period (d.get E.TickPhase) d.time.nextB)
    if bit (d.gatesAt p c 0) q then (d.closeFrom p q (c * d.period * 65536)).map (rest + ·) else some rest

/-- The time n bytes and 20 bytes of overhead take on port p, in 2^-16 ns. -/
def Dev.txTime (d : Dev) (p n : Nat) : Int := (n + 20) * 8000 * 65536 / (max 1 (d.portRate p))

/-- Whether preemption is active on port p (R135). -/
def Dev.preempting (d : Dev) (p : Nat) : Bool :=
  decide (p < 96) && d.getB (E.PreemptEnable p) && (d.get (E.VerifyStatus p) == 3 || d.getB (E.VerifyDisable p))

/-- Whether queue q of port p is preemptable now. -/
def Dev.preemptable (d : Dev) (p q : Nat) : Bool := d.preempting p && bit (d.get (E.PreemptableQueues p)) q

/-- Whether queue q of port p is a D_HOP queue (R129). -/
def Dev.isDhop (d : Dev) (p q : Nat) : Bool := decide (p < 96) && decide (12 ≤ q) && bit (d.get (E.DhopQueues p)) (q - 12)

/-- The guard test of R292 for a frame of n bytes in queue q of port p that is no D_HOP frame. -/
def Dev.guardOk (d : Dev) (p q n : Nat) : Bool :=
  bit (d.gates p) q &&
    match d.gateLeft p q with
    | none => true
    | some left =>
      let t := if d.preemptable p q then d.txTime p (64 * (1 + d.get (E.AddFragSize p))) else d.txTime p n
      decide (t ≤ left)

/-! ### Reservations (R132, R297) -/

/-- The capture at which output time reads t. -/
def Dev.xAtOut (d : Dev) (t : Int) : Int := d.now + (t - d.outTime) * 2 ^ 35 / (2 ^ 48 + d.time.out.w)

/-- TxLatency of port p with its trim, in captures (R95). -/
def Dev.txLatX (d : Dev) (p : Nat) : Int := (((d.port p).txPs : Int) + sgn 32 (d.get (E.TxTrim p)) + 62) / 125

/-- The MII launch instant of an entry with a target, as a capture. -/
def Dev.miiOf (d : Dev) (p : Nat) (e : QEntry) : Option Int :=
  match e.dhop, e.target with
  | some x, _ => some (x - d.txLatX p)
  | none, some t => some (d.xAtOut t - d.txLatX p)
  | none, none => none

/-- The queue of row r. -/
def Dev.queue (d : Dev) (r : Nat) : List QEntry := d.net.queues.getD r []

/-- The first entry of queue row r that is no D_HOP frame, with its place. A frame is a D_HOP frame by the epoch of its ingress timestamp
(R129, R130), so entries of both kinds may stand in one queue around a commit. -/
def Dev.plainHead (d : Dev) (r : Nat) : Option (Nat × QEntry) :=
  let q := d.queue r
  ((List.range q.length).zip q).find? fun e => e.2.dhop.isNone

end Sys2Proof.Machine
end

