-- ==== Sys2Proof/Machine/Buffers.lean ====
section
/-!
DEFINITION. The shared buffer and the queues (chapter 08): cells, admission, spill, residue, replication's accounting, flush, frames that
prove bad, and the start of a transmission.
-/
namespace Sys2Proof.Machine

/-! ### Frames and references -/


/-- Frame id. -/
def Dev.frame? (d : Dev) (id : Nat) : Option Frame := d.net.frames.get? id

/-- Set a frame. -/
def Dev.setFrame (id : Nat) (f : Frame) (d : Dev) : Dev := { d with net := { d.net with frames := d.net.frames.set id f } }

/-- Change a frame where it exists. -/
def Dev.modFrame (id : Nat) (g : Frame → Frame) (d : Dev) : Dev :=
  match d.frame? id with
  | some f => d.setFrame id (g f)
  | none => d

/-- A frame's length L, DMAC to FCS. -/
def Frame.len (f : Frame) : Nat := f.bytes.length + 4

/-- Bytes of a frame that have arrived: until its tail, those that its port has taken in since its first byte. -/
def Dev.arrived (d : Dev) (f : Frame) : Nat :=
  if f.tail = 0 then min f.len (max 1 ((d.now - f.ox) * d.portRate f.oport / 64000)) else f.len

/-- Cells a frame holds: they are written as its bytes arrive, ceil(L / 256) in all (R248, R253). -/
def Dev.frameCells (d : Dev) (f : Frame) : Nat := cdiv (d.arrived f) 256

/-- Cells of the frame of an entry. -/
def Dev.cellsOf (d : Dev) (id : Nat) : Nat := ((d.frame? id).map d.frameCells).getD 0

/-- The frames referenced by queue entries, transmissions or the hold queue. -/
def Dev.queuedIds (d : Dev) : List Nat :=
  (d.net.queues.flatMap fun q => (q.2.filter fun e => e.part != 2).map (·.frame)) ++ d.net.tx.map fun t => t.2.entry.frame

/-- The frames referenced by residue entries. -/
def Dev.residueIds (d : Dev) : List Nat := d.net.residue.map fun r => r.copy.entry.frame

/-- Whether anything refers to a frame's cells: a queue's on-chip part, a transmission, the residue, a copy or frame waiting for admission,
a stage, or a way back into a pipeline. -/
def Dev.onChip (d : Dev) (id : Nat) : Bool :=
  d.queuedIds.contains id || d.residueIds.contains id || (d.net.copies.any fun c => c.2.any fun e => e.entry.frame == id) ||
    (d.net.stage.any fun t => t.2.frame == id) || d.net.recirc.contains id || d.net.reentry.contains id ||
    (d.net.slots.any fun s => s.2.state != 0 && s.2.frame == some id)

/-- Whether the HBM part of some queue holds a frame. -/
def Dev.inHbm (d : Dev) (id : Nat) : Bool := d.net.queues.any fun q => q.2.any fun e => e.frame == id && e.part == 2

/-- Release a frame's cells to Releasing once nothing refers to them (R249, R266); forget the frame once its tail has arrived and no HBM
part holds it either. -/
def Dev.settle (id : Nat) (d : Dev) : Dev :=
  match d.frame? id with
  | none => d
  | some f =>
    if d.onChip id then d
    else
      let d := if f.held then { d with net := { d.net with releasing := d.net.releasing + d.frameCells f } } else d
      if f.tail = 0 ∨ d.inHbm id then d.setFrame id { f with held := false }
      else { d with net := { d.net with frames := d.net.frames.erase id } }

/-! ### Cells (R249 to R253) -/

/-- Physical cells of the frames in a state: queued, residue only, or neither. -/
def Dev.cellsIn (d : Dev) (want : Bool → Bool → Bool) : Nat :=
  let q := d.queuedIds
  let r := d.residueIds
  ((d.net.frames.filter fun f => f.2.held && want (q.contains f.1) (r.contains f.1)).map fun f => d.frameCells f.2).sum

/-- Cells in Queued. -/
def Dev.queuedCells (d : Dev) : Nat := d.cellsIn fun q _ => q

/-- Cells in Residue. -/
def Dev.residueCells (d : Dev) : Nat := d.cellsIn fun q r => !q && r

/-- Cells in InFlight. -/
def Dev.inFlightCells (d : Dev) : Nat :=
  let q := d.queuedIds
  let r := d.residueIds
  ((d.net.frames.filter fun f => f.2.held && !q.contains f.1 && !r.contains f.1).map fun f => d.frameCells f.2).sum

/-- Cells in Free: all others but those taken out of service (R492). -/
def Dev.freeCells (d : Dev) : Nat := 393216 - d.queuedCells - d.residueCells - d.inFlightCells - d.net.releasing

/-- Occ of queue row r (R253): the on-chip entries and the frame in transmission. -/
def Dev.occ (d : Dev) (r : Nat) : Nat :=
  (((d.queue r).filter fun e => e.part != 2).map fun e => d.cellsOf e.frame).sum +
    ((d.net.tx.filter fun t => t.2.row == r).map fun t => d.cellsOf t.2.entry.frame).sum

/-- The admission profile of queue row r. -/
def Dev.profile (d : Dev) (r : Nat) : Nat := d.row T.AdmissionProfiles (Row.QueueConfig.profile (d.row T.QueueConfig r))

/-- MIN_CELLS summed over the rows in use (R259): 86,416 at reset, kept by writes of profiles and queues. -/
def Dev.minSum (d : Dev) : Nat :=
  (((List.range 1601).filter rowInUse).map fun r => Row.AdmissionProfiles.minCells (d.profile r)).sum

/-- ReservedUnused (R253): the guarantees less what the non-empty queues use of theirs. -/
def Dev.reservedUnused (d : Dev) : Nat :=
  let rows := (d.net.queues.filter fun q => !q.2.isEmpty).map (·.1) ++
    ((d.net.tx.map fun t => t.2.row).filter fun r => (d.queue r).isEmpty)
  d.get E.ReservedCells - (rows.map fun r => min (Row.AdmissionProfiles.minCells (d.profile r)) (d.occ r)).sum

/-- FreeShared (R253). -/
def Dev.freeShared (d : Dev) : Nat := d.freeCells - (16384 - d.inFlightCells) - d.reservedUnused

/-- FreeCellsLow follows FreeCells down (R281). -/
def Dev.noteFree (d : Dev) : Dev := d.store E.FreeCellsLow (min (d.get E.FreeCellsLow) d.freeCells)

/-- HIGH_WATER of queue row r follows OCC up (R283). -/
def Dev.noteOcc (r : Nat) (d : Dev) : Dev :=
  d.setRowFld T.QueueState r 108 90 (max (Row.QueueState.highWater (d.row T.QueueState r)) (d.occ r))

/-- The rows whose queues hold a frame on chip, or send it. -/
def Dev.rowsHolding (d : Dev) (id : Nat) : List Nat :=
  ((d.net.queues.filter fun q => q.2.any fun e => e.frame == id && e.part != 2).map (·.1)) ++
    ((d.net.tx.filter fun t => t.2.entry.frame == id).map fun t => t.2.row)

/-- The cells of a frame whose bytes have arrived count in the low and high water marks (R281, R283). -/
def Dev.noteArrived (id : Nat) (d : Dev) : Dev := (d.each (d.rowsHolding id) Dev.noteOcc).noteFree

/-! ### Admission (R254, R263) -/

/-- The limit of a queue for a colour, from its profile and FreeShared (R254). -/
def admitLimit (prof shared colour : Nat) : Nat :=
  let alpha := Row.AdmissionProfiles.alpha prof
  let limit := min (Row.AdmissionProfiles.maxCells prof) (Row.AdmissionProfiles.minCells prof + shared * 2 ^ alpha / 256)
  match colour with
  | 0 => limit
  | 1 => limit * Row.AdmissionProfiles.yellow16 prof / 16
  | _ => limit * Row.AdmissionProfiles.red16 prof / 16

/-- The decision of R254. -/
def admits (prof occ shared colour : Nat) : Bool :=
  decide (occ < admitLimit prof shared colour) && (decide (occ < Row.AdmissionProfiles.minCells prof) || decide (1 ≤ shared))

/-- Cells of the HBM part of queue row r. -/
def Dev.hbmPart (d : Dev) (r : Nat) : Nat :=
  (((d.queue r).filter fun e => e.part == 2).map fun e => ((d.frame? e.frame).map fun f => cdiv f.len 256).getD 0).sum

/-- Cells of the head of queue row r. -/
def Dev.headPart (d : Dev) (r : Nat) : Nat := (((d.queue r).filter fun e => e.part == 0).map fun e => d.cellsOf e.frame).sum

/-- Cells of the tail of queue row r. -/
def Dev.tailPart (d : Dev) (r : Nat) : Nat := (((d.queue r).filter fun e => e.part == 1).map fun e => d.cellsOf e.frame).sum

/-- Frames and copies of queue row r on chip, one being sent included. -/
def Dev.framesOn (d : Dev) (r : Nat) : Nat :=
  ((d.queue r).filter fun e => e.part != 2).length + (d.net.tx.filter fun t => t.2.row == r).length

/-- Whether queue row r is spilling (R262). -/
def Dev.spilling (d : Dev) (r : Nat) : Bool :=
  let c := d.row T.QueueConfig r
  ((d.queue r).any fun e => e.part != 0) ||
    (Row.QueueConfig.spill c == 1 && decide (Row.QueueConfig.spillOn c ≤ d.headPart r) && d.hbmUp)

/-- Admission of a colour to queue row r, with the second test of a spilling queue (R254, R263). -/
def Dev.admitsTo (d : Dev) (r colour : Nat) : Bool :=
  let prof := d.profile r
  let k := match colour with
    | 0 => 16
    | 1 => Row.AdmissionProfiles.yellow16 prof
    | _ => Row.AdmissionProfiles.red16 prof
  admits prof (d.occ r) d.freeShared colour &&
    (!d.spilling r || decide (d.hbmPart r < Row.QueueConfig.spillMax (d.row T.QueueConfig r) * 4096 * k / 16))

/-- Count a refused frame or copy by colour (R256). -/
def Dev.countDrop (r colour : Nat) (d : Dev) : Dev :=
  match colour with
  | 0 => d.addRow T.QueueDrops r 319 256 1
  | 1 => d.addRow T.QueueDrops r 255 192 1
  | _ => d.addRow T.QueueDrops r 191 128 1

/-! ### Replicated frames (R270) and mirror copies -/

/-- A replicated frame is resolved once none of its copies is left (R270). -/
def Dev.mcResolve (id : Nat) (d : Dev) : Dev :=
  match d.frame? id with
  | none => d
  | some f =>
    if f.mc ∧ f.mcLeft = 0 then
      let d := (d.inc (E.McFrames f.pl)).modFrame id fun f => { f with mc := false }
      if f.mcJoin = 0 then d.inc (E.McAllDropped f.pl) else d.cond (f.mcDrop != 0) (Dev.inc (E.PartialMulticast f.pl))
    else d

/-- A copy of a replicated frame has joined a queue. -/
def Dev.mcJoined (id : Nat) (d : Dev) : Dev :=
  match d.frame? id with
  | none => d
  | some f =>
    if f.mc then ((d.inc (E.McCopies f.pl)).setFrame id { f with mcLeft := f.mcLeft - 1, mcJoin := f.mcJoin + 1 }).mcResolve id else d

/-- A copy of a replicated frame was dropped; `rule`: by admission or by the residue rules. -/
def Dev.mcDropped (id : Nat) (rule : Bool) (d : Dev) : Dev :=
  match d.frame? id with
  | none => d
  | some f =>
    if f.mc then (d.setFrame id { f with mcLeft := f.mcLeft - 1, mcDrop := f.mcDrop + rule.toNat }).mcResolve id else d

/-- A copy is dropped: a mirror copy counts in MirrorDrops, a copy of the frame in its replication (R270, R271). -/
def Dev.copyGone (cp : Copy) (rule : Bool) (d : Dev) : Dev :=
  let d := match cp.entry.mirror with
    | some m => d.inc (E.MirrorDrops m)
    | none => if cp.own then d else d.mcDropped cp.entry.frame rule
  d.settle cp.entry.frame

/-- A copy has joined a queue. -/
def Dev.copyJoined (cp : Copy) (d : Dev) : Dev :=
  match cp.entry.mirror with
  | some m => d.inc (E.MirrorCopies m)
  | none => if cp.own then d else d.mcJoined cp.entry.frame

/-! ### Starting a transmission -/

/-- Whether a transmission is in progress on port p. -/
def Dev.sending (d : Dev) (p : Nat) : Bool := (d.net.tx.get? p).isSome

/-- Whether port p is UP and no remote fault stops it (R122). -/
def Dev.canSend (d : Dev) (p : Nat) : Bool := decide (96 ≤ p) || (d.portUp p && !(d.port p).remote)

/-- The bytes of an entry as port p sends them. -/
def Dev.entryBytes (d : Dev) (p : Nat) (e : QEntry) : Bytes := d.sentBytes p e.edits (((d.frame? e.frame).map (·.bytes)).getD [])

/-- The length of an entry as sent, with FCS. -/
def Dev.entryLen (d : Dev) (p : Nat) (e : QEntry) : Nat := (d.entryBytes p e).length + 4

/-- Bytes of a transmission that have been sent (R135). -/
def Dev.sentOf (d : Dev) (p : Nat) (t : Tx) : Nat := (d.now - t.x) * d.portRate p / 64000

/-- Bytes a transmission began with. -/
def Tx.total (t : Tx) : Nat := t.entry.rest.getD t.len

/-- Bytes of its frame that a transmission has put out, earlier fragments included. -/
def Dev.reached (d : Dev) (p : Nat) (t : Tx) : Nat := min t.len (t.len - t.total + d.sentOf p t)

/-- The charge of a frame that cut through is corrected to its true length, n bytes (R304). -/
def Dev.cutCorrect (p r n : Nat) (d : Dev) : Dev :=
  let back := d.get (E.MaxFrameBytes p) + 30 - n
  (d.refund r (d.queueShaper r) back).refund (portBucket p) (d.row T.PortShapers p) back

/-- The transmission on port p ends short of its last byte, with what it has put out: `good` is false under an inverted CRC (R276), or where
nothing more is sent (R123). -/
def Dev.endTx (p : Nat) (t : Tx) (d : Dev) : Dev :=
  let n := d.reached p t
  let b := (d.entryBytes p t.entry).take n
  let d := { d with net := { d.net with tx := d.net.tx.erase p } }
  ((d.cond t.cut (Dev.cutCorrect p t.row n)).inc (E.TxErrorEnded p)).emit (.frame d.now p b false)

/-- A preempted frame that waits in row r of port p is ended where its last fragment ended. -/
def Dev.endRest (p r : Nat) (e : QEntry) (d : Dev) : Dev :=
  let n := d.entryLen p e - e.rest.getD 0
  let b := (d.entryBytes p e).take n
  ((d.cond e.cut (Dev.cutCorrect p r n)).inc (E.TxErrorEnded p)).emit (.frame d.now p b false)

/-- Start a frame of queue row r on port p now: shapers are charged, the delay of R312 is noted. A resumed frame is not charged again. -/
def Dev.startTx (p r : Nat) (e : QEntry) (cut : Bool) (d : Dev) : Dev :=
  let n := d.entryLen p e
  let charged := if cut then d.get (E.MaxFrameBytes p) + 30 else n
  let d := if e.rest.isSome then d else
    let d := d.charge r (d.queueShaper r) charged
    let d := d.cond (decide (p < 96)) fun d => d.charge (portBucket p) (d.row T.PortShapers p) charged
    let ns := (d.now - ((d.frame? e.frame).map (·.x)).getD d.now) / 8
    { d with net := { d.net with delay := d.net.delay.set r (max (d.net.delay.getD r 0) ns) } }
  { d with net := { d.net with tx := d.net.tx.set p { row := r, entry := e, x := d.now, len := n, cut := cut || e.cut } } }

/-! ### Destinations and reservations (R132, R265, R297) -/

/-- The members of a replication that remain after pruning (R265), and the number pruned. -/
def Dev.prune (d : Dev) (members port spread : Nat) (ingressToo : Bool) (flood : Bool) : List Nat × Nat :=
  let all := (List.range 98).filter fun p => bit members p && !d.isTether p
  let b := d.row T.PortBridge port
  let ownLag (p : Nat) : Bool := flood && Row.PortBridge.lagValid b == 1 && d.inLag p (Row.PortBridge.lag b)
  let keep (p : Nat) : Bool :=
    !(ingressToo && p == port) && !(decide (p < 96) && ownLag p) &&
    (decide (96 ≤ p) || (
      let r := d.row T.PortBridge p
      (Row.PortBridge.lagValid r == 0 || d.lagPick (Row.PortBridge.lag r) spread == some p) &&
        d.get (E.PortState p) != 0 && d.get (E.PortState p) != 1))
  let l := all.filter keep
  (l, all.length - l.length)

/-- The ports a destination names for a copy or frame (R178, R180, R265): counts what it prunes or refuses. -/
def Dev.portsOf (pl port spread dest : Nat) (d : Dev) : List Nat × Dev :=
  match destKind dest with
  | 0 => ([destOf dest], d)
  | 1 => let d := d.readBad pl T.LagGroups (destOf dest)
    match d.lagPick (destOf dest) spread with
    | some p => ([p], d)
    | none => ([], d.inc (E.LagNoMember pl))
  | 2 =>
    let g := d.row T.McGroups (destOf dest)
    if Row.McGroups.valid g = 0 then ([], d.inc (E.McGroupInvalid pl))
    else
      let (l, n) := d.prune (Row.McGroups.members g) port spread (Row.McGroups.pruneIngress g == 1) false
      let d := d.add (E.McPruned pl) n
      (l, d.cond l.isEmpty (Dev.inc (E.McNoCopy pl)))
  | _ => ([], d.inc (E.DestDrops pl))

/-- The ports that a frame held in an action stage would go to by its context (R132). -/
def Dev.stagePorts (d : Dev) (f : Frame) : List Nat :=
  let from' := if f.port = 100 then f.oport else f.port
  match f.ctx.dest with
  | none => (d.prune (Row.Vlans.members (d.row T.Vlans f.ctx.vid)) from' f.ctx.spread true true).1
  | some x => (d.portsOf f.pl from' f.ctx.spread x).1

/-- The reservations of port p for D_HOP frames on their way to admission (R132): the frame in each action stage and the copies that wait. -/
def Dev.wayReservations (d : Dev) (p : Nat) : List (Nat × Int) :=
  let mii (x : Nat) : Int := x - d.txLatX p
  (d.net.stage.filterMap fun s => match d.frame? s.2.frame with
    | some f =>
      if !s.2.dropped && (decide (f.port < 96) || f.port == 100) && (d.asOf f.x).isDhop p f.ctx.queue && (d.stagePorts f).contains p then
        some (p * 16 + f.ctx.queue, mii f.dhopX)
      else none
    | none => none) ++
  (d.net.copies.flatMap fun q => q.2).filterMap fun c =>
    let ing := ((d.frame? c.entry.frame).map (·.port)).getD 96
    if c.port == p && (decide (ing < 96) || ing == 100) then c.entry.dhop.map fun x => (p * 16 + c.queue, mii x) else none

/-- The reservations of port p for D_HOP frames (R132), in its queues and on their way to them, as (row, MII instant). -/
def Dev.dhopReservations (d : Dev) (p : Nat) : List (Nat × Int) :=
  (([12, 13, 14, 15] : List Nat).flatMap fun q =>
    let r := p * 16 + q
    ((d.queue r).filter fun e => e.dhop.isSome).filterMap fun e => (d.miiOf p e).map fun m => (r, m)) ++ d.wayReservations p

/-- The reservations of port p for the head of each launch queue (R297). -/
def Dev.launchReservations (d : Dev) (p : Nat) : List (Nat × Int) :=
  ([12, 13, 14, 15] : List Nat).filterMap fun q =>
    let r := p * 16 + q
    match d.plainHead r with
    | some (_, e) => (d.miiOf p e).map fun m => (r, m)
    | none => none

/-- Whether a frame of a queue row that takes t (2^-16 ns) from now would still be in transmission at the reserved time of another queue,
one that is still to come (R132). -/
def Dev.meets (d : Dev) (row : Nat) (t : Int) (l : List (Nat × Int)) : Bool :=
  l.any fun e => e.1 != row && decide ((d.now : Int) < e.2) && decide (e.2 < (d.now : Int) + t / 8192)

/-- Whether a frame that takes t (2^-16 ns) on port p from now would meet a reservation of another queue (R132, R297). -/
def Dev.reserved (d : Dev) (p row : Nat) (t : Int) : Bool := d.meets row t (d.dhopReservations p ++ d.launchReservations p)

/-! ### Cut-through (R128) -/

/-- Whether a frame or copy for queue q of port p cuts through (R128, R233, R271, R288, R292). -/
def Dev.cutsThrough (d : Dev) (f : Frame) (p q : Nat) (e : QEntry) : Bool :=
  let r := p * 16 + q
  let n := d.get (E.MaxFrameBytes p) + 30
  let permits (band : Nat) : Bool := d.queuePermits r band && d.portPermits p band
  decide (p < 96) && decide (f.port < 96) && d.getB (E.CutThrough p) && d.canSend p &&
    decide (d.portRate p ≤ d.portRate f.port) && !f.frag && f.tail != 2 && !d.sending p &&
    ((List.range 16).all fun k => (d.queue (p * 16 + k)).isEmpty) &&
    Row.QueueConfig.spill (d.row T.QueueConfig r) == 0 && e.dhop.isNone && e.target.isNone && e.mirror.isNone &&
    !pushesHsr e.edits && bit (d.gates p) q && d.guardOk p q n &&
    (if 12 ≤ q then permits 2 else if 8 ≤ q then permits 3 || permits 5 else permits 4) && !d.reserved p r (d.txTime p (d.get (E.MaxFrameBytes p)))

/-! ### The decision for one frame or copy -/

/-- The key of the residue: queue row, ingress port, class (R268). -/
def Dev.residueKey (d : Dev) (cp : Copy) : Nat × Nat × Nat :=
  (cp.port * 16 + cp.queue, ((d.frame? cp.entry.frame).map (·.port)).getD 0, cp.entry.tc)

/-- Put a copy into the residue, or drop it where the residue is full (R267, R269). -/
def Dev.toResidue (cp : Copy) (d : Dev) : Dev :=
  if 8192 ≤ d.net.residue.length then
    let pl := ((d.frame? cp.entry.frame).map (·.pl)).getD 0
    (d.inc (E.ResidueFull pl)).copyGone cp true
  else
    { d with net := { d.net with residue := d.net.residue ++ [{ copy := cp, key := d.residueKey cp, tick := d.tickNow }] } }

/-- Launch slots in use of a pipeline (R296): entries with a target on its ports. -/
def Dev.slotsInUse (d : Dev) (pl : Nat) : Nat :=
  ((d.net.queues.filter fun q => decide (q.1 < 1536) && plOf (q.1 / 16) == pl).map fun q =>
    (q.2.filter fun e => e.target.isSome).length).sum +
  (d.net.tx.filter fun t => plOf t.1 == pl && t.2.entry.target.isSome).length

/-- An admitted frame or copy joins its queue, or starts at once where it cuts through. -/
def Dev.join (cp : Copy) (d : Dev) : Dev :=
  match d.frame? cp.entry.frame with
  | none => d
  | some f =>
    let r := cp.port * 16 + cp.queue
    let e := { cp.entry with part := if d.spilling r then 1 else 0 }
    let d := if d.cutsThrough f cp.port cp.queue e then
        (d.startTx cp.port r e true).inc (E.CutThroughFrames cp.port)
      else { d with net := { d.net with queues := d.net.queues.set r (d.queue r ++ [e]) } }
    ((d.copyJoined cp).noteOcc r).noteFree

/-- The result of trying a residue entry or a new copy by R254 and R296: joined, refused, or dropped for good. -/
inductive Tried where
  | joined | refused | dropped
  deriving DecidableEq, Repr

/-- R296 steps 1 to 3 and R254 for a frame or copy. -/
def Dev.tryAdmit (cp : Copy) (d : Dev) : Tried × Dev :=
  match d.frame? cp.entry.frame with
  | none => (.dropped, d)
  | some f =>
    let r := cp.port * 16 + cp.queue
    let pl := plOf cp.port
    match cp.entry.target with
    | some t =>
      if (d.tickStart (f.tick + d.get E.LaunchHorizonTicks) : Int) * 65536 < t then
        (.dropped, (d.inc (E.LaunchBeyondHorizon pl)).copyGone cp true)
      else if !d.admitsTo r cp.entry.colour then (.refused, d)
      else if 8192 ≤ d.slotsInUse pl then (.dropped, (d.inc (E.LaunchNoSlot pl)).copyGone cp true)
      else (.joined, d.join cp)
    | none => if d.admitsTo r cp.entry.colour then (.joined, d.join cp) else (.refused, d)

/-- Whether a port takes no frames: it is DOWN or DISABLED (R123, R278). -/
def Dev.downForAdmission (d : Dev) (p : Nat) : Bool := decide (p < 96) && (d.get (E.PortState p) == 0 || d.get (E.PortState p) == 1)

/-- A frame or copy reaches admission (R254 to R256, R266 to R269, R278, R129, R233). -/
def Dev.reachAdmission (cp : Copy) (d : Dev) : Dev :=
  match d.frame? cp.entry.frame with
  | none => d
  | some f =>
    let r := cp.port * 16 + cp.queue
    let limit := (if cp.port < 96 then d.get (E.MaxFrameBytes cp.port) else 9216) +
      (parse (d.get E.ExtraTpid) (d.entryBytes cp.port cp.entry)).tagBytes
    if f.tail = 2 then d.copyGone cp false
    else if d.downForAdmission cp.port then (d.addRow T.PortBufferCounters cp.port 127 64 1).copyGone cp false
    else if limit < d.entryLen cp.port cp.entry && cp.port != 100 then
      (d.inc (E.EgressOversize (if cp.port < 96 then plOf cp.port else f.pl))).copyGone cp false
    else if (d.asOf f.x).isDhop cp.port cp.queue && decide (96 ≤ f.oport) then (d.inc (E.DhopInternalDrops cp.port)).copyGone cp false
    else if cp.entry.mirror.isNone && d.net.residue.any fun e => e.key == d.residueKey cp then d.toResidue cp
    else match d.tryAdmit cp with
      | (.refused, d) =>
        let out := cp.own || cp.entry.mirror.isSome || d.get E.ResidueLimitTicks == 0 || decide (12 ≤ cp.queue)
        if out then (d.countDrop r cp.entry.colour).copyGone cp true
        else
          let full := decide (8192 ≤ d.net.residue.length)
          (d.cond full (Dev.countDrop r cp.entry.colour)).toResidue cp
      | (_, d) => d

/-! ### Residue (R268) -/

/-- The entries of the residue without the one at position i. -/
def residueDrop (l : List Residue) (i : Nat) : List Residue := l.take i ++ l.drop (i + 1)

/-- One residue entry has reached its limit: it is dropped and counted (R268). -/
def Dev.residueExpire (e : Residue) (d : Dev) : Dev :=
  (d.addRow T.QueueDrops e.key.1 127 64 1).copyGone e.copy true

/-- Retry the residue from the front, skipping keys whose first entry failed; fuel is the number of entries (R268). -/
def Dev.residueRetry : Nat → List Residue → List Residue → List (Nat × Nat × Nat) → Dev → Dev
  | 0, rest, kept, _, d => { d with net := { d.net with residue := kept ++ rest } }
  | _, [], kept, _, d => { d with net := { d.net with residue := kept } }
  | fuel + 1, e :: rest, kept, failed, d =>
    if failed.contains e.key then d.residueRetry fuel rest (kept ++ [e]) failed
    else
      let d := { d with net := { d.net with residue := kept ++ rest } }
      match d.tryAdmit e.copy with
      | (.refused, d) =>
        if e.tick + d.get E.ResidueLimitTicks ≤ d.tickNow then (d.residueExpire e).residueRetry fuel rest kept failed
        else d.residueRetry fuel rest (kept ++ [e]) (e.key :: failed)
      | (_, d) => d.residueRetry fuel rest kept failed

/-- The last duty of a boundary: retry the residue (R268). -/
def Dev.residueDuty (d : Dev) : Dev := d.residueRetry d.net.residue.length d.net.residue [] []

/-- RESIDUE_LIMIT_EXPIRY (R268): the entries past their limit are dropped and the next of their key tried. -/
def Dev.residueExpiry (d : Dev) : Dev :=
  if d.net.residue.any fun e => decide (e.tick + d.get E.ResidueLimitTicks ≤ d.tickNow) then d.residueDuty else d

/-! ### Frames that prove bad (R275, R276, R591) -/

/-- End the transmission on port p with an inverted CRC at the point reached (R276). -/
def Dev.stompTx (p : Nat) (d : Dev) : Dev :=
  match d.net.tx.get? p with
  | none => d
  | some t => (d.endTx p t).addRow T.PortBufferCounters p 191 128 1

/-- Whether frame id is being cut through on some port, a preempted frame included. -/
def Dev.isCut (d : Dev) (id : Nat) : Bool :=
  (d.net.tx.any fun t => t.2.cut && t.2.entry.frame == id) ||
    d.net.queues.any fun q => q.2.any fun e => e.frame == id && e.rest.isSome

/-- Remove the queue entries of a frame, giving the row and entry of each; the paddock hold queue keeps its own. -/
def Dev.unqueue (id : Nat) (d : Dev) : List (Nat × QEntry) × Dev :=
  let mine (q : Nat × List QEntry) (e : QEntry) : Bool := e.frame == id && q.1 != 1600
  (d.net.queues.flatMap fun q => (q.2.filter (mine q)).map fun e => (q.1, e),
   { d with net := { d.net with queues := d.net.queues.map fun (q : Nat × List QEntry) => (q.1, q.2.filter fun e => !mine q e) } })

/-- Remove the copies of a frame that wait for their decision or in the residue. -/
def Dev.takeWaiting (id : Nat) (d : Dev) : List Copy × Dev :=
  ((d.net.copies.flatMap fun c => c.2.filter fun e => e.entry.frame == id) ++
      ((d.net.residue.filter fun r => r.copy.entry.frame == id).map (·.copy)),
   { d with net := { d.net with
      copies := d.net.copies.map fun (c : Nat × List Copy) => (c.1, c.2.filter fun e => e.entry.frame != id)
      residue := d.net.residue.filter fun r => r.copy.entry.frame != id } })

/-- The setpoint blocks of a frame deliver nothing (R238). -/
def Dev.blocksLost (id : Nat) (d : Dev) : Dev :=
  match d.frame? id with
  | none => d
  | some f => (d.add (E.SetpointFcsDiscards f.pl) f.blocks.length).setFrame id { f with blocks := [] }

/-- A frame is stomped (R276): STOMP_IN counts once, every transmission of it ends, and the copies that have not started are discarded; it
learns nothing and delivers no setpoint. -/
def Dev.stompFrame (id : Nat) (d : Dev) : Dev :=
  match d.frame? id with
  | none => d
  | some f =>
    let d := ((d.blocksLost id).modFrame id fun f => { f with learn := none, limit := none, fcsBad := true }).addRow T.PortBufferCounters f.port 255 192 1
    let (waiting, d) := d.takeWaiting id
    let d := d.each (d.net.tx.filter fun t => t.2.entry.frame == id) fun t d => d.stompTx t.1
    let (queued, d) := d.unqueue id
    let d := d.each queued fun (r, e) d =>
      let d := match e.mirror with
        | some m => d.inc (E.MirrorDrops m)
        | none => d
      if e.rest.isSome then (d.endRest (r / 16) r e).addRow T.PortBufferCounters (r / 16) 191 128 1
      else d.addRow T.PortBufferCounters (r / 16) 63 0 1
    (d.each waiting fun c d => (d.addRow T.PortBufferCounters c.port 63 0 1).copyGone c false).settle id

/-- A frame proves bad at its tail (R276, R591): a cut-through frame is stomped; a stored one stays queued, marked bad, and what has not been
decided is not admitted and counts in no replication. A frame in an action stage runs its program to the end all the same. -/
def Dev.frameBad (id : Nat) (d : Dev) : Dev :=
  let cut := d.isCut id
  let d := (d.blocksLost id).modFrame id fun f => { f with tail := 2, mc := f.mc && cut, learn := none, limit := none }
  if cut then d.stompFrame id
  else
    let (waiting, d) := d.takeWaiting id
    (d.each waiting fun c d => d.copyGone c false).settle id

/-- A sampled frame is complete: what its record needs is taken; DEST of a flood has no code by R178 and is free (R272, R273; log 3). -/
def Dev.sampleReady (id : Nat) (d : Dev) : Dev :=
  match d.frame? id with
  | none => d
  | some f =>
    if f.tail = 0 ∨ !(d.net.samples.any fun p => p.frame == id && !p.ready) then d
    else
      let (dest, d) := match f.ctx.dest with
        | some x => (x, d)
        | none => d.free 16
      let fill (p : SamplePend) : SamplePend := if p.frame == id && !p.ready then
          { p with ready := true, fcsBad := f.fcsBad, dest, ctx := f.ctx, bytes := f.bytes, port := f.port, len := f.len, time := f.time, x := f.x, acq := f.acq }
        else p
      { d with net := { d.net with samples := d.net.samples.map fill } }

/-! ### Flush (R123) -/

/-- Count a frame freed by a flush of port p. -/
def Dev.countFlush (p id : Nat) (d : Dev) : Dev :=
  (d.inc (E.FlushedFrames p)).add (E.FlushedBytes p) (((d.frame? id).map Frame.len).getD 0)

/-- Empty queue row r of port p (R123, R278). -/
def Dev.flushQueue (p r : Nat) (d : Dev) : Dev :=
  let q := d.queue r
  let d := { d with net := { d.net with queues := d.net.queues.erase r, flast := d.net.flast.erase r } }
  d.each q fun e d =>
    let d := d.cond e.rest.isSome (Dev.endRest p r e)
    ((d.addRow T.QueueDrops r 63 0 1).countFlush p e.frame).settle e.frame

/-- The flush of port p (R123): queues, launch slots, residue, the frame being sent, and frames still arriving from it. -/
def Dev.portFlush (p : Nat) (d : Dev) : Dev :=
  let d := d.upto 16 fun q d => d.flushQueue p (p * 16 + q)
  let d := { d with net := { d.net with vt := d.net.vt.filter fun v => v.1 / 8 != p } }
  let mine := d.net.residue.filter fun r => r.copy.port == p
  let d := { d with net := { d.net with residue := d.net.residue.filter fun r => r.copy.port != p } }
  let d := d.each mine fun r d => (d.countFlush p r.copy.entry.frame).copyGone r.copy false
  let d := match d.net.tx.get? p with
    | none => d
    | some t => ((d.endTx p t).countFlush p t.entry.frame).settle t.entry.frame
  d.each ((d.net.frames.filter fun f => f.2.oport == p && f.2.tail == 0).map (·.1)) fun id d =>
    let d := d.modFrame id fun f => { f with tail := 2, fcsBad := true }
    (d.cond (!d.net.stage.any fun s => s.2.frame == id) (Dev.sampleReady id)).frameBad id

end Sys2Proof.Machine
end

