-- ==== Sys2Proof/Machine/Ports.lean ====
section
/-!
DEFINITION. Ports and lanes (chapter 04): which port belongs to which pipeline, port modes, the port state machine and what a
change of state does.
-/
namespace Sys2Proof.Machine

/-! ### Port modes (R115, R117 to R119) -/

/-- The FecMode values a mode permits, its default first (R117). -/
def fecPermitted (mode : Nat) : List Nat :=
  match mode with
  | 1 | 12 => [2, 1, 0]
  | 2 | 3 | 4 | 5 => [3]
  | 8 | 9 | 10 => [0]
  | 11 => [0, 1]
  | _ => []

/-- Whether a mode is defined for the lane kind and place of port p (R115, R117). -/
def modeFits (p mode : Nat) : Bool :=
  if p < 64 then
    match mode with
    | 1 | 2 | 3 => true
    | 4 => p % 2 == 0
    | 5 => p % 4 == 0
    | _ => false
  else decide (8 ≤ mode) && decide (mode ≤ 12)

/-- The FEC a mode runs with: an explicit FecMode the mode permits, else the mode default (R117, R118). -/
def fecOf (mode fecMode : Nat) : Nat :=
  if (fecPermitted mode).contains fecMode then fecMode else (fecPermitted mode).headD 0

/-- RxMax and TxMax in ns of a mode with a FEC (R117). -/
def latencyMax (mode fec : Nat) : Nat × Nat :=
  match mode, fec with
  | 1, 0 | 12, 0 => (90, 45)
  | 1, 1 | 12, 1 => (150, 60)
  | 1, _ | 12, _ => (270, 95)
  | 2, _ => (230, 75)
  | 3, _ => (160, 55)
  | 4, _ => (150, 50)
  | 5, _ => (140, 45)
  | 8, _ => (420, 260)
  | 9, _ => (440, 270)
  | 10, _ => (210, 130)
  | 11, 1 => (190, 80)
  | 11, _ => (110, 60)
  | _, _ => (0, 0)

/-- The modes in falling order of the Clause 73 priority (R119; log 16). -/
def anPriority : List Nat := [5, 4, 3, 2, 12, 1, 11, 10, 9, 8]

/-- Whether a port negotiates: AnEnable on KR or CR of a mode that has them (R118, R119). -/
def Dev.anUsed (d : Dev) (p : Nat) : Bool :=
  d.getB (E.AnEnable p) && d.get (E.Medium p) != 0 && !([8, 9, 10].contains (d.get (E.PortMode p)))

/-- The highest common ability that can use the port's lanes, or none (R119). -/
def Dev.anResolve (d : Dev) (p partner : Nat) : Option Nat :=
  match anPriority.find? fun m => bit (d.get (E.AnAdvertise p)) m && bit partner m with
  | some m => if modeFits p m && (absorbs p m).all fun q => !d.getB (E.PortEnable q) then some m else none
  | none => none

/-! ### States (R121 to R123) -/

/-- The time entries of a port that goes down (R113). -/
def Dev.portTimeDown (p : Nat) (d : Dev) : Dev :=
  let d := { d with time := { d.time with
    twoStep := d.time.twoStep.filter fun e => e.egress != p
    syncs := d.time.syncs.filter fun e => e.port != p
    ptp := d.time.ptp.set p { (d.time.ptp.getD p {}) with pdReq := none, pdDone := [], pdLost := 0, dreq := [] }
    relays := d.time.relays.filter fun e => e.egress != p } }
  (((d.put (E.CalState p) 0).put (E.LinkDelayValid p) 0).put (E.MeanLinkDelay p) 0).put (E.NeighborRateRatio p) 0

/-- Port p leaves UP or HOLDING for DOWN (1) or DISABLED (0): the flush of R123; LinkDowns counts entries to DOWN. -/
def Dev.portFall (p st : Nat) (d : Dev) : Dev :=
  let was := d.get (E.PortState p)
  let up := was == 4 || was == 5
  let d := d.cond up (Dev.portFlush p)
  let d := d.cond up (Dev.portTimeDown p)
  let d := d.cond (up && st == 1) (Dev.inc (E.LinkDowns p))
  let d := d.setPort p { d.port p with mode := 0, fec := 0, remote := false, verify := 0 }
  let d := (d.put (E.ResolvedMode p) 0).put (E.ResolvedFec p) 0
  let d := (d.put (E.AnStatus p) 0).put (E.VerifyStatus p) 0
  d.put (E.PortState p) st

/-- Port p becomes or stays DISABLED (R121, R123, R527, R552). -/
def Dev.portDisable (p : Nat) (d : Dev) : Dev := d.portFall p 0

/-- What holds port p DISABLED is over: it restarts from DOWN, unless something else still holds it. -/
def Dev.portRelease (p : Nat) (d : Dev) : Dev :=
  if d.portHeld p then d.put (E.PortState p) 0
  else d.cond (d.get (E.PortState p) == 0) (Dev.put (E.PortState p) 1)

/-- An enabled port restarts from DOWN with its flush (R123); LinkDowns counts an entry from UP or HOLDING. -/
def Dev.portRestart (p : Nat) (d : Dev) : Dev := if d.get (E.PortState p) = 0 then d else d.portFall p 1

/-- The ports of a quad take or leave DISABLED as wide modes absorb them (R115). -/
def Dev.absorbUpdate (d : Dev) : Dev :=
  d.each (List.range 64) fun p d =>
    if d.portHeld p then d.cond (d.get (E.PortState p) != 0) (Dev.portDisable p) else d.portRelease p

/-- Signal at an enabled DOWN port (R121): negotiation where it is used, else training. -/
def Dev.signalDetect (p : Nat) (d : Dev) : Dev :=
  if d.power.forwarding && d.get (E.PortState p) == 1 then
    if d.anUsed p then (d.put (E.AnStatus p) 1).put (E.PortState p) 2
    else
      let m := d.get (E.PortMode p)
      (d.setPort p { d.port p with mode := m, fec := fecOf m (d.get (E.FecMode p)) }).put (E.PortState p) 3
  else d

/-- Clause 73 negotiation ends (R119). -/
def Dev.autonegDone (p partner : Nat) (d : Dev) : Dev :=
  if d.get (E.PortState p) = 2 then
    match d.anResolve p partner with
    | some m =>
      let d := d.setPort p { d.port p with mode := m, fec := fecOf m (d.get (E.FecMode p)) }
      (d.put (E.AnStatus p) 2).put (E.PortState p) 3
    | none => d.put (E.AnStatus p) 3
  else d

/-- Preemption verification restarts: from INITIAL where the port verifies, else it is DISABLED (R135, R136). -/
def Dev.verifyStart (p : Nat) (d : Dev) : Dev :=
  (d.setPort p { d.port p with verify := 0 }).put (E.VerifyStatus p) (if d.getB (E.PreemptEnable p) && !d.getB (E.VerifyDisable p) then 1 else 0)

/-- PreemptEnable or VerifyDisable of an UP port is written: a port that begins to verify starts from INITIAL. -/
def Dev.verifyWrite (p : Nat) (d : Dev) : Dev :=
  let on := d.getB (E.PreemptEnable p) && !d.getB (E.VerifyDisable p)
  d.cond (d.get (E.PortState p) == 4 && on != (d.get (E.VerifyStatus p) != 0)) (Dev.verifyStart p)

/-- Entry to UP from TRAINING (R121, R136): calibration starts (R96) and preemption verification restarts. -/
def Dev.trainingDone (p : Nat) (d : Dev) : Dev :=
  if d.get (E.PortState p) = 3 then
    let s := d.port p
    let (rx, tx) := latencyMax s.mode s.fec
    let d := d.setPort p { s with rxPs := rx * 1000, txPs := tx * 1000, remote := false }
    let d := (d.put (E.ResolvedMode p) s.mode).put (E.ResolvedFec p) s.fec
    let d := (d.inc (E.LinkUps p)).put (E.CalState p) 1
    (d.verifyStart p).put (E.PortState p) 4
  else d

/-- Link training times out (R119): back to NEGOTIATING; a port that does not negotiate tries again (log 17). -/
def Dev.trainingTimeout (p : Nat) (d : Dev) : Dev :=
  if d.get (E.PortState p) = 3 && d.anUsed p then (d.put (E.AnStatus p) 1).put (E.PortState p) 2 else d

/-- Loss of lock or signal or a local fault in UP (R122). -/
def Dev.linkLoss (p : Nat) (d : Dev) : Dev :=
  if d.get (E.PortState p) = 4 then
    ((d.setPort p { d.port p with holdX := d.now, remote := false }).put (E.ResolvedMode p) 0).put (E.PortState p) 5
  else d

/-- The end of LinkDownHold of a HOLDING port as a capture. -/
def Dev.holdEnd (d : Dev) (p : Nat) : Nat := (d.port p).holdX + 8000 * d.get (E.LinkDownHold p)

/-- Lock returns before the hold ends: the port is UP again, with its mode, and verifies anew (R122, R136). -/
def Dev.linkRestore (p : Nat) (d : Dev) : Dev :=
  if d.get (E.PortState p) = 5 ∧ d.now < d.holdEnd p then
    ((d.put (E.ResolvedMode p) (d.port p).mode).verifyStart p).put (E.PortState p) 4
  else d

/-- The hold ends first (R122). -/
def Dev.holdExpiry (p : Nat) (d : Dev) : Dev :=
  if d.get (E.PortState p) = 5 ∧ d.holdEnd p ≤ d.now then d.portFall p 1 else d

/-- A received remote fault sequence begins or ends in UP (R122). -/
def Dev.remoteFault (p : Nat) (b : Bool) (d : Dev) : Dev :=
  if d.get (E.PortState p) = 4 then d.setPort p { d.port p with remote := b } else d

/-- Signal is lost in NEGOTIATING or TRAINING (R121). -/
def Dev.signalLoss (p : Nat) (d : Dev) : Dev :=
  if d.get (E.PortState p) = 2 ∨ d.get (E.PortState p) = 3 then (d.put (E.AnStatus p) 0).put (E.PortState p) 1 else d

/-- Calibration of an UP port ends (R96). -/
def Dev.calibrationDone (p : Nat) (ok : Bool) (rxPs txPs : Nat) (d : Dev) : Dev :=
  if d.get (E.PortState p) = 4 ∧ d.get (E.CalState p) = 1 then
    if ok then (d.setPort p { d.port p with rxPs, txPs }).put (E.CalState p) 2
    else (d.put (E.CalState p) 3).report Src.portCalFailed p
  else d

/-- Preemption verification (R135, R136): INITIAL sends a verify frame at the timer, three attempts without an answer fail (log 18);
a received verify frame is answered with a respond frame. -/
def Dev.preemptVerify (p : Nat) (ev : VerifyEvent) (d : Dev) : Dev :=
  let st := d.get (E.VerifyStatus p)
  match ev with
  | .verifyFrame => d.cond (d.canSend p) (Dev.emit (.merge d.now p true))
  | .respondFrame => d.cond (st == 2) (Dev.put (E.VerifyStatus p) 3)
  | .timerEnd =>
    if st = 1 ∨ (st = 2 ∧ (d.port p).verify < 3) then
      let d := d.setPort p { d.port p with verify := (d.port p).verify + 1 }
      ((d.inc (E.TxVerifyFrames p)).put (E.VerifyStatus p) 2).emit (.merge d.now p false)
    else d.cond (st == 2) (Dev.put (E.VerifyStatus p) 4)

/-! ### The commands -/

/-- SIGNAL_DETECT (R121). -/
def execSignalDetect (x p : Nat) (s : State) : Host.Outcome State Fault Refusal := s.live x (Dev.signalDetect p)
/-- AUTONEG_DONE (R119). -/
def execAutonegDone (x p partner : Nat) (s : State) : Host.Outcome State Fault Refusal := s.live x (Dev.autonegDone p partner)
/-- TRAINING_DONE (R121). -/
def execTrainingDone (x p : Nat) (s : State) : Host.Outcome State Fault Refusal := s.live x (Dev.trainingDone p)
/-- TRAINING_TIMEOUT (R119). -/
def execTrainingTimeout (x p : Nat) (s : State) : Host.Outcome State Fault Refusal := s.live x (Dev.trainingTimeout p)
/-- LINK_LOSS (R122). -/
def execLinkLoss (x p : Nat) (s : State) : Host.Outcome State Fault Refusal := s.live x (Dev.linkLoss p)
/-- LINK_RESTORE (R122). -/
def execLinkRestore (x p : Nat) (s : State) : Host.Outcome State Fault Refusal := s.live x (Dev.linkRestore p)
/-- LINK_DOWN_HOLD_EXPIRY (R122). -/
def execLinkDownHoldExpiry (x p : Nat) (s : State) : Host.Outcome State Fault Refusal := s.live x (Dev.holdExpiry p)
/-- REMOTE_FAULT (R122). -/
def execRemoteFault (x p : Nat) (s : State) : Host.Outcome State Fault Refusal := s.live x (Dev.remoteFault p true)
/-- REMOTE_FAULT_END (R122). -/
def execRemoteFaultEnd (x p : Nat) (s : State) : Host.Outcome State Fault Refusal := s.live x (Dev.remoteFault p false)
/-- SIGNAL_LOSS (R121). -/
def execSignalLoss (x p : Nat) (s : State) : Host.Outcome State Fault Refusal := s.live x (Dev.signalLoss p)
/-- PORT_CALIBRATION_DONE (R96). -/
def execPortCalibrationDone (x p : Nat) (ok : Bool) (rxPs txPs : Nat) (s : State) : Host.Outcome State Fault Refusal :=
  s.live x (Dev.calibrationDone p ok rxPs txPs)
/-- PREEMPT_VERIFY (R135). -/
def execPreemptVerify (x p : Nat) (ev : VerifyEvent) (s : State) : Host.Outcome State Fault Refusal := s.live x (Dev.preemptVerify p ev)

end Sys2Proof.Machine
end

