-- ==== Sys2Proof/Machine/PtpBase.lean ====
section
/-!
DEFINITION. Frames of the device's own, and time messages as they leave a port (R95, R99 to R103). The layout of a message is that of
IEEE 1588-2019 and IEEE 802.1AS-2020, which R98 names (PRESUMED).
-/
namespace Sys2Proof.Machine

/-! ### Frames the device sends of itself -/

/-- A new frame of the device in the buffer, complete and good, for pipeline pl as from internal port `port`. Answers its id. -/
def Dev.newFrame (port pl : Nat) (b : Bytes) (d : Dev) : Nat × Dev :=
  let id := d.net.nextId
  let f : Frame := { port, pl, bytes := b, x := d.now, time := d.stamp, tick := d.tickNow, acq := d.acqNow, tail := 1,
                     oport := port, ox := d.now }
  (id, { d with net := { d.net with nextId := id + 1, frames := d.net.frames.set id f } })

/-- A frame of the device's own goes to queue q of an external port (R51, R100); padded to 60 bytes before the FCS. -/
def Dev.sendOwn (port q : Nat) (b : Bytes) (d : Dev) : Dev :=
  let (id, d) := d.newFrame 97 (plOf port) (b ++ List.replicate (60 - b.length) 0)
  d.reachAdmission { port, queue := q, entry := { frame := id, tc := min 7 q }, own := true }

/-- The device's own address on an external port (R232). -/
def Dev.portMac (d : Dev) (p : Nat) : Nat := Row.PortRewrite.portMac (d.row T.PortRewrite p)

/-- An Ethernet header with the four bytes of a VLAN tag. -/
def etherHead (dm sm : Nat) (vlan : Option Nat) (ty : Nat) : Bytes :=
  toBE 6 dm ++ toBE 6 sm ++ ((vlan.map (toBE 4)).getD []) ++ toBE 2 ty

/-! ### The header of a time message (R99) -/

/-- A time message found in a frame: its offset, messageType, domainNumber, majorSdoId, minorSdoId, transport as a bit of Transport, flag twoStep,
correctionField, sourcePortIdentity, sequenceId, and the offset of its UDP header. -/
structure PtpHead where
  off     : Nat
  kind    : Nat
  number  : Nat
  sdo     : Nat
  minor   : Nat
  via     : Nat
  twoStep : Bool
  corr    : Int
  clockId : Nat
  portNum : Nat
  seq     : Nat
  udp     : Option Nat
  deriving DecidableEq, Repr

/-- The time message in a frame. -/
def Dev.ptpHead (d : Dev) (b : Bytes) : Option PtpHead :=
  let p := parse (d.get E.ExtraTpid) b
  p.ptpOff.map fun o =>
    let udp := if p.etype = 0x88F7 then none else p.l4
    { off := o, kind := beAt b o 1 % 16, number := beAt b (o + 4) 1, sdo := beAt b o 1 / 16, minor := beAt b (o + 5) 1
      via := if udp.isNone then 0 else p.kind, twoStep := bit (beAt b (o + 6) 1) 1, corr := sgn 64 (beAt b (o + 8) 8)
      clockId := beAt b (o + 20) 8, portNum := beAt b (o + 28) 2, seq := beAt b (o + 30) 2, udp }

/-- Whether a message belongs to domain i (R99). -/
def Dev.ptpIn (d : Dev) (m : PtpHead) (i : Nat) : Bool :=
  m.number == d.get (E.DomainNumber i) && m.sdo == d.get (E.MajorSdoId i) && m.minor == 0 && bit (d.get (E.Transport i)) m.via

/-- The domains that a message belongs to: both where both describe it (R99). -/
def Dev.ptpDomains (d : Dev) (m : PtpHead) : List Nat := (List.range 2).filter (d.ptpIn m)

/-- The role of port p in domain i; while its CalState is not 2 the port acts as role 0 (R96). -/
def Dev.ptpRole (d : Dev) (p i : Nat) : Nat :=
  if d.get (E.CalState p) ≠ 2 then 0 else if i = 0 then d.get (E.RoleA p) else d.get (E.RoleB p)

/-- Whether port p takes a message instead of forwarding it: a domain's in roles 2 to 4 (R100), and a peer-delay message where peer delay runs (R103). -/
def Dev.ptpTakes (d : Dev) (p : Nat) (m : PtpHead) : Bool :=
  let peer := m.kind == 2 || m.kind == 3 || m.kind == 10
  let l := d.ptpDomains m
  l.any (fun i => decide (2 ≤ d.ptpRole p i)) ||
    (peer && l.contains 0 && (d.get (E.PdelayIntervalTicks p) != 0 || decide (2 ≤ d.ptpRole p 0) || decide (2 ≤ d.ptpRole p 1)))

/-- Asymmetry of port p in units of 2^-16 ns (R97). -/
def Dev.asymmetry (d : Dev) (p : Nat) : Int := sgn 32 (d.get (E.Asymmetry p)) * 65536 / 1000

/-- MeanLinkDelay of port p. -/
def Dev.linkDelay (d : Dev) (p : Nat) : Int := sgn 64 (d.get (E.MeanLinkDelay p))

/-! ### Writing a message -/

/-- Write 16-bit words at an even offset of a message, with the UDP checksum kept right by RFC 1624 and never zeroed (R101). -/
def ptpWords (m : PtpHead) : Nat → Bytes → Bytes → Bytes
  | _, [], b => b
  | _, [_], b => b
  | o, x :: y :: v, b =>
    let new := fromBE [x, y]
    let b' := patch b (m.off + o) [x, y]
    let b' := match m.udp with
      | some u =>
        let hc := beAt b (u + 6) 2
        if hc = 0 then b'
        else
          let n := sumUpdate hc (beAt b (m.off + o) 2) new
          patch b' (u + 6) (toBE 2 (if n = 0 then 65535 else n))
      | none => b'
    ptpWords m (o + 2) v b'

/-- A message with another correctionField. -/
def ptpCorr (m : PtpHead) (c : Int) (b : Bytes) : Bytes := ptpWords m 8 (toBE 8 (enc 64 c)) b

/-- A message with another body timestamp, for a time in units of 2^-16 ns; what is below a nanosecond is left out. -/
def ptpStamp (m : PtpHead) (t : Int) (b : Bytes) : Bytes :=
  let ns := (t / 65536).toNat
  ptpWords m 34 (toBE 6 (ns / 1000000000) ++ toBE 4 (ns % 1000000000)) b

/-- The body timestamp of a message in units of 2^-16 ns. -/
def ptpTime (b : Bytes) (o : Nat) : Int := ((beAt b (o + 34) 6 * 1000000000 + beAt b (o + 40) 4) * 65536 : Nat)

/-- A capture in units of 2^-16 ns of raw time. -/
def rawTime (x : Nat) : Int := (x * 8192 : Nat)

/-- The common header of a message of the device's own (R99, R102): its clockIdentity is UniqueId, its port number p + 1. -/
def Dev.ptpOwnHead (d : Dev) (kind i p seq : Nat) (twoStep : Bool) (corr : Int) (len : Nat) : Bytes :=
  let control := if kind = 0 then 0 else if kind = 1 then 1 else if kind = 8 then 2 else if kind = 9 then 3 else 5
  toBE 1 (d.get (E.MajorSdoId i) * 16 + kind) ++ toBE 1 0x12 ++ toBE 2 len ++ toBE 1 (d.get (E.DomainNumber i)) ++ [0] ++
    toBE 1 (twoStep.toNat * 2) ++ [0] ++ toBE 8 (enc 64 corr) ++ toBE 4 0 ++ toBE 8 (d.get E.UniqueId) ++ toBE 2 (p + 1) ++
    toBE 2 seq ++ toBE 1 control ++ toBE 1 0x7F

/-- The one's complement sum of 16-bit words. -/
def wordSum : Bytes → Nat → Nat
  | x :: y :: b, a => wordSum b (a + fromBE [x, y])
  | [x], a => a + x.toNat * 256
  | [], a => a

/-- A sum folded into 16 bits and complemented. -/
def sumFold (s : Nat) : Nat :=
  let s := s % 65536 + s / 65536
  let s := s % 65536 + s / 65536
  65535 - s

/-- A message as a frame of port p over a transport. The device's own IP address is stated nowhere: it is free (log 3). -/
def Dev.ptpFrame (p via sdo kind : Nat) (msg : Bytes) (d : Dev) : Bytes × Dev :=
  let peer := kind == 2 || kind == 3 || kind == 0xA
  let port := if kind < 4 then 319 else 320
  let n := msg.length + 8
  let udp (pseudo : Nat) : Bytes :=
    let h := toBE 2 port ++ toBE 2 port ++ toBE 2 n
    let c := sumFold (wordSum (h ++ msg) (pseudo + 17 + n))
    h ++ toBE 2 (if c = 0 then 65535 else c) ++ msg
  match via with
  | 1 =>
    let (src, d) := d.free 32
    let dst := if peer then 0xE000006B else 0xE0000181
    let addr := toBE 4 src ++ toBE 4 dst
    let ip (c : Nat) : Bytes := toBE 2 0x4500 ++ toBE 2 (20 + n) ++ toBE 4 0 ++ toBE 2 0x0111 ++ toBE 2 c ++ addr
    let c := sumFold (wordSum (ip 0) 0)
    (etherHead (if peer then 0x01005E00006B else 0x01005E000181) (d.portMac p) none 0x0800 ++ ip c ++ udp (wordSum addr 0), d)
  | 2 =>
    let (src, d) := d.free 128
    let dst := if peer then 0xFF02 * 2 ^ 112 + 0x6B else 0xFF0E * 2 ^ 112 + 0x181
    let addr := toBE 16 src ++ toBE 16 dst
    (etherHead (if peer then 0x33330000006B else 0x333300000181) (d.portMac p) none 0x86DD ++ toBE 4 0x60000000 ++ toBE 2 n ++ toBE 1 17 ++
      toBE 1 1 ++ addr ++ udp (wordSum addr 0), d)
  | _ => (etherHead (if peer || sdo == 1 then 0x0180C200000E else 0x011B19000000) (d.portMac p) none 0x88F7 ++ msg, d)

/-- Send a time message of domain i on port p, on TimeMessageQueue (R102); `k` says what is done to it as it leaves. -/
def Dev.ptpSend (p via i kind : Nat) (msg : Bytes) (k : Option PtpOut) (d : Dev) : Dev :=
  let (b, d) := d.ptpFrame p via (d.get (E.MajorSdoId i)) kind msg
  let (id, d) := d.newFrame 97 (plOf p) (b ++ List.replicate (60 - b.length) 0)
  let d := d.modFrame id fun f => { f with ptp := k }
  let q := d.get E.TimeMessageQueue
  d.reachAdmission { port := p, queue := q, entry := { frame := id, tc := min 7 q }, own := true }

/-- The first transport enabled in a domain. -/
def Dev.ptpVia (d : Dev) (i : Nat) : Nat := ((List.range 3).find? (bit (d.get (E.Transport i)))).getD 0

/-- The time messages of port p. -/
def Dev.ptp (d : Dev) (p : Nat) : PtpPort := d.time.ptp.getD p {}

/-- Change the time messages of port p. -/
def Dev.modPtp (p : Nat) (g : PtpPort → PtpPort) (d : Dev) : Dev := { d with time := { d.time with ptp := d.time.ptp.set p (g (d.ptp p)) } }

/-! ### Relayed Sync messages (R102) -/

/-- cumulativeScaledRateOffset, units of 2^-41, carried on by NeighborRateRatio of port p. -/
def Dev.rateOn (d : Dev) (p : Nat) (csro : Int) : Int :=
  let r := sgn 64 (d.get (E.NeighborRateRatio p))
  csro + r / 128 + csro * r / 281474976710656

/-- A residence time scaled by a rate offset. -/
def scaled (res csro : Int) : Int := res + res * csro / 2199023255552

/-- The offset of the 802.1AS Follow_Up information TLV in a message, where it has one behind its body. -/
def tlvAt (m : Bytes) : Option Nat :=
  if 76 ≤ m.length ∧ beAt m 44 2 = 3 ∧ beAt m 48 3 = 0x0080C2 ∧ beAt m 51 3 = 1 then some 44 else none

/-- cumulativeScaledRateOffset of a message; 0 where it has none. -/
def csroOf (m : Bytes) : Int := match tlvAt m with
  | some o => sgn 32 (beAt m (o + 10) 4)
  | none => 0

/-- What follows the body of a message, with cumulativeScaledRateOffset replaced. -/
def suffixWith (m : Bytes) (csro : Int) : Bytes :=
  let m := match tlvAt m with
    | some o => patch m (o + 10) (toBE 4 (enc 32 csro))
    | none => m
  m.drop 44

/-- The port that is slave of domain i. -/
def Dev.slavePort (d : Dev) (i : Nat) : Option Nat := (List.range 96).find? fun p => d.ptpRole p i == 3

/-- The Follow_Up of a relayed Sync is sent once the Sync has left and the Follow_Up of the received one is there. -/
def Dev.relayTry (r : Relay) (d : Dev) : Dev :=
  match r.out, r.fu with
  | some x, some m =>
    let i := r.domain
    let csro := d.rateOn ((d.slavePort i).getD 0) (csroOf m)
    let corr := r.corr + sgn 64 (beAt m 8 8) + scaled (d.domainTime i x - d.domainTime i r.x) csro
    let body := slice m 34 10 ++ suffixWith m csro
    let d := { d with time := { d.time with relays := d.time.relays.filter fun e => e != r } }
    d.ptpSend r.egress (d.ptpVia i) i 8 (d.ptpOwnHead 8 i r.egress r.mySeq false corr (34 + body.length) ++ body) none
  | _, _ => d

/-- Change the relays that a test picks, and send what is then complete. -/
def Dev.relayUpdate (c : Relay → Bool) (g : Relay → Relay) (d : Dev) : Dev :=
  let hit := (d.time.relays.filter c).map g
  let d := { d with time := { d.time with relays := d.time.relays.map fun e => if c e then g e else e } }
  d.each hit Dev.relayTry

/-! ### A message leaves (R95, R101 to R103) -/

/-- What a two-step Sync or Pdelay_Resp is followed by: a message with a timestamp of what has just left. -/
def Dev.followUp (p i kind : Nat) (m : PtpHead) (t corr : Int) (more : Bytes) (d : Dev) : Dev :=
  let body := toBE 6 ((t / 65536).toNat / 1000000000) ++ toBE 4 ((t / 65536).toNat % 1000000000) ++ more
  d.ptpSend p m.via i kind (d.ptpOwnHead kind i p m.seq false (corr + t % 65536) (34 + body.length) ++ body) none

/-- A message of the device's own leaves port p with egress capture x. -/
def Dev.ptpOwn (p x : Nat) (k : PtpOut) (m : PtpHead) (b : Bytes) (d : Dev) : Bytes × Dev :=
  match k with
  | .sync i =>
    let t := d.domainTime i x
    if d.getB (E.OneStep i) then (ptpCorr m (t % 65536) (ptpStamp m t b), d) else (b, d.followUp p i 8 m t 0 [])
  | .relay i xin corr csro => (ptpCorr m (corr + scaled (d.domainTime i x - d.domainTime i xin) csro) b, d)
  | .relayTwo i seq => (b, d.relayUpdate (fun r => r.egress == p && r.domain == i && r.mySeq == seq && r.out.isNone) fun r => { r with out := some x })
  | .delayReq i => (ptpCorr m (- d.asymmetry p) b, d.modPtp p fun q => { q with dreq := q.dreq.set i (m.seq, some x) })
  | .pdelayReq => (b, d.modPtp p fun q => { q with pdReq := q.pdReq.map fun r => if r.seq = m.seq then { r with t1 := some x } else r })
  | .pdelayResp xin corr =>
    let t3 := rawTime x
    if d.getB (E.OneStep 0) then (ptpCorr m (corr + t3 - rawTime xin) b, d)
    else (b, d.followUp p 0 0xA m t3 corr (slice b (m.off + 44) 10))

/-- A two-step transparent Sync is held for its Follow_Up (R101); with 64 held at the port it goes uncorrected. -/
def Dev.twoStepHold (p i : Nat) (m : PtpHead) (res : Int) (d : Dev) : Dev :=
  if 64 ≤ (d.time.twoStep.filter fun e => e.egress == p).length then d.inc (E.TwoStepOverflow p)
  else { d with time := { d.time with twoStep := d.time.twoStep ++
      [{ egress := p, domain := i, clockId := m.clockId, portNum := m.portNum, seq := m.seq, residence := res, tick := d.net.bounds }] } }

/-- A forwarded message leaves port p with egress capture x: the corrections of a transparent clock, in the first of the message's domains in which
its ingress port is one (R101; log 147), with delayAsymmetry as IEEE 1588 gives its sign: a Sync and a Pdelay_Resp add that of their ingress port, a
Delay_Req and a Pdelay_Req take that of their egress port off (R97). -/
def Dev.ptpThrough (p x : Nat) (f : Frame) (m : PtpHead) (b : Bytes) (d : Dev) : Bytes × Dev :=
  match (d.ptpDomains m).find? fun i => d.ptpRole f.oport i == 1 with
  | none => (b, d)
  | some i =>
    if d.get (E.CalState p) ≠ 2 then (b, d)
    else
      let res := d.domainTime i x - d.domainTime i f.ox
      let link := (if d.get (E.DelayMechanism i) = 2 then d.linkDelay f.oport else 0) + d.asymmetry f.oport
      match m.kind with
      | 0 => if d.getB (E.OneStep i) then (ptpCorr m (m.corr + res + link) b, d) else (b, d.twoStepHold p i m (res + link))
      | 1 | 2 => (ptpCorr m (m.corr + res - d.asymmetry p) b, d)
      | 3 => (ptpCorr m (m.corr + res + d.asymmetry f.oport) b, d)
      | 8 =>
        match d.time.twoStep.find? fun e =>
            e.egress == p && e.domain == i && e.clockId == m.clockId && e.portNum == m.portNum && e.seq == m.seq with
        | some e => (ptpCorr m (m.corr + e.residence) b, { d with time := { d.time with twoStep := d.time.twoStep.filter (· != e) } })
        | none => (b, d)
      | _ => (b, d)

/-- A frame has left external port p: what a time message carries is written, and its egress capture is taken. -/
def Dev.ptpLeave (p : Nat) (t : Tx) (b : Bytes) (d : Dev) : Bytes × Dev :=
  match d.frame? t.entry.frame, d.ptpHead b with
  | some f, some m =>
    let x := d.egressX p (t.entry.firstX.getD t.x)
    match f.ptp with
    | some k => d.ptpOwn p x k m b
    | none => if p < 96 ∧ f.oport < 96 ∧ t.entry.mirror.isNone then d.ptpThrough p x f m b else (b, d)
  | _, _ => (b, d)

end Sys2Proof.Machine
end

