-- ==== Sys2Proof/Machine/Sched.lean ====
section
/-!
DEFINITION. Choosing and sending the next frame of an external port (R285 to R302), D_HOP and launched frames (R129 to R134, R296 to R299),
preemption (R135), the end of a transmission, and the spill engine (R262 to R264).
-/
namespace Sys2Proof.Machine

/-! ### Queue heads -/

/-- Set queue row r. -/
def Dev.setQueue (r : Nat) (q : List QEntry) (d : Dev) : Dev :=
  { d with net := { d.net with queues := if q.isEmpty then d.net.queues.erase r else d.net.queues.set r q } }

/-- An entry leaves its queue unsent and uncounted (R591); a mirror copy counts in MirrorDrops (R271). -/
def Dev.entryGone (e : QEntry) (d : Dev) : Dev :=
  let d := match e.mirror with
    | some m => d.inc (E.MirrorDrops m)
    | none => d
  (d.settle e.frame).noteFree

/-- The bad entries at the head of a queue, and what is left of it; D_HOP entries wait for their own turn. -/
def splitBad (bad : QEntry → Bool) : List QEntry → List QEntry × List QEntry
  | [] => ([], [])
  | e :: l =>
    if e.dhop.isSome then let (g, k) := splitBad bad l; (g, e :: k)
    else if bad e then let (g, k) := splitBad bad l; (e :: g, k)
    else ([], e :: l)

/-- Frames that proved bad and have reached the head of queue row r are discarded (R591). -/
def Dev.dropBad (r : Nat) (d : Dev) : Dev :=
  let isBad (e : QEntry) : Bool := e.rest.isNone && ((d.frame? e.frame).map (·.tail)).getD 2 == 2
  let (gone, kept) := splitBad isBad (d.queue r)
  (d.setQueue r kept).each gone Dev.entryGone

/-- Change entry i of queue row r. -/
def Dev.setEntry (r i : Nat) (e : QEntry) (d : Dev) : Dev := d.setQueue r ((d.queue r).set i e)

/-- Whether an entry may be sent at all: it is on chip at the head and has proved good, or is the rest of a preempted frame. -/
def Dev.sendable (d : Dev) (e : QEntry) : Bool :=
  e.part == 0 && (e.rest.isSome || ((d.frame? e.frame).map (·.tail)).getD 2 == 1)

/-- Bytes an entry has still to send, FCS included. -/
def Dev.leftOf (d : Dev) (p : Nat) (e : QEntry) : Nat := e.rest.getD (d.entryLen p e)

/-- The queue of port p that holds a preempted frame (R287). -/
def Dev.preemptedRow (d : Dev) (p : Nat) : Option Nat :=
  ((List.range 16).map fun q => p * 16 + q).find? fun r => (d.queue r).any fun e => e.rest.isSome

/-- Whether queue q of port p offers its head frame in a band (R285, R292). -/
def Dev.offerable (d : Dev) (p q band : Nat) : Bool :=
  let r := p * 16 + q
  match d.plainHead r with
  | none => false
  | some (_, e) => d.sendable e && d.guardOk p q (d.leftOf p e) && d.queuePermits r band && d.portPermits p band

/-- Whether no reservation and no preempted frame keeps the head of queue q of port p from starting (R132, R287, R297). A launched head
whose target has been reached yields to D_HOP frames only: between launched frames band 2 decides (R285, R299). -/
def Dev.mayStart (d : Dev) (p q : Nat) : Bool :=
  let r := p * 16 + q
  match d.plainHead r with
  | none => false
  | some (_, e) =>
    let t := d.txTime p (d.leftOf p e)
    let due := e.target.isSome && match d.miiOf p e with
      | some m => decide (m ≤ (d.now : Int))
      | none => false
    !(if due then d.meets r t (d.dhopReservations p) else d.reserved p r t) &&
      (!d.preemptable p q || (match d.preemptedRow p with
        | some r' => r' == r
        | none => true))

/-- Whether the head of queue q of port p is a candidate of a band. -/
def Dev.offers (d : Dev) (p q band : Nat) : Bool := d.offerable p q band && d.mayStart p q

/-- Held heads count once in GuardHolds: the gate is open, but not for long enough (R292). -/
def Dev.guardHold (p q : Nat) (d : Dev) : Dev :=
  let r := p * 16 + q
  match d.plainHead r with
  | some (i, e) =>
    if !e.held && d.sendable e && bit (d.gates p) q && !d.guardOk p q (d.leftOf p e) then
      (d.setEntry r i { e with held := true }).inc (E.GuardHolds p)
    else d
  | none => d

/-! ### Fair queuing (R300, R301) -/

/-- Whether a comes before b by their signed difference modulo 2^48. -/
def before48 (a b : Nat) : Bool := decide (0 < (b + 2 ^ 48 - a) % 2 ^ 48) && decide ((b + 2 ^ 48 - a) % 2 ^ 48 < 2 ^ 47)

/-- The later of two 48-bit tags. -/
def max48 (a b : Nat) : Nat := if before48 a b then b else a

/-- The priority group of queue row r. -/
def Dev.group (d : Dev) (r : Nat) : Nat := Row.QueueSched.group (d.row T.QueueSched r)

/-- Tag the heads of Q0 to Q7 of port p that have become offerable, and forget the tags of those that are held (R301). A reservation does
not hold a head in this sense: its tag stands. -/
def Dev.tagHeads (p : Nat) (offered : Nat → Bool) (d : Dev) : Dev :=
  d.upto 8 fun q d =>
    let r := p * 16 + q
    match d.queue r with
    | e :: l =>
      if !offered q then d.setQueue r ({ e with tag := none } :: l)
      else if e.tag.isSome then d
      else
        let s := max48 (d.net.vt.getD (p * 8 + d.group r) 0) (d.net.flast.getD r 0)
        let cost := d.leftOf p e + 20
        let f := (s + cost * 4096 / max 1 (Row.QueueSched.weight (d.row T.QueueSched r))) % 2 ^ 48
        d.setQueue r ({ e with tag := some f } :: l)
    | [] => d

/-- The queue of port p that band 4 serves: the highest group, then the smallest tag, then the higher queue number (R300, R301). -/
def Dev.fairPick (d : Dev) (p : Nat) (offered : Nat → Bool) : Option Nat :=
  let qs := ((List.range 8).reverse).filter offered
  let top := qs.foldl (fun m q => max m (d.group (p * 16 + q))) 0
  let tag (q : Nat) : Nat := match d.queue (p * 16 + q) with
    | e :: _ => e.tag.getD 0
    | [] => 0
  (qs.filter fun q => d.group (p * 16 + q) == top).foldl (fun m q => match m with
    | none => some q
    | some b => some (if before48 (tag q) (tag b) then q else b)) none

/-- Service of queue q in band 4: V and F_last become F. -/
def Dev.fairServe (p q : Nat) (d : Dev) : Dev :=
  let r := p * 16 + q
  match d.queue r with
  | e :: _ =>
    let f := e.tag.getD 0
    { d with net := { d.net with vt := d.net.vt.set (p * 8 + d.group r) f, flast := d.net.flast.set r f } }
  | [] => d

/-! ### D_HOP and launched frames -/

/-- The D_HOP entry of port p whose MII instant has come, first in target order, then by ingress port (R134): row, index, entry. `can` says
which rows may offer one. -/
def Dev.dhopDue (d : Dev) (p : Nat) (can : Nat → Bool) : Option (Nat × Nat × QEntry) :=
  let all := ([12, 13, 14, 15] : List Nat).flatMap fun q =>
    let r := p * 16 + q
    ((List.range (d.queue r).length).zip (d.queue r)).map fun (i, e) => (r, i, e)
  let due := all.filter fun a => a.2.2.dhop.isSome && a.2.2.part == 0 && can a.1 && match d.miiOf p a.2.2 with
    | some m => decide (m ≤ d.now)
    | none => false
  let key (a : Nat × Nat × QEntry) : Nat × Nat := (a.2.2.dhop.getD 0, ((d.frame? a.2.2.frame).map (·.port)).getD 0)
  due.foldl (fun m a => match m with
    | none => some a
    | some b => some (if (key a).1 < (key b).1 ∨ ((key a).1 = (key b).1 ∧ (key a).2 < (key b).2) then a else b)) none

/-- The D_HOP entry that port p may start: of a queue whose shaper permits it (R285, R305). -/
def Dev.dhopNext (d : Dev) (p : Nat) : Option (Nat × Nat × QEntry) := d.dhopDue p fun r => d.queuePermits r 1

/-- Take entry i out of queue row r. -/
def Dev.takeEntry (r i : Nat) (d : Dev) : Dev := d.setQueue r ((d.queue r).take i ++ (d.queue r).drop (i + 1))

/-- How far now has passed an entry's MII instant, in captures. -/
def Dev.lateBy (d : Dev) (p : Nat) (e : QEntry) : Int := match d.miiOf p e with
  | some m => d.now - m
  | none => 0

/-- A D_HOP entry is dropped as late: counted, its reservation gone (R132, R134). -/
def Dev.dhopDrop (p r i : Nat) (e : QEntry) (d : Dev) : Dev := ((d.inc (E.DhopLate p)).takeEntry r i).entryGone e

/-- Whether a D_HOP entry is late (R134). -/
def Dev.dhopIsLate (d : Dev) (p : Nat) (e : QEntry) : Bool := decide ((8 * d.get (E.DhopLateTolerance p) : Int) < d.lateBy p e)

/-- Band 1: the due D_HOP frame starts; a late one is dropped or sent at once (R134). Answers whether the port has started a frame. -/
def Dev.dhopBand (p : Nat) : Nat → Dev → Bool × Dev
  | 0, d => (false, d)
  | fuel + 1, d =>
    match d.dhopNext p with
    | none => (false, d)
    | some (r, i, e) =>
      if ((d.frame? e.frame).map (·.tail)).getD 2 = 2 then ((d.takeEntry r i).entryGone e).dhopBand p fuel
      else if !d.sendable e then (false, d)
      else if d.dhopIsLate p e then
        if d.get (E.DhopLateAction p) = 0 then (d.dhopDrop p r i e).dhopBand p fuel
        else (true, ((d.inc (E.DhopLate p)).takeEntry r i).startTx p r e false)
      else (true, (d.takeEntry r i).startTx p r e false)

/-- Whether a launched head is late (R299). -/
def Dev.launchIsLate (d : Dev) (p r : Nat) (e : QEntry) : Bool :=
  decide ((8 * Row.QueueSched.launchTol (d.row T.QueueSched r) : Int) < d.lateBy p e)

/-- Late launched heads of port p with LATE_ACTION 0, or on a port in HOLDING, are dropped (R299); fuel bounds each queue. -/
def Dev.launchLate (p : Nat) : Nat → Nat → Dev → Dev
  | 0, _, d => d
  | fuel + 1, q, d =>
    let r := p * 16 + q
    match d.plainHead r with
    | some (i, e) =>
      let act := Row.QueueSched.lateAction (d.row T.QueueSched r) == 0 || d.get (E.PortState p) == 5
      if e.target.isSome && e.rest.isNone && d.launchIsLate p r e && act then
        let d := (d.addRow T.QueueTxCounters r 127 64 1).addRow T.QueueTxCounters r 63 0 1
        ((d.takeEntry r i).entryGone e).launchLate p fuel q
      else d
    | none => d

/-- Band 2 (R285): heads whose target has come by earliest target, then heads without a target; the higher queue on equal terms. -/
def Dev.band2 (d : Dev) (p : Nat) : Option Nat :=
  let qs := ([15, 14, 13, 12] : List Nat).filter fun q => d.offers p q 2
  let head (q : Nat) : Option QEntry := (d.plainHead (p * 16 + q)).map (·.2)
  let due := qs.filter fun q => match head q with
    | some e => e.target.isSome && decide (0 ≤ d.lateBy p e)
    | none => false
  let t (q : Nat) : Int := ((head q).bind (·.target)).getD 0
  match due.foldl (fun (m : Option Nat) q => match m with
    | none => some q
    | some b => some (if t q < t b then q else b)) none with
  | some q => some q
  | none => qs.find? fun q => match head q with
    | some e => e.target.isNone
    | none => false

/-! ### Preemption (R135, R287, R292) -/

/-- Whether the transmission on port p can be preempted now: a fragment of at least 64 * (1 + AddFragSize) bytes is out, and at least 64
remain (R135; log 21). -/
def Dev.canPreempt (d : Dev) (p : Nat) (t : Tx) : Bool :=
  d.preemptable p (t.row % 16) && decide (64 * (1 + d.get (E.AddFragSize p)) ≤ d.sentOf p t) && decide (d.sentOf p t + 64 ≤ t.total)

/-- Preempt the transmission on port p: the rest goes back to the head of its queue (R287). `hold`: for a reservation or a gate. -/
def Dev.preempt (p : Nat) (t : Tx) (hold : Bool) (d : Dev) : Dev :=
  let e : QEntry := { t.entry with
    rest := some (t.total - d.sentOf p t), tag := none, counted := true, firstX := some (t.entry.firstX.getD t.x), cut := t.cut }
  let d := { d with net := { d.net with tx := d.net.tx.erase p } }
  let d := d.setQueue t.row (e :: d.queue t.row)
  let d := d.inc (E.TxFragments p)
  let d := d.cond (!t.entry.counted) (Dev.inc (E.TxPreempted p))
  d.cond hold (Dev.inc (E.TxHolds p))

/-! ### EGRESS_SELECT (R285) -/

/-- Start the head of queue q on port p. -/
def Dev.startHead (p q : Nat) (d : Dev) : Dev :=
  let r := p * 16 + q
  match d.plainHead r with
  | some (i, e) =>
    let d := d.cond (e.target.isSome && e.rest.isNone) fun d =>
      if d.launchIsLate p r e then d.addRow T.QueueTxCounters r 127 64 1 else d.addRow T.QueueTxCounters r 191 128 1
    (d.takeEntry r i).startTx p r e false
  | none => d

/-- Bands 2 to 5 on port p: the queue chosen and the state with the tags of band 4. -/
def Dev.bands (p : Nat) (d : Dev) : Option Nat × Dev :=
  let hi : List Nat := [11, 10, 9, 8]
  let d' := d.tagHeads p fun q => d.offerable p q 4
  match d.band2 p with
  | some q => (some q, d')
  | none => match hi.find? fun q => d.offers p q 3 with
    | some q => (some q, d')
    | none => match d'.fairPick p fun q => d.offers p q 4 with
      | some q => (some q, d'.fairServe p q)
      | none => (hi.find? fun q => d.offers p q 5, d')

/-- The MAC of port p could start a frame (R285): D_HOP first, then bands 2 to 5. -/
def Dev.selectIdle (p : Nat) (d : Dev) : Dev :=
  match d.dhopBand p 64 with
  | (true, d) => d
  | (false, d) => match d.bands p with
    | (some q, d) => d.startHead p q
    | (none, d) => d

/-- The heads of port p are made ready: bad frames leave, late launched frames leave, guard holds are counted. -/
def Dev.readyHeads (p : Nat) (d : Dev) : Dev :=
  let d := d.upto 16 fun q d => d.dropBad (p * 16 + q)
  let d := d.each [12, 13, 14, 15] fun q d => d.launchLate p 64 q
  d.upto 16 fun q d => d.guardHold p q

/-- EGRESS_SELECT on an external port: while a preemptable frame is in transmission, an express candidate or a reservation preempts it. -/
def Dev.select (p : Nat) (d : Dev) : Dev :=
  if !d.canSend p then d
  else
    let d := d.readyHeads p
    match d.net.tx.get? p with
    | none => d.selectIdle p
    | some t =>
      if !d.canPreempt p t then d
      else
        let left := d.txTime p (t.total - d.sentOf p t)
        let express := match (d.bands p).1 with
          | some q => !d.preemptable p q
          | none => false
        if (d.dhopNext p).isSome || express then (d.preempt p t false).selectIdle p
        else if d.reserved p t.row left then d.preempt p t true
        else d

/-- The cell named by an ECC error of a read: the spec gives cells no place in a frame, so it is a free value (log 3). -/
def Dev.eccCell (d : Dev) : Nat × Dev :=
  let (v, d) := d.free 19
  (v % 393216, d)

/-- The ECC result of a cell read is counted and raises its fault (R279). -/
def Dev.eccCount (ecc : EccResult) (d : Dev) : Dev :=
  match ecc with
  | .clean => d
  | .corrected =>
    let (c, d) := d.eccCell
    (d.inc E.EccCorrected).report Src.bufferEccCorrected c
  | .uncorrected =>
    let (c, d) := d.eccCell
    (d.inc E.EccUncorrected).report Src.bufferEccUncorrected c

/-- A cell read of the frame on port p with its ECC result: an uncorrected error drops the frame before its start and stomps it after (R279). -/
def Dev.cellEcc (p : Nat) (ecc : EccResult) (started : Bool) (d : Dev) : Dev :=
  let d := d.eccCount ecc
  if ecc ≠ .uncorrected then d
  else
    match d.net.tx.get? p with
    | none => d
    | some t =>
      if started then d.stompFrame t.entry.frame
      else ({ d with net := { d.net with tx := d.net.tx.erase p } }).settle t.entry.frame

/-- EGRESS_SELECT of an external port, with the ECC result of the first cell read. -/
def Dev.egressSelect (p : Nat) (ecc : EccResult) (d : Dev) : Dev :=
  let was := (d.net.tx.get? p).map fun t => (t.row, t.x, t.entry)
  let d := d.select p
  let now := (d.net.tx.get? p).map fun t => (t.row, t.x, t.entry)
  if now.isSome && now != was then d.cellEcc p ecc false else d

/-! ### The end of a transmission (R249, R138) -/

/-- Count a good frame of n bytes (FCS included) in the MAC counters (R138); the keys are Frames, Octets, Unicast, Multicast, Broadcast. -/
def Dev.macCount (kF kO kU kM kB : Nat) (b : Bytes) (d : Dev) : Dev :=
  let mac := beAt b 0 6
  let d := (d.inc kF).add kO (b.length + 4)
  d.inc (if mac = 2 ^ 48 - 1 then kB else if isGroup mac then kM else kU)

/-- The last byte on port p is sent: counters, the shaper's correction, and the cells pass to Releasing. -/
def Dev.txDone (p : Nat) (ecc : EccResult) (d : Dev) : Dev :=
  match d.net.tx.get? p with
  | none => d
  | some t =>
    let f := d.frame? t.entry.frame
    let tail : Nat := (f.map (·.tail)).getD 1
    if ((d.now - t.x) * d.portRate p < t.total * 64000 ∧ p < 96) ∨ tail = 0 then d
    else
      let d := d.cellEcc p ecc true
      if !d.sending p then d
      else
        let b := d.entryBytes p t.entry
        let d := { d with net := { d.net with tx := d.net.tx.erase p } }
        let d := d.cond t.cut (Dev.cutCorrect p t.row t.len)
        let d := d.macCount (E.TxFrames p) (E.TxOctets p) (E.TxUnicast p) (E.TxMulticast p) (E.TxBroadcast p) b
        let d := (d.addRow T.QueueTxCounters t.row 319 256 1).addRow T.QueueTxCounters t.row 255 192 t.len
        let d := d.cond t.entry.rest.isSome (Dev.inc (E.TxFragments p))
        let d := d.cond t.entry.dhop.isSome (Dev.inc (E.DhopSent p))
        let (b, d) := d.ptpLeave p t b
        let d := d.emit (.frame d.now p b true)
        (d.settle t.entry.frame).noteFree

/-- Releasing cells return to Free (R249). -/
def Dev.cellRelease (n : Nat) (d : Dev) : Dev := { d with net := { d.net with releasing := d.net.releasing - n } }

/-! ### DHOP_LAUNCH and LAUNCH_TARGET -/

/-- In HOLDING, D_HOP frames whose time has passed are dropped as late (R122). -/
def Dev.dhopHolding (p : Nat) : Nat → Dev → Dev
  | 0, d => d
  | fuel + 1, d =>
    match d.dhopDue p fun _ => true with
    | some (r, i, e) => if d.dhopIsLate p e then (d.dhopDrop p r i e).dhopHolding p fuel else d
    | none => d

/-- A D_HOP frame's target arrives: it is sent, or judged late (R134). -/
def Dev.dhopLaunch (p : Nat) (d : Dev) : Dev :=
  if d.get (E.PortState p) = 5 then d.dhopHolding p 64 else if (d.dhopNext p).isSome then d.select p else d

/-- A launched frame's target arrives: it is sent, or judged late (R297, R299). -/
def Dev.launchTarget (p q : Nat) (d : Dev) : Dev :=
  if q < 12 ∨ 15 < q then d
  else if d.get (E.PortState p) = 5 then d.launchLate p 64 q
  else match d.plainHead (p * 16 + q) with
    | some (_, e) => if e.target.isSome && decide (0 ≤ d.lateBy p e) then d.select p else d
    | none => d

/-! ### The weave's window edges (R291, R292) -/

/-- A window of port p starts: held heads lose their tags, and a preemptable frame whose gate has closed is preempted. -/
def Dev.windowOpen (p : Nat) (d : Dev) : Dev :=
  let g := d.gates p
  let d := d.upto 8 fun q d => match d.queue (p * 16 + q) with
    | e :: l => if bit g q then d else d.setQueue (p * 16 + q) ({ e with tag := none } :: l)
    | [] => d
  match d.net.tx.get? p with
  | some t => if !bit g (t.row % 16) && t.entry.dhop.isNone && d.canPreempt p t then d.preempt p t true else d
  | none => d

/-! ### Spill (R262 to R264) -/

/-- Position of the first entry of a part. -/
def firstPart (k : Nat) (q : List QEntry) : Option (Nat × QEntry) := ((List.range q.length).zip q).find? fun e => e.2.part == k

/-- Cells of all HBM parts (SpillCells, R284). -/
def Dev.spillCells (d : Dev) : Nat := ((d.net.queues.map (·.1)).map d.hbmPart).sum

/-- Whether n more cells of queue row r find room among the 393,216 pages of 64 KiB of the spill region, of which each queue holds whole ones
(R480). -/
def Dev.spillFits (d : Dev) (r n : Nat) : Bool :=
  let rows := d.net.queues.map (·.1)
  decide ((rows.map fun q => cdiv (d.hbmPart q + if q = r then n else 0) 256).sum ≤ 393216)

/-- SPILL_WRITE: the oldest tail frame of queue row r goes whole to the HBM part and its cells are released (R262, R263). -/
def Dev.spillWrite (r : Nat) (d : Dev) : Dev :=
  if !d.hbmUp then d
  else match firstPart 1 (d.queue r) with
    | none => d
    | some (i, e) =>
      match d.frame? e.frame with
      | none => d
      | some f =>
        if f.tail = 0 then d
        else
          let put (e : QEntry) (d : Dev) : Dev := d.setQueue r ((d.queue r).take i ++ e :: (d.queue r).drop (i + 1))
          if !d.spillFits r (cdiv f.len 256) then
            if e.counted then d else (put { e with counted := true } d).inc E.SpillNoSpace
          else
            (put { e with part := 2, counted := false } d).settle e.frame

/-- SPILL_READBACK: the oldest HBM frame moves back into the head while it holds fewer than SPILL_ON cells (R262). -/
def Dev.spillReadback (r : Nat) (d : Dev) : Dev :=
  if !d.hbmUp ∨ Row.QueueConfig.spillOn (d.row T.QueueConfig r) ≤ d.headPart r then d
  else match firstPart 2 (d.queue r) with
    | none => d
    | some (i, e) =>
      let d := d.setQueue r ((d.queue r).take i ++ { e with part := 0 } :: (d.queue r).drop (i + 1))
      ((d.modFrame e.frame fun f => { f with held := true }).noteOcc r).noteFree

/-- HBM becomes unavailable: the frames in the HBM parts are lost (R264). -/
def Dev.spillLoss (d : Dev) : Dev :=
  let rows := (d.net.queues.filter fun q => q.2.any fun e => e.part == 2).map (·.1)
  d.each rows fun r d =>
    let lost := (d.queue r).filter fun e => e.part == 2
    let d := d.setQueue r ((d.queue r).filter fun e => e.part != 2)
    let d := (d.add E.SpillLost lost.length).report Src.spillLost r
    d.each lost fun e d => d.settle e.frame

/-! ### The commands -/

/-- TRANSMIT_COMPLETE (R249). -/
def execTransmitComplete (x p : Nat) (ecc : EccResult) (s : State) : Host.Outcome State Fault Refusal := s.live x (Dev.txDone p ecc)
/-- CELL_RELEASE (R249). -/
def execCellRelease (x n : Nat) (s : State) : Host.Outcome State Fault Refusal := s.live x (Dev.cellRelease n)
/-- DHOP_LAUNCH (R134). -/
def execDhopLaunch (x p : Nat) (s : State) : Host.Outcome State Fault Refusal := s.live x (Dev.dhopLaunch p)
/-- LAUNCH_TARGET (R299). -/
def execLaunchTarget (x p q : Nat) (s : State) : Host.Outcome State Fault Refusal := s.live x (Dev.launchTarget p q)
/-- WEAVE_WINDOW_OPEN (R291). -/
def execWeaveWindowOpen (x p : Nat) (s : State) : Host.Outcome State Fault Refusal := s.live x (Dev.windowOpen p)
/-- SPILL_WRITE (R262). -/
def execSpillWrite (x r : Nat) (s : State) : Host.Outcome State Fault Refusal := s.live x (Dev.spillWrite r)
/-- SPILL_READBACK (R262). -/
def execSpillReadback (x r : Nat) (s : State) : Host.Outcome State Fault Refusal := s.live x (Dev.spillReadback r)
/-- RESIDUE_LIMIT_EXPIRY (R268). -/
def execResidueLimitExpiry (x : Nat) (s : State) : Host.Outcome State Fault Refusal := s.live x Dev.residueExpiry
/-- RECOVERY_RESET_EXPIRY (R204). -/
def execRecoveryResetExpiry (x n : Nat) (s : State) : Host.Outcome State Fault Refusal := s.live x (Dev.recExpiry n)

end Sys2Proof.Machine
end

