-- ==== Sys2Proof/Machine/Tether.lean ====
section
/-!
DEFINITION. The tether between the members of a pair, sending side (R397 to R399, R403, R405), and PairEvents (R427).
-/
namespace Sys2Proof.Machine

/-- Change the pair unit. -/
def Dev.modPair (g : PairSt → PairSt) (d : Dev) : Dev := { d with pair := g d.pair }

/-- A row of PairEvents (R427). -/
def Dev.pairEvent (kind detail : Nat) (d : Dev) : Dev :=
  d.ringPush T.PairEvents 256 E.PairEventCount (srcKey T.PairEvents 0) 135 fun n acq =>
    kind * 2 ^ 152 + n * 2 ^ 136 + acq.toNat * 2 ^ 135 + detail % 2 ^ 32 * 2 ^ 96 + d.stamp

/-- The mirror became DEGRADED (R405): class P, once. -/
def Dev.mirrorDegraded (d : Dev) : Dev :=
  if d.get E.MirrorState = 3 ∨ d.get E.MirrorState = 0 then d
  else ((d.put E.MirrorState 3).pairEvent 8 0).report Src.mirrorDegraded 0

/-- The tether ports in use (R396). -/
def Dev.tetherPorts (d : Dev) : List Nat := [d.get E.TetherPortA, d.get E.TetherPortB].filter fun p => decide (p < 96)

/-- Whether a tether frame can leave. -/
def Dev.tetherReady (d : Dev) : Bool := d.getB E.PairEnable && d.tetherPorts.any d.canSend

/-- A tether frame leaves on port p: it counts as sent and is charged to the port shaper (R138, R305). -/
def Dev.tetherSend (pdu : Bytes) (p : Nat) (d : Dev) : Dev :=
  let b := List.replicate 6 0xFF ++ toBE 6 (d.portMac p) ++ toBE 2 (d.get E.TetherEtherType) ++ pdu
  let b := b ++ List.replicate (60 - b.length) 0
  let d := d.charge (portBucket p) (d.row T.PortShapers p) (b.length + 4)
  (d.macCount (E.TxFrames p) (E.TxOctets p) (E.TxUnicast p) (E.TxMulticast p) (E.TxBroadcast p) b).emit (.tether d.now p pdu)

/-- A tether PDU of records (R397), built and sent on each tether port that can send (R399). -/
def Dev.tetherPdu (recs : List Bytes) (d : Dev) : Dev :=
  let body := recs.flatten
  let role := d.get E.PairRole
  let pdu := toBE 1 (16 + role * 4) ++ toBE 1 recs.length ++ toBE 2 (16 + body.length) ++ toBE 4 d.pair.tseq ++ toBE 8 d.tickNow ++ body
  let d := (d.modPair fun p => { p with tseq := (p.tseq + 1) % 2 ^ 32 }).inc E.TetherFramesTx
  d.each (d.tetherPorts.filter d.canSend) (Dev.tetherSend pdu)

/-- The first records that fit one frame: at most n of them and at most room bytes. -/
def fitRecords : Nat → Nat → List Bytes → List Bytes
  | 0, _, _ => []
  | _, _, [] => []
  | n + 1, room, r :: rest => if r.length ≤ room then r :: fitRecords n (room - r.length) rest else []

/-- Send the records that wait, filling each frame; fuel is their number. -/
def Dev.tetherFlush : Nat → Dev → Dev
  | 0, d => d
  | fuel + 1, d =>
    if d.pair.sendQ.isEmpty || !d.tetherReady then d
    else
      let now := fitRecords 255 8984 d.pair.sendQ
      ((d.modPair fun p => { p with sendQ := p.sendQ.drop (max 1 now.length) }).tetherPdu now).tetherFlush fuel

/-- The head of a record (R397). -/
def tetherRec (ty : Nat) (body : Bytes) : Bytes := toBE 1 ty ++ [0] ++ toBE 2 (4 + body.length) ++ body

/-- Whether the mirror is in operation (R403). -/
def Dev.mirroring (d : Dev) : Bool := d.getB E.PairEnable && d.get E.MateState == 1

/-- A mirror record (R403): it leaves at once where a tether port can send, else it waits in the queue of 65,536. -/
def Dev.mirror (rec' : Bytes) (d : Dev) : Dev :=
  if !d.mirroring then d
  else if 65536 ≤ d.pair.sendQ.length then (d.inc E.MirrorDropped).mirrorDegraded
  else (d.modPair fun p => { p with sendQ := p.sendQ ++ [rec'] }).tetherFlush (d.pair.sendQ.length + 1)

/-- An L2 record (R398) of a learn (1) or a move (2). -/
def Dev.mirrorL2 (pl kind fid mac dest : Nat) (d : Dev) : Dev :=
  d.cond (d.getB E.MirrorL2)
    (Dev.mirror (tetherRec 2 (toBE 1 pl ++ toBE 1 kind ++ toBE 2 fid ++ toBE 6 mac ++ toBE 2 dest ++ toBE 4 0)))

end Sys2Proof.Machine
end

