-- ==== Sys2Proof/Machine/HostBase.lean ====
section
/-!
DEFINITION. The host block's own mechanisms (chapter 14): interrupts, mailboxes, semaphores, doorbells, DMA rings and the records written
to them. The register map is in Sys2Proof/Machine/HostRegs.lean.
-/
namespace Sys2Proof.Machine

/-! ### Interrupts (R454) -/

/-- The interrupt of a ring, where its IRQ_EN allows it. -/
def Dev.ringIrq (r : Nat) (d : Dev) : Dev := d.cond (d.ring r).irqEn (Dev.irqCause (vecOfRing r))

/-- Send the message of vector v. -/
def Dev.sendMsix (v : Nat) (d : Dev) : Dev :=
  let e := d.host.vecs.getD v {}
  d.emit (.msix d.now v e.addr e.data)

/-- MSIX_MESSAGE: the message of a vector whose cause bit has risen is sent; in D3hot it waits (R431). -/
def Dev.msixMessage (v : Nat) (d : Dev) : Dev :=
  if d.host.due.contains v && !d.host.d3 then (d.modHost fun h => { h with due := h.due.erase v }).sendMsix v else d

/-- MSIX_HOLDOFF_EXPIRY: the one message for the events of a holdoff is sent. -/
def Dev.msixHoldoff (v : Nat) (d : Dev) : Dev :=
  match d.host.hold.find? fun e => e.1 == v with
  | some e => if e.2 + d.holdoffX v ≤ d.now && !d.host.d3 then (d.modHost fun h => { h with hold := h.hold.erase e }).sendMsix v else d
  | none => d

/-- A vector is unmasked: its pending bit sends (R454). -/
def Dev.unmask (v : Nat) (d : Dev) : Dev :=
  if bit d.host.pba v then d.modHost fun h => { h with pba := setBit h.pba v false, due := h.due ++ [v] } else d

/-! ### Epochs and masters -/

/-- The epoch of a master (R442). -/
def Dev.epoch (d : Dev) (m : Nat) : Nat := d.row T.MasterEpochs m

/-- Whether a master is firmware: M0 to M3 or T0 to T7. -/
def isFirmware (m : Nat) : Bool := decide (1 ≤ m) && decide (m ≤ 4) || decide (8 ≤ m) && decide (m ≤ 15)

/-- Whether a master is the host. -/
def isHost (m : Nat) : Bool := m == 0x10

/-! ### Mailboxes (R440 to R443) -/

/-- Mailbox channel c. -/
def Dev.mboxCh (d : Dev) (c : Nat) : Mbox := d.host.mbox.getD c {}

/-- Set mailbox channel c. -/
def Dev.setMbox (c : Nat) (v : Mbox) (d : Dev) : Dev := d.modHost fun h => { h with mbox := h.mbox.set c v }

/-- The end of channel c that a master owns: true for A. -/
def Dev.mboxEnd (d : Dev) (c m : Nat) : Option Bool :=
  let r := d.row T.MailboxEnds c
  if Row.MailboxEnds.endA r = m then some true else if Row.MailboxEnds.endB r = m then some false else none

/-- The owner of an end. -/
def Dev.mboxOwner (d : Dev) (c : Nat) (a : Bool) : Nat :=
  let r := d.row T.MailboxEnds c
  if a then Row.MailboxEnds.endA r else Row.MailboxEnds.endB r

/-- What an end shows. -/
def Mbox.side (b : Mbox) (a : Bool) : MboxEnd := if a then b.a else b.b

/-- Change what an end shows. -/
def Mbox.setSide (b : Mbox) (a : Bool) (v : MboxEnd) : Mbox := if a then { b with a := v } else { b with b := v }

/-- The queue leading away from an end. -/
def Mbox.out (b : Mbox) (a : Bool) : List MboxWord := if a then b.ab else b.ba

/-- Set the queue leading away from an end. -/
def Mbox.setOut (b : Mbox) (a : Bool) (q : List MboxWord) : Mbox := if a then { b with ab := q } else { b with ba := q }

/-- The interrupt of channel c at an end: the channel's vector for the host, an interrupt for a core. -/
def Dev.mboxIrq (c : Nat) (a : Bool) (d : Dev) : Dev :=
  let m := d.mboxOwner c a
  if isHost m then d.irqCause (20 + c) else d.emit (.interrupt d.now m "mailbox")

/-- The queue leading away from an end became empty: EMPTY_EVT, and its interrupt where enabled. -/
def Dev.mboxEmpty (c : Nat) (a : Bool) (d : Dev) : Dev :=
  let b := d.mboxCh c
  let s := b.side a
  let d := d.setMbox c (b.setSide a { s with emptyEvt := true })
  d.cond s.emptyEn (Dev.mboxIrq c a)

/-- MBX_TX: a master posts one word (R440, R442); in the clock of its receiver's reset it is discarded and counted (R443). -/
def Dev.mboxPost (m c v : Nat) (d : Dev) : Dev :=
  match d.mboxEnd c m with
  | none => d.inc E.MailboxForeign
  | some a =>
    let b := d.mboxCh c
    let q := b.out a
    if d.host.resetAt.get? (d.mboxOwner c (!a)) = some (coreClock d.now) then
      let s := b.side a
      (d.setMbox c (b.setSide a { s with dropped := true, drops := min 255 (s.drops + 1) })).mboxEmpty c a
    else if 8 ≤ q.length then
      (d.setMbox c (b.setSide a { b.side a with overflow := true })).inc E.MailboxOverflows
    else
      let b := b.setOut a (q ++ [{ data := v % 2 ^ 32, sender := m, epoch := d.epoch m }])
      let s := b.side (!a)
      if q.isEmpty then (d.setMbox c (b.setSide (!a) { s with arrival := true })).cond s.arrivalEn (Dev.mboxIrq c (!a))
      else d.setMbox c b

/-- The head word of the queue that leads to a master, taken out (R440). -/
def Dev.mboxTake (m c : Nat) (d : Dev) : Option MboxWord × Dev :=
  match d.mboxEnd c m with
  | none => (none, d.inc E.MailboxForeign)
  | some a =>
    let b := d.mboxCh c
    match b.out (!a) with
    | [] => (none, d)
    | w :: q =>
      let d := d.setMbox c (b.setOut (!a) q)
      (some w, d.cond q.isEmpty (Dev.mboxEmpty c (!a)))

/-- The stamp of a word (R440). -/
def MboxWord.stamp (w : MboxWord) : Nat := 2 ^ 31 + w.epoch * 2 ^ 8 + w.sender

/-- A reset of master m at one channel: its inbound queue is discarded, its own registers take reset values (R441, R442). -/
def Dev.mboxReset (m c : Nat) (d : Dev) : Dev :=
  match d.mboxEnd c m with
  | none => d
  | some a =>
    let b := d.mboxCh c
    let n := (b.out (!a)).length
    let s := b.side (!a)
    let s := if n = 0 then s else { s with dropped := true, drops := min 255 (s.drops + n) }
    let b := (b.setOut (!a) []).setSide (!a) s
    let d := d.setMbox c (b.setSide a {})
    d.cond (n != 0) (Dev.mboxEmpty c (!a))

/-! ### Semaphores and doorbells (R444 to R446) -/

/-- Semaphore s. -/
def Dev.sem (d : Dev) (s : Nat) : Sem := d.host.sems.getD s {}

/-- Set semaphore s. -/
def Dev.setSem (s : Nat) (v : Sem) (d : Dev) : Dev := d.modHost fun h => { h with sems := h.sems.set s v }

/-- A read of HB_SEM s by master m: the word read and the state after it (R445). `rivals` are the lower masters whose reads of the semaphore come
in the same clock: a free semaphore goes to the lowest (R446). -/
def Dev.semRead (m s : Nat) (rivals : List Nat) (d : Dev) : Nat × Dev :=
  let v := d.sem s
  match v.holder with
  | none =>
    match rivals.min? with
    | some w => (2 * 2 ^ 30 + d.epoch w * 2 ^ 8 + w, d)
    | none =>
      let e := d.epoch m
      (2 ^ 30 + v.broken.toNat * 2 ^ 29 + e * 2 ^ 8 + m, d.setSem s { holder := some (m, e), broken := false })
  | some (h, e) => ((if h = m then 3 else 2) * 2 ^ 30 + e * 2 ^ 8 + h, d)

/-- A write of HB_SEM s by master m (R445). -/
def Dev.semWrite (m s v : Nat) (d : Dev) : Dev :=
  if v % 2 = 0 then d
  else match (d.sem s).holder with
    | some (h, _) => if h = m then d.setSem s { d.sem s with holder := none } else d.inc E.SemaphoreForeignReleases
    | none => d.inc E.SemaphoreForeignReleases

/-- The semaphores that a reset master holds are freed with BROKEN set (R446). -/
def Dev.semReset (m : Nat) (d : Dev) : Dev :=
  { d with host := { d.host with sems := d.host.sems.map fun (e : Nat × Sem) => match e.2.holder with
    | some (k, _) => if k = m then (e.1, { holder := none, broken := true }) else e
    | none => e } }

/-- HB_DB_SET by master m (R444). -/
def Dev.dbSet (m v : Nat) (d : Dev) : Dev :=
  let may := if isHost m then v % 2 ^ 32 else if isFirmware m then v / 2 ^ 32 % 2 ^ 32 * 2 ^ 32 else 0
  let new := may &&& (2 ^ 64 - 1 - d.host.dbPend)
  let clk := coreClock d.now
  let d := d.modHost fun h => { h with dbPend := h.dbPend ||| may, dbSet := if h.dbClk = clk then h.dbSet ||| may else may, dbClk := clk }
  let d := d.cond (new % 2 ^ 32 != 0) fun d => d.emit (.interrupt d.now 1 "doorbell")
  d.cond ((new / 2 ^ 32 &&& (2 ^ 32 - 1 - d.host.dbMask)) != 0) (Dev.irqCause 36)

/-- HB_DB_CLR by master m (R444): a doorbell that was set in the same clock stays pending. -/
def Dev.dbClr (m v : Nat) (d : Dev) : Dev :=
  let may := if isHost m then v / 2 ^ 32 % 2 ^ 32 * 2 ^ 32 else if isFirmware m then v % 2 ^ 32 else 0
  let kept := if d.host.dbClk = coreClock d.now then d.host.dbSet else 0
  d.modHost fun h => { h with dbPend := h.dbPend &&& ((2 ^ 64 - 1 - may) ||| kept) }

/-- A reset of one master (R441 to R446): its epoch, its mailbox ends and its semaphores. -/
def Dev.masterReset (m : Nat) (d : Dev) : Dev :=
  let d := d.setRow T.MasterEpochs m ((d.epoch m + 1) % 256)
  let d := d.modHost fun h => { h with resetAt := h.resetAt.set m (coreClock d.now) }
  (d.upto 16 fun c d => d.mboxReset m c).semReset m

/-! ### Rings (R447 to R453) -/

/-- Entries available to the device (R447). -/
def Ring.avail (g : Ring) : Nat := (g.tail + 2 ^ g.log2 - g.head % 2 ^ g.log2) % 2 ^ g.log2

/-- The number n entries after the head. -/
def Ring.step (g : Ring) (n : Nat) : Nat := (g.head + n) % 2 ^ g.log2

/-- A write of a ring's control register: the sizes are ignored while ENABLE is 1, LOG2_SIZE outside 6 to 15 leaves the ring disabled, and
ENABLE 1 sets HEAD to 0. -/
def Dev.ringControl (r v : Nat) (d : Dev) : Dev :=
  let g := d.ring r
  let g := if g.enable then g else { g with log2 := fld v 27 24, units := fld v 5 0 }
  if !bit v 31 then d.setRing r { g with enable := false, waits := false }
  else
    if 6 ≤ g.log2 ∧ g.log2 ≤ 15 then d.setRing r { g with enable := true, head := 0, phase := true }
    else d.setRing r { g with enable := false }

/-- The punt token bucket now, in units of 1/8,000,000 bit: a rate of 1 kb/s fills one unit in 125 ps (R449). -/
def Dev.puntTokens (d : Dev) : Int :=
  min 4194304000000 (d.host.tokens + (d.get E.PuntRateKbps : Int) * ((d.now : Int) - d.host.tokenX))

/-- Whether punt tokens are positive (R449). -/
def Dev.puntOk (d : Dev) : Bool := decide (0 < d.puntTokens)

/-- Charge n bytes to the punt bucket. -/
def Dev.puntCharge (n : Nat) (d : Dev) : Dev :=
  let t := d.puntTokens - 64000000 * n
  d.modHost fun h => { h with tokens := t, tokenX := d.now }

/-- The bytes of a punt ring's buffer: BUF_UNITS is 1 to 64 in six bits, so 0 is read as 64 (DEDUCED). -/
def Ring.bufBytes (g : Ring) : Nat := (if g.units = 0 then 64 else g.units) * 256

/-- Buffers a record of n bytes needs in ring r. -/
def Ring.need (g : Ring) (n : Nat) : Nat := cdiv n g.bufBytes

/-- Whether ring r could take a record of n bytes now, tokens apart (R448). -/
def Dev.ringRoom (d : Dev) (r n : Nat) : Bool :=
  let g := d.ring r
  g.enable && !d.host.quiesce && !d.host.d3 && decide (g.need n ≤ g.avail)

/-- Write a record to punt ring r: buffers, then descriptors, HEAD after the last (R448). A record is one event of its ring (R16), so all its
descriptors carry its SOURCE_SEQ. -/
def Dev.puntWrite (r kind : Nat) (rec : Bytes) (d : Dev) : Dev :=
  let g := d.ring r
  let size := g.bufBytes
  let n := g.need rec.length
  let (seq, d) := d.nextSeq (srcKey 0x6801 r)
  let d := d.upto n fun i d =>
    let b := slice rec (i * size) size
    let desc := 2 ^ 63 + (decide (i + 1 < n)).toNat * 2 ^ 62 + kind * 2 ^ 61 + seq * 2 ^ 32 + b.length % 65536
    let at' := g.step i
    (d.emit (.buffer d.now r at' b)).emit (.host d.now (g.base + 16 * at' + 8) (toLE 8 desc))
  let d := d.setRing r { d.ring r with head := g.step n, waits := false }
  ((d.puntCharge rec.length).inc (E.PuntRecords r)).ringIrq r

/-- A record that could not be written for want of entries: NO_BUF and the count, once for a waiting record. -/
def Dev.puntNoBuf (r : Nat) (waits : Bool) (d : Dev) : Dev :=
  let g := d.ring r
  let d := d.cond (!(waits && g.waits)) (Dev.inc (E.PuntNoBuffer r))
  d.setRing r { g with noBuf := true, waits := g.waits || waits }

/-- Frame record metadata (R450). -/
def puntMeta (f : Frame) (e : QEntry) (queue : Nat) : Bytes :=
  let p := e.punt
  let named := p.cause == 0 || p.cause == 2
  toBE 1 (0x10 + p.cause) ++ toBE 1 (p.edited.toNat * 128 + f.acq.toNat * 64 + f.pl * 4 + e.colour) ++
    toBE 2 (if named then p.reason else 0) ++ toBE 1 f.port ++ toBE 1 (e.tc * 16 + queue) ++ toBE 2 f.len ++
    toBE 2 (if p.cause = 2 then p.handle else 0) ++ toBE 1 (if p.cause = 2 then p.service else 0) ++ toBE 1 0 ++
    toBE 2 (f.ctx.binding.getD 0) ++ toBE 2 0 ++ toBE 12 f.time ++ toBE 4 0

/-- The record of an entry for the host or firmware: metadata, then the frame. -/
def Dev.puntRecord (d : Dev) (p : Nat) (e : QEntry) (queue : Nat) : Bytes :=
  match d.frame? e.frame with
  | some f => puntMeta f e queue ++ d.entryBytes p e
  | none => []

/-- Count a frame that has left an internal port. -/
def Dev.internalSent (r : Nat) (e : QEntry) (n : Nat) (d : Dev) : Dev :=
  let d := (d.addRow T.QueueTxCounters r 319 256 1).addRow T.QueueTxCounters r 255 192 n
  let p := r / 16
  let d := (d.inc (E.TxFrames p)).add (E.TxOctets p) n
  let ns := (d.now - ((d.frame? e.frame).map (·.x)).getD d.now) / 8
  { d with net := { d.net with delay := d.net.delay.set r (max (d.net.delay.getD r 0) ns) } }

/-- A record for the firmware receive queue. The spec gives the queue no size: whether it is full is a free value (log 151). Answers whether
it took the record. -/
def Dev.firmwareTake (info b : Bytes) (d : Dev) : Bool × Dev :=
  let (full, d) := d.free 1
  if full = 1 then (false, d) else (true, d.emit (.firmware d.now info b))

/-- An internal port reads the cells of the head of queue row r (R279): an uncorrected error drops it. Answers whether it stands. -/
def Dev.internalRead (row : Nat) (e : QEntry) (ecc : EccResult) (d : Dev) : Bool × Dev :=
  let d := d.eccCount ecc
  if ecc = .uncorrected then (false, (d.takeEntry row 0).settle e.frame) else (true, d)

/-- Band 4 of an internal port: its heads are tagged and one is chosen (R286). -/
def Dev.internalPick (p : Nat) (can : Nat → Bool) (d : Dev) : Option Nat × Dev :=
  let offered (q : Nat) : Bool := match d.queue (p * 16 + q) with
    | e :: _ => d.sendable e && can q
    | [] => false
  let d := d.tagHeads p offered
  match d.fairPick p offered with
  | some q => (some q, d.fairServe p q)
  | none => (none, d)

/-- The queue of port 96 that band 4 chooses among those whose ring and the halter can take the head's record (R286, R449). -/
def Dev.puntPick (d : Dev) : Option Nat × Dev :=
  d.internalPick 96 fun q => match d.queue (96 * 16 + q) with
    | e :: _ => d.ringRoom q (d.puntRecord 96 e q).length && d.puntOk
    | [] => false

/-- The head of queue r of port 96 is written to its ring. -/
def Dev.puntPut (r : Nat) (ecc : EccResult) (d : Dev) : Dev :=
  let row := 96 * 16 + r
  match d.queue row with
  | [] => d
  | e :: _ =>
    match d.internalRead row e ecc with
    | (false, d) => d.noteFree
    | (true, d) =>
      let rec' := d.puntRecord 96 e r
      let d := (d.internalSent row e (d.entryLen 96 e)).takeEntry row 0
      ((d.puntWrite r 0 rec').settle e.frame).noteFree

/-- EGRESS_SELECT on port 96: the ring of the queue that band 4 chooses is written. -/
def Dev.select96 (ecc : EccResult) (d : Dev) : Dev :=
  match d.puntPick with
  | (some q, d) => d.puntPut q ecc
  | (none, _) => d

/-- PUNT_RECORD_WRITE: the head of queue r of port 96 is written to its ring where band 4 chooses it (R286, R449); a frame that proved bad is
discarded. -/
def Dev.puntServe (r : Nat) (d : Dev) : Dev :=
  let row := 96 * 16 + r
  match d.queue row with
  | [] => d
  | e :: _ =>
    let tail := ((d.frame? e.frame).map (·.tail)).getD 2
    if tail = 2 then ((d.takeEntry row 0).entryGone e).inc E.PuntBadFrames
    else if tail = 0 then d
    else if !d.ringRoom r (d.puntRecord 96 e r).length then d.cond (d.ring r).enable (Dev.puntNoBuf r true)
    else match d.puntPick with
      | (some q, d') => if q = r then d'.puntPut r .clean else d
      | (none, _) => d

/-- EGRESS_SELECT on port 97: the frame goes to the firmware receive path with its metadata (R124, R450). -/
def Dev.select97 (ecc : EccResult) (d : Dev) : Dev :=
  let d := d.upto 8 fun q d => d.dropBad (97 * 16 + q)
  match d.internalPick 97 (fun _ => true) with
  | (some q, d) =>
    let row := 97 * 16 + q
    match d.queue row with
    | e :: _ =>
      match d.internalRead row e ecc with
      | (false, d) => d.noteFree
      | (true, d) =>
        let m := ((d.frame? e.frame).map fun f => puntMeta f e q).getD []
        let d := d.emit (.firmware d.now m (d.entryBytes 97 e))
        (((d.internalSent row e (d.entryLen 97 e)).takeEntry row 0).settle e.frame).noteFree
    | [] => d
  | (none, d) => d

/-- The frame for itself: where something else still refers to frame id (a mirror copy), a frame of its own with the same contents. -/
def Dev.ownFrame (id : Nat) (d : Dev) : Nat × Dev :=
  match d.frame? id with
  | some f =>
    if d.onChip id || d.inHbm id then
      (d.net.nextId, { d with net := { d.net with nextId := d.net.nextId + 1, frames := d.net.frames.set d.net.nextId { f with mc := false } } })
    else (id, d)
  | none => (id, d)

/-- EGRESS_SELECT on port 99: the frame leaves its queue with its edits and waits to re-enter its pipeline (R124). -/
def Dev.select99 (ecc : EccResult) (d : Dev) : Dev :=
  let d := d.upto 8 fun q d => d.dropBad (99 * 16 + q)
  match d.internalPick 99 (fun _ => true) with
  | (some q, d) =>
    let row := 99 * 16 + q
    match d.queue row with
    | e :: _ =>
      match d.internalRead row e ecc with
      | (false, d) => d.noteFree
      | (true, d) =>
        let b := d.entryBytes 99 e
        let d := (d.internalSent row e (b.length + 4)).takeEntry row 0
        let (id, d) := d.ownFrame e.frame
        let d := d.modFrame id fun f => { f with bytes := b, edits := [] }
        { d with net := { d.net with recirc := d.net.recirc ++ [id] } }
    | [] => d
  | (none, d) => d

/-- EGRESS_SELECT on any port. -/
def Dev.egress (p : Nat) (ecc : EccResult) (d : Dev) : Dev :=
  if p < 96 then d.egressSelect p ecc
  else if p = 96 then d.select96 ecc else if p = 97 then d.select97 ecc else if p = 99 then d.select99 ecc else d

/-! ### The notification ring (R453) -/

/-- A slot of the notification ring: PHASE and length, then the NOTIFY record. -/
def notifySlot (phase : Bool) (rec : Bytes) : Bytes := fitBytes 64 (toLE 8 (phase.toNat * 2 ^ 63 + rec.length) ++ rec)

/-- Write a NOTIFY record to the ring where it has room. -/
def Dev.notifyWrite (rec : Bytes) (d : Dev) : Dev :=
  let g := d.ring 16
  let d := d.emit (.host d.now (g.base + 64 * g.head) (notifySlot g.phase rec))
  let next := g.step 1
  let d := d.setRing 16 { g with head := next, phase := if next = 0 then !g.phase else g.phase }
  (d.inc E.NotifyRecords).ringIrq 16

/-! ### The commands -/

/-- EGRESS_SELECT (R285). -/
def execEgressSelect (x p : Nat) (ecc : EccResult) (s : State) : Host.Outcome State Fault Refusal := s.live x (Dev.egress p ecc)
/-- PUNT_RECORD_WRITE (R448). -/
def execPuntRecordWrite (x r : Nat) (s : State) : Host.Outcome State Fault Refusal := s.live x (Dev.puntServe r)
/-- MSIX_MESSAGE (R454). -/
def execMsixMessage (x v : Nat) (s : State) : Host.Outcome State Fault Refusal := s.live x (Dev.msixMessage v)
/-- MSIX_HOLDOFF_EXPIRY (R454). -/
def execMsixHoldoffExpiry (x v : Nat) (s : State) : Host.Outcome State Fault Refusal := s.live x (Dev.msixHoldoff v)

end Sys2Proof.Machine
end

