-- ==== Sys2Proof/Machine/AccessBase.lean ====
section
/-!
DEFINITION. Response records and their way back (chapter 02): status codes, frames the device sends of itself, Prosta responses and
notifications, CAN FD transfers, the window's answer, and replies held until their operations are complete.
-/
namespace Sys2Proof.Machine

/-! ### Status codes (R45) -/

namespace Status
/-- OK (R45). -/
def ok : Nat := 0x00
/-- NO_ENTRY (R45). -/
def noEntry : Nat := 0x01
/-- NO_SUBINDEX (R45). -/
def noSubindex : Nat := 0x02
/-- PRIV_DENIED (R45). -/
def privDenied : Nat := 0x03
/-- ACCESS_DENIED (R45). -/
def accessDenied : Nat := 0x04
/-- TYPE_MISMATCH (R45). -/
def typeMismatch : Nat := 0x05
/-- INVALID_VALUE (R45). -/
def invalidValue : Nat := 0x06
/-- DUPLICATE (R45). -/
def duplicate : Nat := 0x07
/-- FULL (R45). -/
def full : Nat := 0x08
/-- BUSY (R45). -/
def busy : Nat := 0x09
/-- NOT_APPLIED (R45). -/
def notApplied : Nat := 0x0A
/-- UNSUPPORTED (R45). -/
def unsupported : Nat := 0x0B
/-- UNAVAILABLE (R45). -/
def unavailable : Nat := 0x0C
/-- DATA_ERROR (R45). -/
def dataError : Nat := 0x0D
/-- SESSION_UNKNOWN (R45). -/
def sessionUnknown : Nat := 0x0E
/-- UNREACHABLE (R45). -/
def unreachable : Nat := 0x0F
/-- HOP_LIMIT (R45). -/
def hopLimit : Nat := 0x10
/-- SEGMENT_ERROR (R45). -/
def segmentError : Nat := 0x11
/-- TIMEOUT (R45). -/
def timeout : Nat := 0x12
/-- STAGE_FULL (R45). -/
def stageFull : Nat := 0x13
/-- COMMIT_LATE (R45). -/
def commitLate : Nat := 0x14
/-- COMMIT_ABORTED (R45). -/
def commitAborted : Nat := 0x15
end Status

/-- A response record as bytes (R43). -/
def Resp.bytes (r : Resp) : Bytes :=
  toBE 1 r.opcode ++ toBE 1 r.status ++ toBE 2 (8 + r.data.length) ++ toBE 2 r.idx ++ toBE 1 r.sub ++ toBE 1 r.ty ++ r.data

/-- A NOTIFY record (R61). -/
def notifyRecord (e : Event) : Bytes :=
  let data := match specOf (e.key / 256) (e.key % 256) with
    | some s => if s.ty.bytes = 0 then e.data else toBE s.ty.bytes e.v
    | none => e.data
  let ty := ((specOf (e.key / 256) (e.key % 256)).map (·.ty.code)).getD 0
  toBE 1 0x0E ++ toBE 1 (e.acq.toNat * 2 + e.lost.toNat) ++ toBE 2 (22 + data.length) ++ toBE 2 (e.key / 256) ++
    toBE 1 (e.key % 256) ++ toBE 1 ty ++ toBE 2 e.seq ++ toBE 12 e.time ++ data

/-- Change the access paths. -/
def Dev.modAccess (g : Access → Access) (d : Dev) : Dev := { d with access := g d.access }

/-! ### Prosta frames (R49 to R58) -/

/-- The head of a PDU (R49). -/
def prostaHead (flags dest src hop count sid seq reqId len : Nat) : Bytes :=
  toBE 1 0x10 ++ toBE 1 flags ++ toBE 2 dest ++ toBE 2 src ++ toBE 1 hop ++ toBE 1 count ++ toBE 4 sid ++ toBE 8 seq ++
    toBE 2 reqId ++ toBE 2 len

/-- The additional authenticated data of a head: HOP_LIMIT taken as 0 (R52). -/
def prostaAad (head : Bytes) : Bytes := patch head 6 [0]

/-- Records protected under a key and nonce (R52): what follows the head, the tag included. -/
def prostaSeal (key nonce head recs : Bytes) (enc : Bool) : Bytes :=
  if enc then Config.gcmSeal key nonce (prostaAad head) recs else recs ++ Config.gcmSeal key nonce (prostaAad head ++ recs) []

/-- The route to a node: egress port, next-hop address, VLAN tag (R57, R59); none where it is not valid or its port is down. -/
def Dev.prostaRoute (d : Dev) (node : Nat) : Option (Nat × Nat × Option Nat) :=
  let r := d.row T.ProstaRoutes node
  let p := Row.ProstaRoutes.egressPort r
  if Row.ProstaRoutes.valid r = 0 ∨ d.downForAdmission p ∨ d.isTether p then none
  else
    let tag := 0x8100 * 2 ^ 16 + Row.ProstaRoutes.pcp r * 2 ^ 13 + Row.ProstaRoutes.vid r
    some (p, Row.ProstaRoutes.nextHopMac r, if Row.ProstaRoutes.tagged r = 1 then some tag else none)

/-- Send a PDU toward a node, or back to a neighbour where the node is 0 (R51); one that cannot be routed is counted (R58). -/
def Dev.prostaSend (node : Nat) (back : Nat × Nat × Option Nat) (pdu : Bytes) (d : Dev) : Dev :=
  let hop := if node = 0 then (if d.downForAdmission back.1 then none else some back) else d.prostaRoute node
  match hop with
  | none => d.inc E.Unreachable
  | some (p, mac, vlan) =>
    d.sendOwn p (d.get E.ProstaQueue) (etherHead mac (d.portMac p) vlan (d.get E.ProstaEtherType) ++ pdu)

/-- The session with an ID. -/
def Dev.session? (d : Dev) (sid : Nat) : Option Session := d.access.sessions.find? fun s => s.id == sid

/-- Change an open session. -/
def Dev.modSession (sid : Nat) (g : Session → Session) (d : Dev) : Dev :=
  d.modAccess fun a => { a with sessions := a.sessions.map fun s => if s.id = sid then g s else s }

/-- The next SEQ of the device in a session (R55). -/
def Dev.takeSeq (s : Session) (d : Dev) : Nat × Dev := (2 ^ 63 + s.devSeq, d.modSession s.id fun s => { s with devSeq := s.devSeq + 1 })

/-- A response to a Prosta request (R51, R52, R54): under its session, under the key of an opening or closed one, or in clear. -/
def Dev.prostaRespond (q : ProstaReq) (count : Nat) (recs : Bytes) (d : Dev) : Dev :=
  let fl (auth : Bool) : Nat := 0x80 + auth.toNat * 0x40 + (auth && q.enc).toNat * 0x20
  let head (auth : Bool) (seq : Nat) : Bytes :=
    prostaHead (fl auth) q.src (if q.me = 0 then d.get E.NodeId else q.me) (d.get E.DefaultHopLimit) count q.sid seq q.reqId recs.length
  let back := (q.port, q.mac, q.vlan)
  match q.auth, d.session? q.sid with
  | none, some s =>
    let (seq, d) := d.takeSeq s
    let h := head true seq
    d.prostaSend q.src back (h ++ prostaSeal s.key (toBE 4 q.sid ++ toBE 8 seq) h recs q.enc)
  | some (key, nonce, seq), _ =>
    let h := head true seq
    d.prostaSend q.src back (h ++ prostaSeal key nonce h recs q.enc)
  | none, none => d.prostaSend q.src back (head false (2 ^ 63) ++ recs)

/-- A notification frame of a session (R60). -/
def Dev.prostaNotify (s : Session) (rec' : Bytes) (d : Dev) : Dev :=
  let (seq, d) := d.takeSeq s
  let h := prostaHead (0x50 + s.enc.toNat * 0x20) s.node (d.get E.NodeId) (d.get E.DefaultHopLimit) 1 s.id seq 0 rec'.length
  d.prostaSend s.node (s.port, s.mac, s.vlan) (h ++ prostaSeal s.key (toBE 4 s.id ++ toBE 8 seq) h rec' s.enc)

/-! ### CAN FD transfers (R64 to R66) -/

/-- Agent a. -/
def Dev.can (d : Dev) (a : Nat) : CanAgent := if a = 0 then d.access.canA else d.access.canB

/-- Set agent a. -/
def Dev.setCan (a : Nat) (v : CanAgent) (d : Dev) : Dev := d.modAccess fun c => if a = 0 then { c with canA := v } else { c with canB := v }

/-- Consecutive segments from a count (R64); fuel is the number of bytes. -/
def canRest (tag : Nat) : Nat → Nat → Bytes → List Bytes
  | 0, _, _ => []
  | fuel + 1, n, b =>
    if b.isEmpty then []
    else (toBE 1 (0x80 + tag * 16 + n % 16) ++ fitBytes 63 (b.take 63)) :: canRest tag fuel (n + 1) (b.drop 63)

/-- A transfer in segments: a single segment where it is one record of at most 63 bytes (R64). -/
def canSegments (tag : Nat) (b : Bytes) : List Bytes :=
  if b.length ≤ 63 ∧ beAt b 2 2 = b.length then [toBE 1 (tag * 16) ++ fitBytes 63 b]
  else (toBE 1 (0x40 + tag * 16) ++ toBE 2 b.length ++ fitBytes 61 (b.take 61)) :: canRest tag b.length 1 (b.drop 61)

/-- Send a transfer on an agent's response identifier. -/
def Dev.canTransfer (a tag : Nat) (b : Bytes) (d : Dev) : Dev := d.each (canSegments tag b) fun s d => d.emit (.can d.now a (d.get (E.CanResponseId a)) s)

/-! ### Cascade frames (R414, R417) -/

/-- Change the cascade unit. -/
def Dev.modCasc (g : CascSt → CascSt) (d : Dev) : Dev := { d with casc := g d.casc }

/-- The header of a frame (R414). -/
def cascHeader (f : CascFrame) : Bytes :=
  toBE 1 f.dest ++ toBE 1 f.src ++ toBE 1 f.type ++ toBE 1 f.flags ++ toBE 2 f.seq ++ toBE 2 f.payload.length

/-- The CRC-32C over header and payload (R414). -/
def cascCrc (f : CascFrame) : Nat := crc32c 0xFFFFFFFF (cascHeader f ++ f.payload)

/-- A frame with its CRC. -/
def cascSeal (f : CascFrame) : CascFrame := { f with crc := cascCrc f }

/-- The device sends a cascade frame of its own behind what is still being sent: 16 characters and the payload, of 50 ns each. -/
def Dev.cascEmit (dest type flags : Nat) (payload : Bytes) (d : Dev) : Dev :=
  let f := cascSeal { dest, src := d.get E.CascadePosition, type, flags, seq := d.casc.seq, payload, crc := 0 }
  (d.modCasc fun c => { c with
    seq := (c.seq + 1) % 65536
    busyX := max d.now c.busyX + 400 * (16 + payload.length) }).emit (.cascade d.now f)

/-- A STATUS frame of a slave (R415). -/
def Dev.cascStatus (state kind : Nat) (d : Dev) : Dev :=
  d.cascEmit 0 4 0 (toBE 1 state ++ toBE 1 kind ++ [0, 0] ++ toBE 8 (d.get E.UniqueId) ++ toBE 4 (d.get E.ImageVersion) ++
    toBE 4 (d.get E.FirmwareVersion))

/-- The master sends ENUM with POS 0 (R416). -/
def Dev.enumSend (d : Dev) : Dev :=
  if d.get E.CascadeRole ≠ 1 ∨ d.casc.stopped then d
  else
    let d := (d.modCasc fun c => { c with enumX := d.now }).put E.CascadePosition 0
    let d := d.cond (d.get E.CascadeState == 0) (Dev.put E.CascadeState 1)
    d.cascEmit 0xFF 1 0 (toBE 1 0 ++ [0, 0, 0] ++ toBE 8 (d.get E.UniqueId))

/-- CascadeSend (R417): DEST, TYPE, FLAGS and payload of a frame of the master's. -/
def Dev.cascSend (b : Bytes) (d : Dev) : Nat × Dev :=
  if d.get E.CascadeRole ≠ 1 ∨ d.casc.stopped then (Status.invalidValue, d)
  else if d.now < d.casc.busyX then (Status.busy, d)
  else (Status.ok, d.cascEmit (beAt b 0 1) (beAt b 1 1) (beAt b 2 1) (b.drop 3))

/-! ### Replies -/

/-- The space a path gives the response records of one request (R590, R417). -/
def Path.space : Path → Nat
  | .can _ _ | .window => 4096
  | .cascade => 480
  | _ => 1460

/-- Records of a tether DICT that the member refused (R404). -/
def Dev.mirrorRefused (n : Nat) (d : Dev) : Dev := d.cond (n != 0) fun d => (d.add E.MirrorDictRefused n).mirrorDegraded

/-- A complete reply leaves by its path; of a tether DICT only the refusals count. -/
def Dev.replySend (r : Reply) (d : Dev) : Dev :=
  let b := r.recs.flatMap Resp.bytes
  match r.path with
  | .direct => d.each r.recs fun q d => d.emit (.response d.now r.who q.opcode q.status q.idx q.sub q.ty q.data)
  | .prosta q => d.prostaRespond q r.recs.length b
  | .can a tag => d.setCan a { d.can a with resp := some (tag, b) }
  | .window => d.modAccess fun a => { a with window := { a.window with resp := b, ready := true } }
  | .cascade => d.cascEmit 0 6 0 b
  | .none => d.mirrorRefused (r.recs.filter fun q => q.status != Status.ok).length

/-- Hold a reply, or send it where no record waits. -/
def Dev.replyPost (r : Reply) (d : Dev) : Dev :=
  if r.recs.any (·.waiting) then d.modAccess fun a => { a with replies := a.replies ++ [r] } else d.replySend r

/-- The operation of a waiting response record is complete; every answer other than OK counts in AccessErrors (R70). -/
def Dev.ticketDone (tk : Option (Nat × Nat)) (status ty : Nat) (data : Bytes) (d : Dev) : Dev :=
  match tk with
  | none => d
  | some (tag, i) =>
    match d.access.replies.find? fun r => r.tag == tag with
    | none => d
    | some r =>
      let recs := ((List.range r.recs.length).zip r.recs).map fun (e : Nat × Resp) =>
        if e.1 = i then
          let data := match e.2.part with
            | some (off, len) => slice data off len
            | none => data
          { e.2 with status, ty, data, waiting := false }
        else e.2
      let r := { r with recs }
      let d := d.cond (status != 0) (Dev.inc E.AccessErrors)
      if recs.any (·.waiting) then
        d.modAccess fun a => { a with replies := a.replies.map fun q => if q.tag = tag then r else q }
      else (d.modAccess fun a => { a with replies := a.replies.filter fun q => q.tag != tag }).replySend r

end Sys2Proof.Machine
end

