-- ==== Sys2Proof/Machine/Paddock.lean ====
section
/-!
DEFINITION. The paddock (chapter 12) and the deep table (R206 to R208): slots, the hold and request queues, service operations, deep work,
timeouts, release and completion records. What a frame does when it re-enters is in Sys2Proof/Machine/Ingress.lean.
-/
namespace Sys2Proof.Machine

/-! ### The recent-change record (R184) -/

/-- Whether a key of pipeline pl changed less than MoveHoldOff ago. -/
def Dev.heldOff (d : Dev) (pl fid mac : Nat) : Bool :=
  (d.net.recent.getD pl []).any fun k => k.fid == fid && k.mac == mac && decide (d.now < k.x + 8000 * d.get E.MoveHoldOff)

/-- An applied install or move of a key; the oldest of 256 leaves. -/
def Dev.noteChange (pl fid mac : Nat) (d : Dev) : Dev :=
  let l := (d.net.recent.getD pl []).filter fun k => !(k.fid == fid && k.mac == mac)
  let l := { fid, mac, x := d.now : RecentKey } :: l
  { d with net := { d.net with recent := d.net.recent.set pl (l.take 256) } }

/-! ### The deep table (R206, R207) -/

/-- A key with its PIPE, as the hash reads it. -/
def deepHash (seed key : Nat) : Nat := crc32c seed (toBE 21 key) % 2 ^ 22

/-- The primary bucket of a key. -/
def deepPrimary (key : Nat) : Nat := deepHash 0x3c6ef372 key

/-- The alternate bucket of a key. -/
def deepAlternate (key : Nat) : Nat :=
  let a := deepHash 0xdaa66d2b key
  if a = deepPrimary key then deepPrimary key ^^^ 1 else a

/-- The L2 key of a pipeline, with its PIPE. -/
def deepL2Key (pl fid mac : Nat) : Nat := pl * 2 ^ 160 + 7 * 2 ^ 156 + fid * 2 ^ 48 + mac

/-- ALT_COUNT of a bucket. -/
def Dev.altCount (d : Dev) (b : Nat) : Nat := d.net.deepAlt.getD b 0

/-- Set ALT_COUNT of a bucket. -/
def Dev.setAlt (b n : Nat) (d : Dev) : Dev := { d with net := { d.net with deepAlt := d.net.deepAlt.set b n } }

/-- Entry e of the deep table (bucket * 4 + slot), ALT_COUNT included (R207). -/
def Dev.deepEntry (d : Dev) (e : Nat) : Nat := d.net.deep.getD e 0 + (if e % 4 = 0 then d.altCount (e / 4) * 2 ^ 248 else 0)

/-- Set entry e, ALT_COUNT apart. -/
def Dev.setDeep (e v : Nat) (d : Dev) : Dev := { d with net := { d.net with deep := d.net.deep.set e v } }

/-- Whether entry e holds a key with its PIPE. -/
def Dev.deepHolds (d : Dev) (key e : Nat) : Bool :=
  let v := d.net.deep.getD e 0
  bit v 255 && fld v 239 80 == key % 2 ^ 160 && fld v 247 245 == key / 2 ^ 160

/-- The slots of a bucket. -/
def bucketSlots (b : Nat) : List Nat := (List.range 4).map (b * 4 + ·)

/-- A deep search: the entry found, and whether the alternate bucket was read. -/
def Dev.deepFind (d : Dev) (key : Nat) : Option Nat × Bool :=
  match (bucketSlots (deepPrimary key)).find? (d.deepHolds key) with
  | some e => (some e, false)
  | none =>
    if d.altCount (deepPrimary key) = 0 then (none, false)
    else ((bucketSlots (deepAlternate key)).find? (d.deepHolds key), true)

/-- A deep entry with HIT set (R207). -/
def deepRow (static : Bool) (key result : Nat) : Nat :=
  2 ^ 255 + 2 ^ 254 + static.toNat * 2 ^ 253 + key / 2 ^ 160 * 2 ^ 245 + key % 2 ^ 160 * 2 ^ 80 + result

/-- Insert a key that is absent (R206, R387): the primary bucket, else the alternate with ALT_COUNT. Answers whether there was room. -/
def Dev.deepInsert (key result : Nat) (d : Dev) : Bool × Dev :=
  let free (b : Nat) : Option Nat := (bucketSlots b).find? fun e => !bit (d.net.deep.getD e 0) 255
  let p := deepPrimary key
  match free p with
  | some e => (true, (d.setDeep e (deepRow false key result)).inc E.DeepEntries)
  | none =>
    match free (deepAlternate key) with
    | some e =>
      if 15 ≤ d.altCount p then (false, d.inc E.DeepRefused)
      else (true, ((d.setDeep e (deepRow false key result)).setAlt p (d.altCount p + 1)).inc E.DeepEntries)
    | none => (false, d.inc E.DeepRefused)

/-- Clear entry e, decrementing ALT_COUNT first where it lies in its key's alternate bucket (R387). -/
def Dev.deepClear (e : Nat) (d : Dev) : Dev :=
  let v := d.net.deep.getD e 0
  let p := deepPrimary (fld v 247 245 * 2 ^ 160 + fld v 239 80)
  let d := d.cond (p != e / 4) fun d => d.setAlt p (d.altCount p - 1)
  (d.setDeep e 0).put E.DeepEntries (d.get E.DeepEntries - 1)

/-- An ageing visit of a deep L2 entry (R208): a learned entry loses HIT, then its place. -/
def Dev.deepAge (e : Nat) (d : Dev) : Dev :=
  let v := d.net.deep.getD e 0
  if !d.hbmUp || !bit v 255 || fld v 239 236 != 7 || bit v 253 then d
  else if bit v 254 then d.setDeep e (setBit v 254 false)
  else
    let pl := fld v 247 245
    ((d.deepClear e).inc (E.L2AgedOut pl)).l2Event pl 4 0 (fld v 79 64) (fld v 139 128) (fld v 127 80)

/-- A bucket with an uncorrected error: cleared with ALT_COUNT 15 (R491). -/
def Dev.deepLost (b : Nat) (d : Dev) : Dev :=
  let n := ((bucketSlots b).filter fun e => bit (d.net.deep.getD e 0) 255).length
  let d := d.each (bucketSlots b) fun e d => d.setDeep e 0
  ((d.setAlt b 15).put E.DeepEntries (d.get E.DeepEntries - n)).inc E.DeepBucketsLost

/-! ### Slots (R377 to R379) -/

/-- Slot n. -/
def Dev.slot (d : Dev) (n : Nat) : Slot := d.net.slots.getD n {}

/-- Set slot n. -/
def Dev.setSlot (n : Nat) (v : Slot) (d : Dev) : Dev := { d with net := { d.net with slots := d.net.slots.set n v } }

/-- The slots in use. -/
def Dev.slotsUsed (d : Dev) : FMap Slot := d.net.slots.filter fun s => s.2.state != 0

/-- The frame source of a port and class (R377). -/
def frameSource (port tc : Nat) : Nat := port * 8 + tc

/-- The source of a master (R377). -/
def masterSource (m : Nat) : Nat := 1024 + m

/-- The handle of slot n. -/
def Dev.handle (d : Dev) (n : Nat) : Nat := n * 16 + (d.slot n).gen

/-- SlotsInUse and its high water. -/
def Dev.noteSlots (d : Dev) : Dev :=
  let n := d.slotsUsed.length
  (d.put E.SlotsInUse n).store E.SlotsHighWater (max (d.get E.SlotsHighWater) n)

/-- Add one to a column of PaddockCounters. -/
def Dev.paddockCount (kind hi lo : Nat) (d : Dev) : Dev := d.addRow T.PaddockCounters kind hi lo 1

/-- Allocate the lowest free slot for an operation, where its source and kind may have one (R379). -/
def Dev.slotAlloc (kind src : Nat) (s : Slot) (d : Dev) : Option Nat × Dev :=
  let used := d.slotsUsed
  let ok := (3 < kind || decide (used.length < 4096 - d.get E.RequestReserve)) &&
    decide ((used.filter fun e => e.2.src == src).length < d.get E.SourceSlotLimit)
  match (List.range 4096).find? fun n => (d.slot n).state == 0 with
  | some n =>
    if ok then
      let (seq, d) := d.nextSeq (srcKey T.PaddockSlots src)
      let s := { s with state := 1, gen := (d.slot n).gen, late := (d.slot n).late, kind, src, seq, x := d.now, limit := 8000 * d.get E.OpTimeoutUs,
                        ord := d.net.allocs }
      let d := d.setSlot n s
      let d := { d with net := { d.net with allocs := d.net.allocs + 1 } }
      (some n, (d.paddockCount kind 383 320).noteSlots)
    else (none, d)
  | none => (none, d)

/-! ### Completion records and release (R389, R391) -/

/-- One row of PaddockCompletions. -/
def Dev.completionRecord (s : Slot) (handle : Nat) (d : Dev) : Dev :=
  let status := if s.refused then Status.invalidValue else s.status
  let detail := if s.kind = 1 then
      let hit (k i : Nat) : Nat := if s.hits.any fun h => h.1 == k && h.2.isSome then 2 ^ i else 0
      hit 0 15 + hit 1 14 + hit 2 13 + s.alt.toNat * 2 ^ 12
    else if s.kind = 3 then ((s.verdict.map (·.verdict)).getD 0) * 256 + s.service else 0
  let t := d.stamp
  let pipe := if s.kind ≤ 3 then s.pl else 0
  let lat := min ((d.now - s.x) / 8) (2 ^ 32 - 1)
  d.ringPush T.PaddockCompletions 4096 E.PaddockCompletionCount (srcKey T.PaddockCompletions 0) 215 fun _ acq =>
    s.kind * 2 ^ 252 + s.src * 2 ^ 240 + s.seq * 2 ^ 224 + status * 2 ^ 216 + acq.toNat * 2 ^ 215 + pipe * 2 ^ 212 +
      s.timed.toNat * 2 ^ 211 + s.refused.toNat * 2 ^ 210 + handle * 2 ^ 192 + s.reason * 2 ^ 176 + detail * 2 ^ 160 + lat * 2 ^ 128 + t

/-- Whether an operation is recorded (R391). -/
def Dev.recorded (d : Dev) (s : Slot) : Bool :=
  bit (d.get E.RecordKinds) s.kind || s.refused || s.timed ||
    [Status.timeout, Status.busy, Status.unavailable].contains s.status

/-- Free slot n, its generation advanced. -/
def Dev.slotFree (n : Nat) (d : Dev) : Dev :=
  let g := (d.slot n).gen
  (d.setSlot n { gen := (g + 1) % 16, late := (d.slot n).late }).noteSlots

/-- Take a frame out of the hold queue. -/
def Dev.unhold (id : Nat) (d : Dev) : Dev := d.setQueue 1600 ((d.queue 1600).filter fun e => e.frame != id)

/-- A frame leaves the paddock without re-entering. -/
def Dev.paddockDrop (id : Nat) (d : Dev) : Dev := (d.unhold id).settle id

/-- Release slot n: its record, its response, and its frame's way back or end (R383, R385, R389); a frame of a pipeline that shed mode has
powered off is dropped (R553). -/
def Dev.slotRelease (n : Nat) (d : Dev) : Dev :=
  let s := d.slot n
  let d := d.cond (d.recorded s) (Dev.completionRecord s (d.handle n))
  let d := d.slotFree n
  let d := match s.frame with
    | none => d
    | some id =>
      let bad := ((d.frame? id).map fun (f : Frame) => f.tail == 2).getD true
      let drop := s.kind == 3 && (match s.verdict with
        | some v => v.verdict == 0
        | none => true)
      let off := d.get E.PowerMode != 0 && s.pl != 0
      if bad || drop then d.paddockDrop id
      else if off then (d.inc E.ShedDrops).paddockDrop id
      else
        let d := d.modFrame id fun f => { f with back := some { hits := s.hits, verdict := s.verdict } }
        { d with net := { d.net with reentry := d.net.reentry ++ [id] } }
  let data := if s.kind = 5 ∧ s.status = Status.ok then toBE 32 s.data else []
  d.ticketDone s.ticket s.status (if data.isEmpty then 0 else Ty.domain.code) data

/-- The lowest-numbered DONE slot with no earlier operation of its source in use. -/
def Dev.releasable (d : Dev) : Option Nat :=
  (d.slotsUsed.find? fun e => e.2.state == 2 && d.slotsUsed.all fun o => o.2.src != e.2.src || decide (e.2.ord ≤ o.2.ord)).map (·.1)

/-- Release every operation that may be released; fuel is the number of slots in use. -/
def Dev.releaseAll : Nat → Dev → Dev
  | 0, d => d
  | fuel + 1, d => match d.releasable with
    | some n => (d.slotRelease n).releaseAll fuel
    | none => d

/-- PADDOCK_RELEASE (R389). -/
def Dev.paddockRelease (d : Dev) : Dev := d.releaseAll d.slotsUsed.length

/-- Slot n becomes DONE by its own completion; a period without timeouts begins. -/
def Dev.slotDone (n : Nat) (g : Slot → Slot) (d : Dev) : Dev :=
  let s := g (d.slot n)
  let d := (d.setSlot n { s with state := 2 }).paddockCount s.kind 319 256
  { d with net := { d.net with timedOut := false } }

/-! ### Request operations (R375, R381) -/

/-- The slot of a request operation. -/
def requestSlot (who : Requester) (data : Nat) (ticket : Option (Nat × Nat)) : Slot := { who, data, ticket }

/-- A request operation has its slot; without HBM it completes with UNAVAILABLE (R18, R388). -/
def Dev.requestIssue (n : Nat) (d : Dev) : Dev :=
  d.cond (!d.hbmUp) (Dev.slotDone n fun s => { s with status := Status.unavailable })

/-- A request operation takes a slot, waits, or completes with BUSY (R379, R381). -/
def Dev.paddockRequest (kind : Nat) (who : Requester) (data : Nat) (ticket : Option (Nat × Nat)) (d : Dev) : Dev :=
  let src := masterSource who.master
  let try' := if d.net.waiting.isEmpty then d.slotAlloc kind src (requestSlot who data ticket) else (none, d)
  match try' with
  | (some n, d) => d.requestIssue n
  | (none, d) =>
    if d.net.waiting.length < 64 then
      let d := { d with net := { d.net with waiting := d.net.waiting ++ [({ kind, who, data, x := d.now, ticket } : WaitOp)] } }
      d.put E.RequestQueueDepth d.net.waiting.length
    else
      (d.completionRecord { kind, src, x := d.now, status := Status.busy } 0).ticketDone ticket Status.busy 0 []

/-- REQUEST_QUEUE_ALLOCATE: waiting operations take slots in arrival order. -/
def Dev.requestAllocate : Nat → Dev → Dev
  | 0, d => d
  | fuel + 1, d => match d.net.waiting with
    | [] => d
    | w :: rest =>
      match d.slotAlloc w.kind (masterSource w.who.master) (requestSlot w.who w.data w.ticket) with
      | (some n, d) =>
        let d := ({ d with net := { d.net with waiting := rest } }).requestIssue n
        (d.put E.RequestQueueDepth rest.length).requestAllocate fuel
      | (none, d) => d

/-- REQUEST_QUEUE_TIMEOUT: operations that have waited OpTimeoutUs complete with TIMEOUT. -/
def Dev.requestTimeout (d : Dev) : Dev :=
  let late (w : WaitOp) : Bool := decide (w.x + 8000 * d.get E.OpTimeoutUs ≤ d.now)
  let out := d.net.waiting.filter late
  let d := { d with net := { d.net with waiting := d.net.waiting.filter fun w => !late w } }
  let d := d.put E.RequestQueueDepth d.net.waiting.length
  d.each out fun (w : WaitOp) (d : Dev) =>
    (d.completionRecord { kind := w.kind, src := masterSource w.who.master, x := w.x, status := Status.timeout, timed := true } 0).ticketDone
      w.ticket Status.timeout 0 []

/-! ### Frames into the paddock (R376, R380, R382) -/

/-- Admission of a frame to the hold queue; answers whether it was taken. -/
def Dev.hold (id tc colour : Nat) (d : Dev) : Bool × Dev :=
  let d := d.reachAdmission { port := 100, queue := 0, entry := { frame := id, tc, colour }, own := true }
  ((d.queue 1600).any fun e => e.frame == id, d)

/-- A refusal by the hold queue: the slot is freed at once, its SOURCE_SEQ stays consumed (R382). -/
def Dev.slotRefuse (n : Nat) (d : Dev) : Dev :=
  let s := { d.slot n with refused := true }
  let d := (d.completionRecord s (d.handle n)).paddockCount s.kind 63 0
  let d := d.slotFree n
  match s.frame with
  | some id => d.settle id
  | none => d

/-- A frame leaves for a deep search of its missed keys. Answers whether it left (or was dropped): where it finds no slot it goes on. -/
def Dev.paddockSearch (id tc colour : Nat) (keys : List (Nat × Nat)) (d : Dev) : Bool × Dev :=
  match d.frame? id with
  | none => (false, d)
  | some f =>
    if !d.hbmUp then (false, d.paddockCount 1 127 64)
    else if d.get E.MaxPaddockPasses ≤ f.ppass then (true, (d.inc E.PassLimitDrops).settle id)
    else
      match d.slotAlloc 1 (frameSource f.port tc) { frame := some id, pl := f.pl, keys } with
      | (none, d) => (false, d.paddockCount 1 191 128)
      | (some n, d) =>
        let d := (d.modFrame id fun f => { f with ppass := f.ppass + 1 }).add E.DeepSearches keys.length
        match d.hold id tc colour with
        | (true, d) => (true, d)
        | (false, d) => (true, d.slotRefuse n)

/-- A deep learn (R183, R208); one that finds no slot is dropped. -/
def Dev.paddockLearn (pl : Nat) (q : LearnReq) (d : Dev) : Dev :=
  if !d.hbmUp then (d.paddockCount 2 127 64).inc (E.LearnDrops pl)
  else
    match d.slotAlloc 2 (frameSource q.port q.tc) { pl, learn := some q, keys := [(0, deepL2Key pl q.fid q.mac)] } with
    | (some _, d) => d.inc E.DeepSearches
    | (none, d) => (d.paddockCount 2 191 128).inc (E.LearnDrops pl)

/-! ### Service operations (R385, R386) -/

/-- The verdict of a queue's TIMEOUT_ACTION. -/
def Dev.timeoutVerdict (d : Dev) (q : Nat) : Service :=
  { verdict := if Row.ServiceQueues.timeoutAction (d.row T.ServiceQueues q) = 1 then 3 else 0 }

/-- The frame of service slot n is handed to its servicer; a record that cannot be taken completes the operation (R385). -/
def Dev.serviceDeliver (n : Nat) (d : Dev) : Dev :=
  let s := d.slot n
  match s.frame.bind d.frame? with
  | none => d
  | some f =>
    let row := d.row T.ServiceQueues s.service
    let q := (d.queue 1600).find? fun e => some e.frame == s.frame
    let e : QEntry := { frame := s.frame.getD 0, tc := (q.map (·.tc)).getD 0, colour := (q.map (·.colour)).getD 0,
                        punt := { cause := 2, reason := s.reason, handle := d.handle n, service := s.service } }
    let m := puntMeta f e f.ctx.queue
    let undelivered (d : Dev) : Dev :=
      let v := d.timeoutVerdict s.service
      (d.inc E.ServiceUndelivered).slotDone n fun s => { s with verdict := some v }
    if Row.ServiceQueues.servicer row = 0 then
      match d.firmwareTake m f.bytes with
      | (true, d) => d
      | (false, d) => undelivered d
    else
      let r := Row.ServiceQueues.ring row
      let rec' := m ++ f.bytes
      if d.ringRoom r rec'.length && d.puntOk then d.puntWrite r 0 rec' else undelivered d

/-- A PUNT to the paddock (R385): an invalid queue drops the frame, as does want of a slot; a frame still arriving is delivered at its
tail. -/
def Dev.paddockService (id tc colour queue reason : Nat) (d : Dev) : Dev :=
  match d.frame? id with
  | none => d
  | some f =>
    let row := d.row T.ServiceQueues queue
    if Row.ServiceQueues.valid row = 0 then (d.inc E.ServiceInvalidDrops).settle id
    else if d.get E.MaxPaddockPasses ≤ f.ppass then (d.inc E.PassLimitDrops).settle id
    else
      let out := (d.slotsUsed.filter fun e => e.2.kind == 3 && e.2.service == queue).length
      let try' := if out < Row.ServiceQueues.maxOutstanding row then
          d.slotAlloc 3 (frameSource f.port tc) { frame := some id, pl := f.pl, reason, service := queue }
        else (none, d)
      match try' with
      | (none, d) => (d.paddockCount 3 191 128).settle id
      | (some n, d) =>
        let d := d.modFrame id fun f => { f with ppass := f.ppass + 1 }
        match d.hold id tc colour with
        | (false, d) => d.slotRefuse n
        | (true, d) => if f.tail = 0 then d else d.serviceDeliver n

/-- The tail of a held frame has arrived: its service operation is delivered where it proved good, else ends as a drop. -/
def Dev.serviceTail (id : Nat) (d : Dev) : Dev :=
  match d.net.slots.find? fun e => e.2.state == 1 && e.2.kind == 3 && e.2.frame == some id with
  | some (n, _) =>
    if ((d.frame? id).map fun f => f.tail == 1).getD false then d.serviceDeliver n
    else d.slotDone n fun s => { s with verdict := some { verdict := 0 } }
  | none => d

/-! ### Timeouts (R390) -/

/-- Whether slot n's operation is past its timeout; one completed at that very instant is not. -/
def Dev.overdue (d : Dev) (n : Nat) : Bool := (d.slot n).state == 1 && decide ((d.slot n).x + (d.slot n).limit < d.now)

/-- An ACTIVE operation has passed its timeout; the first after a period with none raises class T. -/
def Dev.opTimeout (n : Nat) (d : Dev) : Dev :=
  if !d.overdue n then d
  else
    let s := d.slot n
    let d := d.paddockCount s.kind 255 192
    let d := d.cond (s.kind == 2) (Dev.inc (E.LearnDrops s.pl))
    let v := if s.kind = 3 then some (d.timeoutVerdict s.service) else none
    let hits : List (Nat × Option Nat) := s.keys.map fun (k : Nat × Nat) => (k.1, none)
    let d := d.setSlot n { s with state := 2, timed := true, status := Status.timeout, verdict := v, hits, late := some (s.kind, s.gen) }
    let d := d.cond (!d.net.timedOut) (Dev.reportBy Src.paddockTimeout (d.handle n) 0x38 0)
    { d with net := { d.net with timedOut := true } }

/-! ### Completions (R386) -/

/-- PaddockComplete (R386): the 8 bytes as a number. Answers a status. -/
def Dev.paddockComplete (v : Nat) (d : Dev) : Nat × Dev :=
  let n := fld v 63 52
  let s := d.slot n
  let due := s.gen == fld v 51 48 && s.kind == 3 && s.state == 1
  if due && d.overdue n then
    (Status.invalidValue, ((d.opTimeout n).inc E.StaleCompletions).inc E.LateCompletions)
  else if !due then
    (Status.invalidValue, (d.inc E.StaleCompletions).cond (s.late == some (3, fld v 51 48)) (Dev.inc E.LateCompletions))
  else
    let verdict := fld v 47 40
    let dest := fld v 31 16
    if 4 ≤ verdict ∨ fld v 38 36 ≠ 0 ∨ fld v 15 12 ≠ 0 ∨ (verdict = 1 ∧ destRefused dest) then (Status.invalidValue, d)
    else
      let w : Service := { verdict, queue := if bit v 39 then some (fld v 35 32) else none, dest, binding := fld v 11 0 }
      let d := d.cond (verdict == 0) (Dev.inc E.ServiceDrops)
      (Status.ok, d.slotDone n fun s => { s with verdict := some w })

/-! ### Deep work (R208, R384, R387, R388) -/

/-- The key of a master's deep operation. -/
def Slot.accessKey (s : Slot) : Nat :=
  if s.kind = 5 then s.data else if 2 ^ 256 ≤ s.data then s.data % 2 ^ 256 else s.data / 2 ^ 80

/-- The buckets that an operation reads and writes. -/
def Slot.buckets (s : Slot) : List Nat :=
  let of (key : Nat) : List Nat := [deepPrimary key, deepAlternate key]
  match s.kind with
  | 1 | 2 => s.keys.flatMap fun k => of k.2
  | 4 | 5 => of s.accessKey
  | _ => []

/-- Whether an operation issued before slot n's still has work on one of its buckets (R387). -/
def Dev.bucketBusy (d : Dev) (n : Nat) : Bool :=
  let s := d.slot n
  d.slotsUsed.any fun e => e.2.state == 1 && decide (e.2.ord < s.ord) && e.2.buckets.any s.buckets.contains

/-- A completion of deep work of a kind: in the order of issue within a bucket (R387); one that comes after its operation timed out counts in
LateCompletions once (R390). -/
def Dev.deepGuard (n kind : Nat) (f : Dev → Dev) (d : Dev) : Dev :=
  let d := d.opTimeout n
  let s := d.slot n
  if s.kind = kind ∧ s.state = 1 then if d.bucketBusy n then d else f d
  else if (s.late.map (·.1)) = some kind then (d.setSlot n { s with late := none }).inc E.LateCompletions
  else d

/-- DEEP_LEARN_COMPLETE (R208). -/
def Dev.deepLearnDone (n : Nat) (d : Dev) : Dev :=
  d.deepGuard n 2 fun d =>
    let s := d.slot n
    match s.learn with
    | none => d
    | some q =>
      let pl := s.pl
      let key := deepL2Key pl q.fid q.mac
      match (d.deepFind key).1 with
      | some e =>
        let d := d.inc E.DeepHits
        let v := d.net.deep.getD e 0
        let old := fld v 79 64
        let d := if old = q.dest then d.setDeep e (setBit v 254 true)
          else if bit v 253 then (d.inc (E.StaticConflicts pl)).l2Event pl 8 q.dest old q.fid q.mac
          else if !d.destDown old && d.heldOff pl q.fid q.mac then (d.inc (E.L2Flaps pl)).l2Event pl 3 q.dest old q.fid q.mac
          else
            let d := (d.setDeep e (setBit (setFld v 79 64 q.dest) 254 true)).noteChange pl q.fid q.mac
            (d.inc (E.L2Moves pl)).l2Event pl 2 q.dest old q.fid q.mac
        d.slotDone n id
      | none =>
        match d.deepInsert key (q.dest * 2 ^ 64) with
        | (true, d) => ((d.noteChange pl q.fid q.mac).l2Event pl 7 q.dest 0 q.fid q.mac).slotDone n id
        | (false, d) => d.slotDone n fun s => { s with status := Status.full }

/-- HBM becomes unavailable: every ACTIVE operation that needs it completes (R388). -/
def Dev.paddockHbmLost (d : Dev) : Dev :=
  d.each ((d.slotsUsed.filter fun e => e.2.state == 1 && e.2.kind != 3).map (·.1)) fun n d =>
    let s := d.slot n
    if s.kind = 1 then d.slotDone n fun s => { s with hits := s.keys.map fun (k : Nat × Nat) => (k.1, none) }
    else if s.kind = 2 then (d.inc (E.LearnDrops s.pl)).slotDone n id
    else d.slotDone n fun s => { s with status := Status.unavailable }

/-! ### The commands -/

/-- DEEP_LEARN_COMPLETE (R208). -/
def execDeepLearnComplete (x n : Nat) (s : State) : Host.Outcome State Fault Refusal := s.live x (Dev.deepLearnDone n)
/-- REQUEST_QUEUE_ALLOCATE (R381). -/
def execRequestQueueAllocate (x : Nat) (s : State) : Host.Outcome State Fault Refusal := s.live x (Dev.requestAllocate 64)
/-- REQUEST_QUEUE_TIMEOUT (R381). -/
def execRequestQueueTimeout (x : Nat) (s : State) : Host.Outcome State Fault Refusal := s.live x Dev.requestTimeout
/-- PADDOCK_OP_TIMEOUT (R390). -/
def execPaddockOpTimeout (x n : Nat) (s : State) : Host.Outcome State Fault Refusal := s.live x (Dev.opTimeout n)
/-- PADDOCK_RELEASE (R389). -/
def execPaddockRelease (x : Nat) (s : State) : Host.Outcome State Fault Refusal := s.live x Dev.paddockRelease

end Sys2Proof.Machine
end

