-- ==== Sys2Proof/Machine/Actions.lean ====
section
/-!
DEFINITION. The instructions of action programs (chapter 07, R219 to R239) on the frame held in a pipeline's action stage. The commands
that run them are in Sys2Proof/Machine/ActionCommands.lean.
-/
namespace Sys2Proof.Machine

/-! ### The epoch of a frame (R21, R322) -/

/-! ### The stage -/

/-- The frame in pipeline pl's action stage. -/
def Dev.stageAt (d : Dev) (pl : Nat) : Option Stage := d.net.stage.get? pl

/-- Set the stage of pipeline pl. -/
def Dev.setStage (pl : Nat) (s : Stage) (d : Dev) : Dev := { d with net := { d.net with stage := d.net.stage.set pl s } }

/-- Change the stage of pipeline pl. -/
def Dev.modStage (pl : Nat) (g : Stage → Stage) (d : Dev) : Dev :=
  match d.stageAt pl with
  | some s => d.setStage pl (g s)
  | none => d

/-- The frame of the stage. -/
def Dev.stageFrame (d : Dev) (pl : Nat) : Option (Stage × Frame) :=
  match d.stageAt pl with
  | some s => (d.frame? s.frame).map fun f => (s, f)
  | none => none

/-- Change the context of the frame in the stage. -/
def Dev.modCtx (pl : Nat) (g : Ctx → Ctx) (d : Dev) : Dev :=
  match d.stageAt pl with
  | some s => d.modFrame s.frame fun f => { f with ctx := g f.ctx }
  | none => d

/-- The program ends. -/
def Dev.endProgram (pl : Nat) (d : Dev) : Dev := d.modStage pl fun s => { s with ended := true }

/-- The program ends and drops the frame. -/
def Dev.endDrop (pl : Nat) (d : Dev) : Dev := d.modStage pl fun s => { s with ended := true, dropped := true }

/-- The queue of an internal egress port for a selected queue (R124). -/
def internalQueue (p q : Nat) : Nat := if 96 ≤ p then min q 7 else q

/-- The frame is dropped; the words that follow still run (R224, R227). -/
def Dev.markDrop (pl : Nat) (d : Dev) : Dev := d.modStage pl fun s => { s with dropped := true }

/-- A copy of the frame as received to the host's ring or to firmware (R235). -/
def puntCopy (id : Nat) (c : Ctx) (host : Bool) (ring cause reason : Nat) : Copy :=
  { port := if host then 96 else 97, queue := if host then ring else internalQueue 97 c.queue,
    entry := { frame := id, tc := c.tc, colour := c.colour, punt := { cause, reason } }, own := true }

/-- The program ends with a punt (R235). -/
def Dev.endPunt (pl : Nat) (cp : Copy) (d : Dev) : Dev := d.modStage pl fun s => { s with ended := true, punted := some cp }

/-! ### Destination, class, skip and count (R226 to R229) -/

/-- SET_CTQ. -/
def Dev.opSetCtq (pl w : Nat) (d : Dev) : Dev :=
  d.modCtx pl fun c => { c with
    tc := if bit w 25 then fld w 24 22 else c.tc
    colour := if bit w 21 then fld w 20 19 else c.colour
    queue := if bit w 18 then fld w 17 14 else c.queue }

/-- DROP. -/
def Dev.opDrop (pl : Nat) (d : Dev) : Dev := (d.inc (E.ProgramDrops pl)).endDrop pl

/-- FWD from the next hop (R196, R227). A row of zero is a member that is not valid and direct, or a row with bad parity. -/
def Dev.fwdNh (pl : Nat) (s : Stage) (f : Frame) (d : Dev) : Dev :=
  match f.ctx.nh with
  | none => (d.inc (E.NoRoute pl)).endDrop pl
  | some (_, r) =>
    if r = 0 then (d.inc (E.NextHopErrors pl)).markDrop pl
    else match Row.NextHops.kind r with
      | 2 => (d.inc (E.DestDrops pl)).markDrop pl
      | 3 => d.endPunt pl (puntCopy s.frame f.ctx true (f.ctx.spread % 8) 0 0xFFFF)
      | _ => d.modCtx pl fun c => { c with dest := some (Row.NextHops.dest r) }

/-- FWD (R227). -/
def Dev.opFwd (pl w : Nat) (d : Dev) : Dev :=
  match d.stageFrame pl with
  | none => d
  | some (s, f) =>
    match fld w 25 24 with
    | 0 => d.modCtx pl fun c => { c with dest := c.bridged }
    | 1 => d.fwdNh pl s f
    | 2 => d.modCtx pl fun c => { c with dest := some (fld w 15 0) }
    | _ =>
      if destRefused f.ctx.tag then (d.inc (E.NoRoute pl)).markDrop pl
      else d.modCtx pl fun c => { c with dest := some c.tag }

/-- The condition of SKIP_IF (R228). -/
def skipCond (f : Frame) (cond imm : Nat) : Bool :=
  let c := f.ctx
  match cond with
  | 0 => c.tag == imm
  | 1 => (c.tag &&& imm) != 0
  | 2 => c.l2hit
  | 3 => c.nh.isSome
  | 4 => c.stream.isSome
  | 5 => c.tc == imm % 8
  | 6 => c.colour == imm % 4
  | 7 => (c.flags &&& imm) != 0
  | 8 => f.port == imm % 128
  | 9 => (c.tickLow &&& imm % 256) == imm / 256
  | _ => false

/-- SKIP_IF. -/
def Dev.opSkipIf (pl w : Nat) (d : Dev) : Dev :=
  match d.stageFrame pl with
  | none => d
  | some (_, f) => d.modStage pl fun s =>
      { s with skip := if skipCond f (fld w 24 21) (fld w 15 0) != bit w 25 then fld w 20 17 else 0 }

/-- COUNT (R229): the sum of the eight copies is held. -/
def Dev.opCount (pl w : Nat) (d : Dev) : Dev :=
  match d.stageFrame pl with
  | none => d
  | some (_, f) => (d.addRow T.ActionCounters (fld w 15 0) 127 64 1).addRow T.ActionCounters (fld w 15 0) 63 0 f.len

/-! ### Edits (R230, R231) -/

/-- An edit takes effect, unless eight have (R230); `e` none: it is refused. -/
def Dev.edit (pl : Nat) (e : Option Edit) (d : Dev) : Dev :=
  match d.stageAt pl, e with
  | some s, some e => if s.edits.length < 8 then d.setStage pl { s with edits := s.edits ++ [e] } else d.inc (E.EditRefused pl)
  | _, _ => d.inc (E.EditRefused pl)

/-- The header as the edits so far leave it, parsed. -/
def Dev.head (d : Dev) (s : Stage) (f : Frame) : Parsed × Bytes :=
  let b := d.editedHead s.edits f.bytes
  (parse (d.get E.ExtraTpid) b, b)

/-- The NextHops row of the context that an edit may read: none where it is absent. -/
def Ctx.nhRow (c : Ctx) : Option Nat := match c.nh with
  | some (_, r) => if r = 0 then none else some r
  | none => none

/-- The VID of a VID_SRC (R226). -/
def vidOf (c : Ctx) (src imm : Nat) : Option Nat :=
  match src with
  | 0 => some imm
  | 1 => c.nhRow.map Row.NextHops.vid
  | 2 => some c.vid
  | _ => some (c.tag % 4096)

/-- VLAN_PUSH. -/
def Dev.opVlanPush (pl w : Nat) (d : Dev) : Dev :=
  match d.stageFrame pl with
  | none => d
  | some (s, f) =>
    let (p, _) := d.head s f
    let tpid := [0x8100, 0x88A8, 0x9100, d.get E.ExtraTpid].getD (fld w 25 24) 0
    let pcp := if bit w 21 then f.ctx.tc else fld w 20 18
    d.edit pl (if tpid = 0 ∨ 3 ≤ p.vlans.length then none
      else (vidOf f.ctx (fld w 23 22) (fld w 11 0)).map fun v => .vlanPush tpid (pcp * 2 ^ 13 + fld w 17 17 * 2 ^ 12 + v))

/-- VLAN_POP. -/
def Dev.opVlanPop (pl w : Nat) (d : Dev) : Dev :=
  match d.stageFrame pl with
  | none => d
  | some (s, f) =>
    let (p, _) := d.head s f
    d.edit pl (if p.vlans.length < fld w 25 24 then none else some (.vlanPop (fld w 25 24)))

/-- VLAN_SET. -/
def Dev.opVlanSet (pl w : Nat) (d : Dev) : Dev :=
  match d.stageFrame pl with
  | none => d
  | some (s, f) =>
    let (p, _) := d.head s f
    let vid := if bit w 25 then vidOf f.ctx (fld w 22 21) (fld w 11 0) else some 0
    let pcp := if bit w 20 then f.ctx.tc else fld w 19 17
    let mask := (bit w 25).toNat * 0xFFF + (bit w 24).toNat * 0xE000 + (bit w 23).toNat * 0x1000
    d.edit pl (if p.vlans.isEmpty then none else vid.map fun v => .vlanSet mask (pcp * 2 ^ 13 + fld w 16 16 * 2 ^ 12 + v))

/-- MAC_SET. -/
def Dev.opMacSet (pl w : Nat) (d : Dev) : Dev :=
  match d.stageFrame pl with
  | none => d
  | some (_, f) =>
    let sm := if fld w 23 22 = 2 then some (d.row T.MacPool (fld w 7 0)) else none
    let own := fld w 23 22 == 1
    d.edit pl (match fld w 25 24 with
      | 1 => f.ctx.nhRow.map fun r => .mac (some (Row.NextHops.dmac r)) sm own
      | 2 => some (.mac (some (d.row T.MacPool (fld w 15 8))) sm own)
      | _ => some (.mac none sm own))

/-- TTL_DEC: an expired frame acts by ON_EXPIRY; one that goes to the host takes ring SPREAD mod 8, as R227's punt does. -/
def Dev.opTtlDec (pl w : Nat) (d : Dev) : Dev :=
  match d.stageFrame pl with
  | none => d
  | some (s, f) =>
    let (p, b) := d.head s f
    if !p.l3Ok b || decide (8 ≤ s.edits.length) then d.inc (E.EditRefused pl)
    else
      let t := beAt b (p.l3 + if p.kind = 1 then 8 else 7) 1
      if t ≤ 1 then
        let d := d.inc (E.TtlExpired pl)
        match fld w 25 24 with
        | 1 => d.endPunt pl (puntCopy s.frame f.ctx true (f.ctx.spread % 8) 0 (fld w 15 0))
        | 2 => d.endPunt pl (puntCopy s.frame f.ctx false 0 0 (fld w 15 0))
        | _ => d.endDrop pl
      else d.edit pl (some .ttl)

/-- DSCP_SET. -/
def Dev.opDscpSet (pl w : Nat) (d : Dev) : Dev :=
  match d.stageFrame pl with
  | none => d
  | some (s, f) =>
    let (p, b) := d.head s f
    let v := if bit w 25 then d.get (E.DscpMap f.ctx.tc) else fld w 5 0
    d.edit pl (if p.l3Ok b then some (.dscp v) else none)

/-- The next number of a SeqGen row, taken where an edit may have it (R231): not valid, or a ninth edit, refuses. -/
def Dev.seqEdit (pl gen : Nat) (ok : Bool) (e : Nat → Edit) (d : Dev) : Dev :=
  let r := d.row T.SeqGen gen
  let room := match d.stageAt pl with
    | some s => decide (s.edits.length < 8)
    | none => false
  if ok && room && Row.SeqGen.valid r == 1 then
    (d.setRowFld T.SeqGen gen 15 0 (Row.SeqGen.next r + 1)).edit pl (some (e (Row.SeqGen.next r)))
  else d.inc (E.EditRefused pl)

/-- RTAG_PUSH. -/
def Dev.opRtagPush (pl w : Nat) (d : Dev) : Dev :=
  match d.stageFrame pl with
  | none => d
  | some (s, f) => d.seqEdit pl (fld w 11 0) ((d.head s f).1.tagAt 1).isNone .rtagPush

/-- RTAG_POP. -/
def Dev.opRtagPop (pl : Nat) (d : Dev) : Dev :=
  match d.stageFrame pl with
  | none => d
  | some (s, f) => d.edit pl (if ((d.head s f).1.tagAt 1).isSome then some .rtagPop else none)

/-- HSR_PUSH. -/
def Dev.opHsrPush (pl w : Nat) (d : Dev) : Dev :=
  match d.stageFrame pl with
  | none => d
  | some (s, f) => d.seqEdit pl (fld w 11 0) ((d.head s f).1.tagAt 2).isNone (.hsrPush (fld w 19 16))

/-- HSR_POP. -/
def Dev.opHsrPop (pl : Nat) (d : Dev) : Dev :=
  match d.stageFrame pl with
  | none => d
  | some (s, f) => d.edit pl (if ((d.head s f).1.tagAt 2).isSome then some .hsrPop else none)

/-- PRP_ADD. -/
def Dev.opPrpAdd (pl w : Nat) (d : Dev) : Dev :=
  match d.stageFrame pl with
  | none => d
  | some _ => d.seqEdit pl (fld w 11 0) true (.prpAdd (fld w 17 16))

/-- PRP_STRIP. -/
def Dev.opPrpStrip (pl : Nat) (d : Dev) : Dev :=
  match d.stageFrame pl with
  | none => d
  | some (s, f) => d.edit pl (if (prpSeq (d.head s f).2).isSome then some .prpStrip else none)

/-! ### Copies and punts (R234, R235, R265, R271, R272) -/

/-- Queue copies for admission (R266). -/
def Dev.pushCopies (pl : Nat) (l : List Copy) (d : Dev) : Dev :=
  { d with net := { d.net with copies := d.net.copies.set pl (d.net.copies.getD pl [] ++ l) } }

/-- MIRROR (R271): copies of the frame as received, truncated and tagged; none leaves by a tether port (R396). -/
def Dev.opMirror (pl w : Nat) (d : Dev) : Dev :=
  match d.stageFrame pl with
  | none => d
  | some (s, f) =>
    let m := fld w 3 0
    let r := d.row T.MirrorSessions m
    if Row.MirrorSessions.valid r = 0 then d.inc (E.MirrorDrops m)
    else
      let edits := (if Row.MirrorSessions.truncEn r = 1 then [Edit.trunc (Row.MirrorSessions.trunc r)] else []) ++
        (if Row.MirrorSessions.tagEn r = 1 then [Edit.vlanPush 0x8100 (Row.MirrorSessions.pcp r * 2 ^ 13 + Row.MirrorSessions.vid r)] else [])
      let (ports, d) := d.portsOf pl f.port f.ctx.spread (Row.MirrorSessions.dest r)
      let d := d.add (E.MirrorDrops m) (ports.filter d.isTether).length
      d.pushCopies pl ((ports.filter fun p => !d.isTether p).map fun p =>
        let queue := internalQueue p (Row.MirrorSessions.queue r)
        { port := p, queue,
          entry := { frame := s.frame, edits, tc := f.ctx.tc, colour := Row.MirrorSessions.colour r, mirror := some m,
                     dhop := if (d.asOf f.x).isDhop p queue then some f.dhopX else none, punt := { cause := 3 } } })

/-- SAMPLE (R272): an offer; the N-th takes the frame, with the next SOURCE_SEQ of its sampler and pipeline (R274). -/
def Dev.opSample (pl w : Nat) (d : Dev) : Dev :=
  match d.stageAt pl with
  | none => d
  | some s =>
    let k := fld w 3 0
    let r := d.row T.Samplers k
    if Row.Samplers.valid r = 0 then d
    else
      let key := k * 8 + pl
      let total := d.net.offered.getD key 0 + 1
      let n := d.net.offers.getD key 0 + 1
      let d := { d with net := { d.net with offered := d.net.offered.set key total } }
      if n < Row.Samplers.n r then { d with net := { d.net with offers := d.net.offers.set key n } }
      else
        let (seq, d) := d.nextSeq (srcKey T.Samplers key)
        let p : SamplePend := { sampler := k, pl, frame := s.frame, seq, offered := total % 2 ^ 32 }
        ({ d with net := { d.net with offers := d.net.offers.set key 0, samples := d.net.samples ++ [p] } }).inc (E.SamplesTaken k)

/-- PUNT (R235, R385). -/
def Dev.opPunt (pl w : Nat) (d : Dev) : Dev :=
  match d.stageFrame pl with
  | none => d
  | some (s, f) =>
    let reason := fld w 15 0
    if fld w 25 24 = 2 then
      let q := if bit w 22 then f.ctx.spread % 16 else fld w 21 19
      d.modStage pl fun s => { s with ended := true, paddock := some (q, reason) }
    else
      let ring := if bit w 22 then f.ctx.spread % 8 else fld w 21 19
      let cp := puntCopy s.frame f.ctx (fld w 25 24 == 0) ring 0 reason
      if bit w 23 then d.pushCopies pl [cp] else d.endPunt pl cp

/-! ### Launch and setpoint (R236, R237) -/

/-- The tick whose low 32 bits are given, nearest to n (R236, R238). -/
def tickNear (n low : Nat) : Nat := ((n : Int) + sgn 32 ((low + 2 ^ 32 - n % 2 ^ 32) % 2 ^ 32)).toNat

/-- LAUNCH (R236): the target in output time. -/
def Dev.opLaunch (pl w : Nat) (d : Dev) : Dev :=
  match d.stageFrame pl with
  | none => d
  | some (_, f) =>
    let m := if fld w 25 24 = 0 then f.tick + fld w 23 12 else tickNear f.tick f.ctx.udf1
    d.modStage pl fun s => { s with launch := some (((d.tickStart m + s.arg : Nat) : Int) * 65536) }

/-- The offset of an ANCHOR in a frame (R147). -/
def anchorOf (p : Parsed) (a : Nat) : Option Nat :=
  match a with
  | 0 => some 0
  | 1 => if p.kind = 0 then none else some p.l3
  | 2 => p.l4
  | _ => match p.l4, p.l4Len with
    | some o, some n => if p.has 2 then some (o + n) else none
    | _, _ => none

/-- SETPOINT (R237, R239): the block is read as the frame arrives and acted on once it has proved good. -/
def Dev.opSetpoint (pl w : Nat) (d : Dev) : Dev :=
  match d.stageFrame pl with
  | none => d
  | some (s, f) =>
    let p := parse (d.get E.ExtraTpid) f.bytes
    let blk : SetBlock := { off := (anchorOf p (fld w 24 23)).map (· + fld w 22 15), mask := fld w 7 0 }
    let d := d.modFrame s.frame fun f => { f with blocks := f.blocks ++ [blk] }
    d.modStage pl fun s => { s with consume := s.consume || !bit w 25 }

/-! ### Running words (R224, R243, R244, R518) -/

/-- One instruction word. -/
def Dev.runOp (pl word : Nat) (d : Dev) : Dev :=
  match word / 2 ^ 26 with
  | 0x00 => d.endProgram pl
  | 0x01 => d.opSetCtq pl word
  | 0x02 => d.opFwd pl word
  | 0x03 => d.opDrop pl
  | 0x04 => d.opSkipIf pl word
  | 0x05 => d.opCount pl word
  | 0x08 => d.opVlanPush pl word
  | 0x09 => d.opVlanPop pl word
  | 0x0A => d.opVlanSet pl word
  | 0x0B => d.opMacSet pl word
  | 0x0C => d.opTtlDec pl word
  | 0x0D => d.opDscpSet pl word
  | 0x10 => d.opRtagPush pl word
  | 0x11 => d.opRtagPop pl
  | 0x12 => d.opHsrPush pl word
  | 0x13 => d.opHsrPop pl
  | 0x14 => d.opPrpAdd pl word
  | 0x15 => d.opPrpStrip pl
  | 0x18 => d.opMirror pl word
  | 0x19 => d.opSample pl word
  | 0x1A => d.opPunt pl word
  | 0x1C => d.opLaunch pl word
  | 0x1D => d.opSetpoint pl word
  | _ => d

/-- TABLE_ID and TABLE_ADDR of an executed instruction (R244). The row a lookup result came from counts as touched by the instruction that
reads that result: the L2 row of the bridged destination, the exact-match row of the stream (log 152). -/
def touched (c : Ctx) (word : Nat) : Nat × Nat :=
  let nh : Nat × Nat := (2, (c.nh.map (·.1)).getD 0)
  let row (t : Nat) (i : Option Nat) : Nat × Nat := match i with
    | some i => (t, i)
    | none => (0, 0)
  let group (x : Nat) (other : Nat × Nat) : Nat × Nat := if destKind x = 2 then (9, destOf x) else other
  match word / 2 ^ 26 with
  | 0x02 => match fld word 25 24 with
    | 0 => match c.bridged with
      | some x => group x (row 1 c.l2row)
      | none => row 1 c.l2row
    | 1 => nh
    | 2 => group (fld word 15 0) (0, 0)
    | _ => if destRefused c.tag then (0, 0) else group c.tag (0, 0)
  | 0x04 => match fld word 24 21 with
    | 2 => row 1 c.l2row
    | 3 => if c.nh.isSome then nh else (0, 0)
    | 4 => row 3 c.emRow
    | _ => (0, 0)
  | 0x05 => (5, fld word 15 0)
  | 0x08 => if fld word 23 22 = 1 then nh else (0, 0)
  | 0x0A => if bit word 25 ∧ fld word 22 21 = 1 then nh else (0, 0)
  | 0x0B => if fld word 25 24 = 1 then nh else if fld word 25 24 = 2 then (6, fld word 15 8)
    else if fld word 23 22 = 2 then (6, fld word 7 0) else (0, 0)
  | 0x10 | 0x12 | 0x14 => (4, fld word 11 0)
  | 0x18 => (7, fld word 3 0)
  | 0x19 => (8, fld word 3 0)
  | _ => (0, 0)

/-- Records that the buffer of pipeline pl still holds: it passes one to the ring each clock (R519). -/
def Dev.sampleHeld (d : Dev) (pl : Nat) : Nat :=
  let b := d.net.sampBuf.getD pl (0, 0)
  b.1 - (coreClock d.now - b.2)

/-- An action sampling record (R243, R518); LATENCY is a clock count that the model leaves free. One that finds the buffer of 64 full is lost and
still takes its SOURCE_SEQ (R519). -/
def Dev.actionRecord (pl word : Nat) (d : Dev) : Dev :=
  match d.stageFrame pl with
  | none => d
  | some (s, f) =>
    if s.sampled && bit (d.get (E.ActionOpcodeMask pl)) (word / 2 ^ 26) then
      let src := srcKey (T.ActionSamples pl) 0
      let held := d.sampleHeld pl
      if 64 ≤ held then (d.nextSeq src).2.inc (E.ActionSamplesLost pl)
      else
        let d := { d with net := { d.net with sampBuf := d.net.sampBuf.set pl (held + 1, coreClock d.now) } }
        let (lat, d) := d.free 16
        let t := touched f.ctx word
        d.ringPush (T.ActionSamples pl) 4096 (E.ActionSampleCount pl) src 239 fun n acq =>
          n * 2 ^ 240 + acq.toNat * 2 ^ 239 + pl * 2 ^ 236 + (f.ctx.binding.getD 0) * 2 ^ 224 + s.pc % 16 * 2 ^ 220 +
            (s.base + s.pc) % 2 ^ 14 * 2 ^ 206 + word % 2 ^ 32 * 2 ^ 174 + t.1 * 2 ^ 166 + t.2 % 2 ^ 24 * 2 ^ 142 + lat * 2 ^ 126 +
            f.port % 128 * 2 ^ 119 + f.otime
    else d

/-- The word at the program counter runs, or is skipped; the program ends after its last word. -/
def Dev.stepWord (pl word : Nat) (op : Dev → Dev) (d : Dev) : Dev :=
  match d.stageAt pl with
  | none => d
  | some s =>
    if s.ended then d
    else
      let d := if s.skip = 0 then op (d.actionRecord pl word) else d.setStage pl { s with skip := s.skip - 1 }
      d.modStage pl fun s => { s with pc := s.pc + 1, ended := s.ended || decide (s.len ≤ s.pc + 1) }

/-- Run the program from the store to its end; fuel is the number of words. -/
def Dev.runProgram (pl : Nat) : Nat → Dev → Dev
  | 0, d => d
  | fuel + 1, d =>
    match d.stageAt pl with
    | none => d
    | some s =>
      if s.ended then d
      else
        let word := d.row T.ProgramStore (s.base + s.pc)
        (d.stepWord pl word (Dev.runOp pl word)).runProgram pl fuel

/-- A frame enters the action stage with its context (R219): no binding, an invalid one, or a program of its epoch. -/
def Dev.enterStage (pl id : Nat) (d : Dev) : Dev :=
  match d.frame? id with
  | none => d
  | some f =>
    let st : Stage := { frame := id, base := 0, len := 0, arg := 0, ended := true }
    match f.ctx.binding with
    | none => (d.inc (E.NoBindingFrames pl)).setStage pl st
    | some b =>
      let r := (d.asOf f.x).row T.Bindings b
      if Row.Bindings.valid r = 0 then (d.inc (E.InvalidBindingDrops pl)).setStage pl { st with dropped := true }
      else
        let d := d.inc (E.ProgramRuns pl)
        let cfg := d.row T.ActionSampleConfig pl
        let counts := Row.ActionSampleConfig.enable cfg == 1 && decide (Row.ActionSampleConfig.bindingLo cfg ≤ b) &&
          decide (b ≤ Row.ActionSampleConfig.bindingHi cfg)
        let n := d.net.runs.getD pl 0 + counts.toNat
        let hit := counts && decide (Row.ActionSampleConfig.n cfg ≤ n)
        let d := { d with net := { d.net with runs := d.net.runs.set pl (if hit then 0 else n) } }
        d.setStage pl { frame := id, base := Row.Bindings.progBase r, len := Row.Bindings.len r + 1, arg := Row.Bindings.arg r, sampled := hit }

end Sys2Proof.Machine
end

