-- ==== Sys2Proof/Machine/Yard.lean ====
section
/-!
DEFINITION. The trigger yard (R341 to R353): lines, one-shots, generators, start groups, captures and the safe state.
-/
namespace Sys2Proof.Machine

/-- Whether the member owns the shared set (R406): OwnState 2. -/
def Dev.owner (d : Dev) : Bool := d.get E.OwnState == 2

/-- Change the yard. -/
def Dev.modYard (g : Yard → Yard) (d : Dev) : Dev := { d with yard := g d.yard }

/-- Line l's state. -/
def Dev.line (d : Dev) (l : Nat) : YLine := d.yard.lines.getD l {}

/-- Set line l's state. -/
def Dev.setLine (l : Nat) (v : YLine) (d : Dev) : Dev := d.modYard fun y => { y with lines := y.lines.set l v }

/-- Line l's row in force. -/
def Dev.yrow (d : Dev) (l : Nat) : Nat := d.row T.YardLines l

/-- Whether line l is in OUTPUT mode. -/
def Dev.isOutput (d : Dev) (l : Nat) : Bool := Row.YardLines.mode (d.yrow l) == 1

/-- Whether the yard is in its safe state. -/
def Dev.yardSafe (d : Dev) : Bool := d.get E.YardSafe == 1

/-- Whether line l may drive its ball (R342, R408). -/
def Dev.lineOwned (d : Dev) (l : Nat) : Bool := Row.YardLines.shared (d.yrow l) == 0 || d.owner

/-- Whether line l's ball may be driven: no member drives the shared set while its OWN_GNT is high (R407). -/
def Dev.lineDriven (d : Dev) (l : Nat) : Bool := Row.YardLines.shared (d.yrow l) == 0 || (d.owner && !d.pair.ownGnt)

/-- Add one to a column of YardLineCounters. -/
def Dev.lineCount (l hi lo n : Nat) (d : Dev) : Dev := d.addRow T.YardLineCounters l hi lo n

/-- A signed picosecond amount in units of 125 ps, to the nearest. -/
def trimX (ps : Nat) : Int := (sgn 16 ps + 62) / 125

/-- The level at line l's ball: 0 low, 1 high, 2 high impedance (R341, R342, R353). -/
def Dev.ballLevel (d : Dev) (l : Nat) : Nat :=
  let r := d.yrow l
  if !d.isOutput l || !d.lineDriven l then 2
  else if d.yardSafe then Row.YardLines.safeLevel r
  else ((d.line l).active != (Row.YardLines.invert r == 1)).toNat

/-- Drive line l's ball at output time t, OUT_TRIM added. -/
def Dev.driveLine (l : Nat) (t : Int) (d : Dev) : Dev :=
  d.emit (.yard (d.xAtOut t + trimX (Row.YardLines.outTrim (d.yrow l))).toNat l (d.ballLevel l))

/-! ### Starts (R342, R345, R348) -/

/-- A start reaches the ball at output time t, keeping its width. -/
def Dev.lineStart (l : Nat) (t : Int) (width : Nat) (d : Dev) : Dev :=
  let d := d.setLine l { d.line l with active := true, endT := t + width * 65536 }
  (d.lineCount l 383 320 1).driveLine l t

/-- The start group that line l belongs to (R348). -/
def Dev.groupOf (d : Dev) (l : Nat) : Option Nat :=
  let r := d.yrow l
  let g := Row.YardLines.sgp r
  if Row.YardLines.sgpValid r = 1 ∧ Row.StartGroups.valid (d.row T.StartGroups g) = 1 then some g else none

/-- Put a start in its place among those waiting: by time, then by line. -/
def groupInsert (e : Nat × Pulse) : List (Nat × Pulse) → List (Nat × Pulse)
  | [] => [e]
  | h :: t => if e.2.start < h.2.start ∨ (e.2.start = h.2.start ∧ e.1 < h.1) then e :: h :: t else h :: groupInsert e t

/-- The time a group's first waiting start may be released (R348). -/
def Dev.groupDue (d : Dev) (g : Nat) : Option (Nat × Pulse × Int) :=
  let s := d.yard.groups.getD g {}
  match s.queue with
  | [] => none
  | (l, p) :: _ =>
    let t := match s.last with
      | some last => max p.start (last + Row.StartGroups.minSpacingNs (d.row T.StartGroups g) * 65536)
      | none => p.start
    some (l, p, t)

/-- The scheduled time of generator g in tick n, where it fires then. -/
def Dev.genTime (d : Dev) (g n : Nat) : Option Int :=
  let r := d.row T.Generators g
  if Row.Generators.valid r = 1 ∧ ((n : Int) - Row.Generators.phaseTicks r) % (max 1 (Row.Generators.periodTicks r) : Int) = 0 then
    some ((d.tickStart n : Int) * 65536 + Row.Generators.offsetQ r * 8192)
  else none

/-- The time of the start that generator g has still to make in the tick in progress (R346). -/
def Dev.genOpen (d : Dev) (g : Nat) : Option Int :=
  if d.time.tickRun && d.yard.genTick.get? g != some d.tickNow && !d.yardSafe then d.genTime g d.tickNow else none

/-- Whether generator g drives line l (R346). -/
def Dev.drives (d : Dev) (g l : Nat) : Bool :=
  d.isOutput l && Row.YardLines.genValid (d.yrow l) == 1 && Row.YardLines.gen (d.yrow l) == g

/-- Whether a line of group g below l has still to be tested for a start at output time t: equal times go in ascending line number (R348). -/
def Dev.groupHolds (d : Dev) (g l : Nat) (t : Int) : Bool :=
  (List.range l).any fun m => d.groupOf m == some g && d.isOutput m && d.lineOwned m &&
    (((d.line m).queue.head?.map (·.start)) == some t ||
      (Row.YardLines.genValid (d.yrow m) == 1 && d.genOpen (Row.YardLines.gen (d.yrow m)) == some t))

/-- Release the starts of group g whose spacing has passed; one on a line that is not owned is not made (R408). Fuel is the number waiting. -/
def Dev.groupRelease (g : Nat) : Nat → Dev → Dev
  | 0, d => d
  | fuel + 1, d =>
    match d.groupDue g with
    | some (l, p, t) =>
      let s := d.yard.groups.getD g {}
      if !d.lineOwned l then (d.modYard fun y => { y with groups := y.groups.set g { s with queue := s.queue.tail } }).groupRelease g fuel
      else if t ≤ d.outTime && !d.groupHolds g l p.start then
        let d := d.modYard fun y => { y with groups := y.groups.set g { queue := s.queue.tail, last := some t } }
        let late := ((t - p.start) / 65536).toNat
        let d := d.cond (decide (p.start < t)) fun d =>
          let d := (d.lineCount l 319 256 1).addRow T.StartGroupCounters g 127 64 1
          d.setRowFld T.StartGroupCounters g 63 32 (max late (fld (d.row T.StartGroupCounters g) 63 32))
        (d.lineStart l t p.width).groupRelease g fuel
      else d
    | none => d

/-- The halter's line tests (R345). -/
def Dev.startPasses (d : Dev) (l : Nat) (p : Pulse) : Bool :=
  let v := d.line l
  let r := d.yrow l
  let n := if v.tick = p.tick then v.count else 0
  !(v.prev.isSome && decide (p.start < v.prevEnd)) &&
    (Row.YardLines.pulsesPerTick r == 0 || decide (n < Row.YardLines.pulsesPerTick r)) &&
    (Row.YardLines.minPeriodNs r == 0 || (match v.prev with
      | some t => decide (Row.YardLines.minPeriodNs r * 65536 ≤ p.start - t)
      | none => true))

/-- A start scheduled on line l (R345): suppressed with class H, or on to its group or its ball. On a line not owned it is not made (R408). -/
def Dev.scheduleStart (l : Nat) (p : Pulse) (d : Dev) : Dev :=
  if !d.lineOwned l then d
  else if d.startPasses l p then
    let v := d.line l
    let n := if v.tick = p.tick then v.count else 0
    let d := d.setLine l { v with prev := some p.start, prevEnd := p.start + p.width * 65536, tick := p.tick, count := n + 1 }
    match d.groupOf l with
    | some g =>
      let s := d.yard.groups.getD g {}
      let d := d.modYard fun y => { y with groups := y.groups.set g { s with queue := groupInsert (l, p) s.queue } }
      d.groupRelease g (s.queue.length + 1)
    | none => d.lineStart l p.start p.width
  else (d.lineCount l 255 192 1).report Src.yardSuppressed l

/-- PULSE_END (R342). -/
def Dev.pulseEnd (l : Nat) (d : Dev) : Dev :=
  let v := d.line l
  if v.active && decide (v.endT ≤ d.outTime) then (d.setLine l { v with active := false }).driveLine l v.endT else d

/-! ### Generators and one-shots (R344, R346) -/

/-- START_GROUP_RELEASE (R348). -/
def Dev.groupDuty (g : Nat) (d : Dev) : Dev := d.groupRelease g (d.yard.groups.getD g {}).queue.length

/-- GENERATOR_FIRE (R346): a start on every OUTPUT line that the generator drives, once in a tick of its phase; then the groups release
what waited for it. -/
def Dev.generatorFire (g : Nat) (d : Dev) : Dev :=
  match d.genOpen g with
  | some t =>
    if t ≤ d.outTime then
      let n := d.tickNow
      let d := d.modYard fun y => { y with genTick := y.genTick.set g n }
      let d := d.each ((List.range 56).filter (d.drives g)) fun l d =>
        d.scheduleStart l { start := t, width := Row.Generators.widthNs (d.row T.Generators g), tick := n }
      d.upto 8 Dev.groupDuty
    else d
  | none => d

/-- YARD_EVENT_FIRE: the head of line l's queue reaches its start; a generator start of the same instant is tested first. -/
def Dev.eventFire (l : Nat) (d : Dev) : Dev :=
  match (d.line l).queue with
  | [] => d
  | p :: _ =>
    if p.start ≤ d.outTime then
      let d := d.cond (Row.YardLines.genValid (d.yrow l) == 1) (Dev.generatorFire (Row.YardLines.gen (d.yrow l)))
      let v := d.line l
      let d := (d.setLine l { v with queue := v.queue.tail }).put (E.YardQueueDepth l) v.queue.tail.length
      (d.scheduleStart l p).upto 8 Dev.groupDuty
    else d

/-- Every start that is due at a boundary at offset 0 fires (R19). -/
def Dev.yardDuty (d : Dev) : Dev :=
  let d := d.upto 16 Dev.generatorFire
  d.each (d.yard.lines.filter fun l => !l.2.queue.isEmpty) fun l d => d.eventFire l.1

/-- Put a pulse in a queue in order of start time. -/
def pulseInsert (p : Pulse) : List Pulse → List Pulse
  | [] => [p]
  | h :: t => if p.start < h.start then p :: h :: t else h :: pulseInsert p t

/-- YardEventPush (R344). Answers a status. -/
def Dev.eventPush (l tick offq width : Nat) (d : Dev) : Nat × Dev :=
  let start : Int := (d.tickStart tick : Int) * 65536 + offq * 8192
  let r := d.yrow l
  let minp := Row.YardLines.minPeriodNs r
  if 56 ≤ l ∨ width < 4 ∨ 16777215 < width ∨ !d.isOutput l ∨ d.yardSafe ∨ d.period * 8 ≤ offq ∨ d.tickNow + 65536 < tick ∨
      start < d.outTime + 2000 * 65536 ∨ (minp ≠ 0 ∧ minp ≤ width) then (Status.invalidValue, d)
  else if 32 ≤ (d.line l).queue.length then (Status.full, d)
  else
    let v := d.line l
    let q := pulseInsert { start, width, tick } v.queue
    (Status.ok, (d.setLine l { v with queue := q }).put (E.YardQueueDepth l) q.length)

/-- Line l loses its queued events, each counted in EVENTS_DISCARDED. Answers how many there were. -/
def Dev.eventsDrop (l : Nat) (d : Dev) : Nat × Dev :=
  let v := d.line l
  let n := v.queue.length
  (n, if n = 0 then d else ((d.setLine l { v with queue := [] }).put (E.YardQueueDepth l) 0).lineCount l 63 0 n)

/-- Every line loses its queued events. -/
def Dev.eventsDropAll (d : Dev) : Nat × Dev :=
  (d.yard.lines.map (·.1)).foldl (fun (a : Nat × Dev) l => let r := a.2.eventsDrop l; (a.1 + r.1, r.2)) (0, d)

/-- YardEventFlush (R344). -/
def Dev.eventFlush (l : Nat) (d : Dev) : Nat × Dev := if 56 ≤ l then (Status.invalidValue, d) else (Status.ok, (d.eventsDrop l).2)

/-! ### Captures (R350 to R352) -/

/-- Whether line g is at its active level as a gate (R351): an OUTPUT line by the level it drives, none at high impedance; the input of an
OFF line is ignored (R341). -/
def Dev.gateLevel (d : Dev) (g : Nat) : Bool :=
  let low := Row.YardLines.invert (d.yrow g) == 1
  match Row.YardLines.mode (d.yrow g) with
  | 0 => false
  | 1 => match d.ballLevel g with
    | 0 => low
    | 1 => !low
    | _ => false
  | _ => (d.line g).input != low

/-- The row of an edge (R352). -/
def Dev.edgeRecord (l : Nat) (rising : Bool) (d : Dev) : Dev :=
  let v := d.line l
  let x := ((d.now : Int) - trimX (Row.YardLines.inTrim (d.yrow l))).toNat
  let t := toTimex (d.time.out.at x)
  let d := d.ringPush T.YardCaptures 4096 E.YardCaptureCount (srcKey T.YardCaptures l) 168 fun n acq =>
    n * 2 ^ 176 + l * 2 ^ 170 + (!rising).toNat * 2 ^ 169 + acq.toNat * 2 ^ 168 + v.lost.toNat * 2 ^ 167 + x % 2 ^ 67 * 2 ^ 96 + t
  (d.setLine l { v with lastX := some d.now, lost := false, capTime := t }).lineCount l 191 128 1

/-- An edge at line l's ball: its level changes; a CAPTURE line records it (R350, R352). -/
def Dev.edgeCapture (l : Nat) (rising : Bool) (held : Nat) (d : Dev) : Dev :=
  let r := d.yrow l
  let d := d.setLine l { d.line l with input := rising }
  let v := d.line l
  let sel := match Row.YardLines.edge r with
    | 0 => rising
    | 1 => !rising
    | _ => true
  if Row.YardLines.mode r == 2 && sel && decide (Row.YardLines.deglitchNs r ≤ held) && (Row.YardLines.gateValid r == 0 || d.gateLevel (Row.YardLines.gateLine r)) then
    match v.lastX with
    | some x0 => if d.now < x0 + 128 then (d.setLine l { v with lost := true }).lineCount l 127 64 1 else d.edgeRecord l rising
    | none => d.edgeRecord l rising
  else d

/-! ### The safe state (R353) -/

/-- Entry to the yard safe state with its cause; while in it, a cause only withdraws a waiting release. -/
def Dev.yardSafeEnter (cause : Nat) (d : Dev) : Dev :=
  let d := d.modYard fun y => { y with release := false }
  if d.yardSafe then d
  else
    let d := ((d.put E.YardSafe 1).inc E.YardSafeEntries).put E.YardSafeCause cause
    let d := d.eventsDropAll.2
    let d := d.modYard fun y => { y with groups := y.groups.map fun (e : Nat × YGroup) => (e.1, { e.2 with queue := [] }) }
    d.each ((List.range 56).filter d.isOutput) fun l d => (d.setLine l { d.line l with active := false }).driveLine l d.outTime

/-- YardSafeRequest and YardSafeRelease (R353): 1 only. -/
def Dev.yardSafeRequest (v : Nat) (d : Dev) : Nat × Dev := if v = 1 then (Status.ok, d.yardSafeEnter 1) else (Status.invalidValue, d)

/-- A release waits for the boundary. -/
def Dev.yardSafeRelease (v : Nat) (d : Dev) : Nat × Dev :=
  if v = 1 then (Status.ok, d.modYard fun y => { y with release := d.yardSafe }) else (Status.invalidValue, d)

/-- A waiting release is taken at a boundary. -/
def Dev.yardReleaseDuty (d : Dev) : Dev :=
  if d.yard.release && d.yardSafe then
    let d := (d.modYard fun y => { y with release := false }).put E.YardSafe 0
    let d := d.put E.YardSafeCause 0
    d.each ((List.range 56).filter d.isOutput) fun l d => d.driveLine l d.outTime
  else d

/-! ### Rows that take effect at the boundary (R343) -/

/-- The value most recently written to a row, in force or waiting. -/
def Dev.rowWritten (d : Dev) (t i : Nat) : Nat := (d.yard.pend.rows.get? (t * 2 ^ 20 + i)).getD (d.row t i)

/-- The value most recently written to an entry, in force or waiting. -/
def Dev.getWritten (d : Dev) (k : Nat) : Nat := (d.yard.pend.scal.get? k).getD (d.get k)

/-- A row that waits for the boundary. -/
def Dev.rowWait (t i v : Nat) (d : Dev) : Dev :=
  d.modYard fun y => { y with pend := { y.pend with rows := y.pend.rows.set (t * 2 ^ 20 + i) v } }

/-- An entry that waits for the boundary. -/
def Dev.entryWait (k v : Nat) (d : Dev) : Dev := d.modYard fun y => { y with pend := { y.pend with scal := y.pend.scal.set k v } }

/-- A YardLines row comes into force: a line whose MODE changes loses its events, and its ball follows. -/
def Dev.lineInstall (l v : Nat) (d : Dev) : Dev :=
  let changed := Row.YardLines.mode v != Row.YardLines.mode (d.yrow l)
  let d := d.setRow T.YardLines l v
  let d := d.cond changed fun d =>
    let d := (d.eventsDrop l).2
    d.setLine l { d.line l with active := false, lastX := none }
  d.driveLine l d.outTime

/-! ### The commands -/

/-- GENERATOR_FIRE (R346). -/
def execGeneratorFire (x g : Nat) (s : State) : Host.Outcome State Fault Refusal := s.live x (Dev.generatorFire g)
/-- YARD_EVENT_FIRE (R344). -/
def execYardEventFire (x l : Nat) (s : State) : Host.Outcome State Fault Refusal := s.live x (Dev.eventFire l)
/-- START_GROUP_RELEASE (R348). -/
def execStartGroupRelease (x g : Nat) (s : State) : Host.Outcome State Fault Refusal := s.live x (Dev.groupDuty g)
/-- PULSE_END (R342). -/
def execPulseEnd (x l : Nat) (s : State) : Host.Outcome State Fault Refusal := s.live x (Dev.pulseEnd l)
/-- YARD_EDGE_CAPTURE (R350). -/
def execYardEdgeCapture (x l : Nat) (rising : Bool) (held : Nat) (s : State) : Host.Outcome State Fault Refusal :=
  s.live x (Dev.edgeCapture l rising held)

end Sys2Proof.Machine
end

