-- ==== Sys2Proof/Machine/Setpoints.lean ====
section
/-!
DEFINITION. The process ports, the setpoint store, the setpoint halter and the local loops (R354 to R366, R465 to R467).
-/
namespace Sys2Proof.Machine

/-- The PpConfig row of port pp in force. -/
def Dev.ppRow (d : Dev) (pp : Nat) : Nat := d.row T.PpConfig pp

/-- The time in ns that a transfer takes under a PpConfig row (R355, R356). -/
def ppTransferNs (r : Nat) : Nat :=
  (8 + cdiv (32 * max (Row.PpConfig.wordsOut r) (Row.PpConfig.wordsIn r)) (1 + Row.PpConfig.twoLines r)) * Row.PpConfig.sclkNs r

/-- Whether an enabled port fits a TickPeriod (R355). -/
def ppFits (r period : Nat) : Bool := Row.PpConfig.enable r == 0 || decide (ppTransferNs r + Row.PpConfig.guardNs r ≤ period)

/-- Whether the device owns port pp (R358). -/
def Dev.ppOwned (d : Dev) (pp : Nat) : Bool := Row.PpConfig.shared (d.ppRow pp) == 0 || d.owner

/-- Whether port pp is enabled and owned. -/
def Dev.ppActive (d : Dev) (pp : Nat) : Bool := Row.PpConfig.enable (d.ppRow pp) == 1 && d.ppOwned pp

/-- Whether the device may drive port pp's balls: no member drives the shared set while its OWN_GNT is high (R358, R407). -/
def Dev.ppDriven (d : Dev) (pp : Nat) : Bool := Row.PpConfig.shared (d.ppRow pp) == 0 || (d.owner && !d.pair.ownGnt)

/-- The levels of port pp's SCLK, SFRM, DO[0] and DO[1] outside a transfer: SCLK high and the others low, or all at high impedance (R356, R358). -/
def Dev.ppIdle (d : Dev) (pp : Nat) : List Nat := if d.ppDriven pp then [1, 0, 0, 0] else [2, 2, 2, 2]

/-- Port pp's balls take their levels outside a transfer. -/
def Dev.ppShow (pp : Nat) (d : Dev) : Dev := d.emit (.processIdle d.now pp (d.ppIdle pp))

/-- PpState follows the configuration and the ownership, and so do the balls (R358). -/
def Dev.ppStates (d : Dev) : Dev :=
  d.upto 8 fun pp d =>
    let st := if Row.PpConfig.enable (d.ppRow pp) = 0 then 0 else if d.ppOwned pp then 1 else 2
    if d.get (E.PpState pp) = st then d else (d.put (E.PpState pp) st).ppShow pp

/-! ### What a transfer carries (R356, R357) -/

/-- The low n bits of v, most significant first. -/
def bitsOf (n v : Nat) : List Bool := (List.range n).map fun i => bit v (n - 1 - i)

/-- CRC-4 of R357: x^4 + x + 1, initial value 0xF, bits in transmission order, no final XOR. -/
def crc4 (l : List Bool) : Nat := l.foldl (fun c b => if bit c 3 != b then (2 * c % 16) ^^^ 3 else 2 * c % 16) 15

/-- The header and data periods of one line (R356): with two lines, line 1 carries the upper half of the header and of each word. -/
def lineBits (two : Bool) (line header : Nat) (words : List Nat) : List Bool :=
  bitsOf 4 (header / 16 ^ line) ++ (words.map fun w => if two then bitsOf 16 (w / 2 ^ (16 * line)) else bitsOf 32 w).flatten

/-- Every bit of one line, its CRC in the trailer. -/
def lineFrame (two : Bool) (line header : Nat) (words : List Nat) : List Bool :=
  let b := lineBits two line header words
  b ++ bitsOf 4 (crc4 b)

/-- Whether the CRCs that the front end sent, DI[0]'s first, are those of the status and the words (R357). -/
def crcsGood (two : Bool) (status : Nat) (words crcs : List Nat) : Bool :=
  (List.range (1 + two.toNat)).all fun line => crcs[line]? == some (crc4 (lineBits two line status words))

/-- The levels of SCLK, SFRM, DO[0] and DO[1] of port pp at the instant of the last command (R356, R358). -/
def Dev.ppBalls (d : Dev) (pp : Nat) : List Nat :=
  match d.yard.shift.get? pp with
  | some s =>
    let off := (d.outTime - s.startT * 65536).toNat
    let period := max 1 s.sclk * 65536
    let k := off / period
    if d.ppDriven pp && decide (k < s.do0.length) then
      [(decide (period ≤ off % period * 2)).toNat, (k == 0).toNat, (s.do0.getD k false).toNat, (s.do1.getD k false).toNat]
    else d.ppIdle pp
  | none => d.ppIdle pp

/-- LoopWindowNs of every port (R466). -/
def Dev.loopWindows (d : Dev) : Dev :=
  d.upto 8 fun pp d =>
    let r := d.ppRow pp
    d.store (E.LoopWindowNs pp) (if Row.PpConfig.enable r = 0 then 0 else d.period - Row.PpConfig.guardNs r - ppTransferNs r)

/-- The number of the tick that begins at the next boundary (R91). -/
def Dev.nextTick (d : Dev) : Nat := tickOf d.period (d.get E.TickPhase) d.time.nextB

/-- Whether the setpoint store of port pp has closed for the next tick (R20). -/
def Dev.closed (d : Dev) (pp : Nat) : Bool := d.time.tickRun && decide (d.time.nextB ≤ d.outNs + Row.PpConfig.guardNs (d.ppRow pp))

/-- The SetpointLimits row of word i (port * 64 + word) in force. -/
def Dev.limits (d : Dev) (i : Nat) : Nat := d.row T.SetpointLimits i

/-- Add one to a column of PpCounters. -/
def Dev.ppCount (pp hi lo : Nat) (d : Dev) : Dev := d.addRow T.PpCounters pp hi lo 1

/-! ### The store (R359, R360) -/

/-- The key of a word's slot for tick t. -/
def slotKey (i t : Nat) : Nat := i * 2 ^ 64 + t

/-- Why a word for tick t is discarded (R359), as the column of PpCounters that counts it; none where it is stored. -/
def Dev.wordRefused (d : Dev) (pp w t refusedSource : Nat) : Option (Nat × Nat) :=
  let c := d.tickNow
  if t ≤ c ∨ (t = c + 1 ∧ d.closed pp) then some (383, 320)
  else if c + 16 < t then some (319, 256)
  else if !d.ppActive pp || decide (Row.PpConfig.wordsOut (d.ppRow pp) ≤ w) || Row.SetpointLimits.source (d.limits (pp * 64 + w)) == refusedSource then
    some (191, 128)
  else none

/-- A word from a frame of pipeline pl reaches the store; of the words of one clock the highest-numbered pipeline's stands. -/
def Dev.storeWord (pl pp w v t : Nat) (d : Dev) : Dev :=
  match d.wordRefused pp w t 1 with
  | some (hi, lo) => d.ppCount pp hi lo
  | none =>
    let k := slotKey (pp * 64 + w) t
    let d := d.cond (d.yard.slots.get? k).isSome (Dev.ppCount pp 255 192)
    let clk := coreClock d.now
    let seen := if d.yard.storedClk = clk then d.yard.stored else []
    if pl < seen.getD k 0 then d
    else d.modYard fun y => { y with slots := y.slots.set k v, stored := seen.set k pl, storedClk := clk }

/-- Entry e of a block at offset off of a frame: PP, WORD, VALUE, and whether its reserved bits are zero (R237). -/
def blockEntry (b : Bytes) (off e : Nat) : Nat × Nat × Nat × Bool :=
  let o := off + 8 + 8 * e
  let pp := beAt b o 1
  (pp / 32, beAt b (o + 1) 1, beAt b (o + 4) 4, pp % 32 == 0 && beAt b (o + 2) 2 == 0)

/-- Whether a block is well formed (R238). -/
def blockOk (b : Bytes) (off : Nat) : Bool :=
  let n := beAt b (off + 1) 1
  decide (off + 8 ≤ b.length) && beAt b off 1 == 0x10 && decide (1 ≤ n) && decide (n ≤ 64) && beAt b (off + 2) 2 == 0 &&
    decide (off + 8 + 8 * n ≤ b.length) &&
    (List.range n).all fun e => let v := blockEntry b off e; v.2.2.2 && decide (v.2.1 < 64)

/-- One setpoint block of a frame at its tail (R238). -/
def Dev.blockTail (pl tick : Nat) (b : Bytes) (good : Bool) (k : SetBlock) (d : Dev) : Dev :=
  if !good then d.inc (E.SetpointFcsDiscards pl)
  else
    match k.off with
    | none => d.inc (E.SetpointFormatErrors pl)
    | some off =>
      if !blockOk b off then d.inc (E.SetpointFormatErrors pl)
      else
        let t := tickNear tick (beAt b (off + 4) 4)
        d.upto (beAt b (off + 1) 1) fun e d =>
          let v := blockEntry b off e
          if bit k.mask v.1 then (d.inc (E.SetpointWords pl)).storeWord pl v.1 v.2.1 v.2.2.1 t else d.inc (E.SetpointMaskDiscards pl)

/-- The setpoint blocks of a frame, once it has proved good or bad (R238). -/
def Dev.setpointTail (id : Nat) (good : Bool) (d : Dev) : Dev :=
  match d.frame? id with
  | none => d
  | some f => (d.each f.blocks (Dev.blockTail f.pl f.tick f.bytes good)).modFrame id fun f => { f with blocks := [] }

/-! ### The halter (R361 to R364) -/

/-- A word's value in its KIND: signed or unsigned. -/
def wordVal (kind v : Nat) : Int := if kind = 0 then sgn 32 v else (v % 2 ^ 32 : Nat)

/-- MISS of word i, which counts up to 256. -/
def Dev.wordMiss (d : Dev) (i : Nat) : Nat := (d.yard.miss.get? i).getD (Row.SetpointWordState.miss (d.row T.SetpointWordState i))

/-- STATE (R361). -/
def wordState (miss stale out safe : Nat) : Nat := if miss = 0 then 0 else if miss ≤ stale then 1 else if out = safe then 3 else 2

/-- The value driven next (R361): a discrete word's target at once, else OUT moved by at most SLEW. -/
def slewed (kind slew : Nat) (out tgt : Int) : Int :=
  if kind = 2 then tgt else out + clampInt (tgt - out) (-(slew : Int)) slew

/-- An evaluation: the next values, and whether it was clamped, slew-limited or expired. -/
structure WordEval where
  next    : NextWord
  clamped : Bool
  limited : Bool
  expired : Bool
  deriving DecidableEq, Repr

/-- R361 and R363 for a word: its limits, its SetpointWordState row, its MISS, the safe state, and the value present for the tick. -/
def evalWord (lim row miss : Nat) (safeState : Bool) (v : Option Nat) : WordEval :=
  let kind := Row.SetpointLimits.kind lim
  let stale := Row.SetpointLimits.staleTicks lim
  let safe := wordVal kind (Row.SetpointLimits.safe lim)
  let bound := fun (i : Int) =>
    if kind = 2 then i else clampInt i (wordVal kind (Row.SetpointLimits.min lim)) (wordVal kind (Row.SetpointLimits.max lim))
  let out := wordVal kind (Row.SetpointWordState.out row)
  let old := wordVal kind (Row.SetpointWordState.tgt row)
  let (tgt, miss', clamped, expired) :=
    if safeState then (safe, max miss (stale + 1), false, false)
    else match v with
      | some x => (bound (wordVal kind x), 0, bound (wordVal kind x) != wordVal kind x, false)
      | none =>
        let m := min (miss + 1) 256
        if stale < m then (safe, m, false, decide (Row.SetpointWordState.state row < 2)) else (bound old, m, bound old != old, false)
  let slew := Row.SetpointLimits.slew lim
  let out' := enc 32 (slewed kind slew out tgt)
  { next := { out := out', tgt := enc 32 tgt, miss := miss', st := wordState miss' stale out' (Row.SetpointLimits.safe lim), forced := safeState }
    clamped, expired
    limited := kind != 2 && decide ((slew : Int) < (tgt - out).natAbs) }

/-- The value present for word i at the close for tick t (R360). -/
def Dev.wordValue (d : Dev) (pp w t : Nat) : Option Nat :=
  let net := d.yard.slots.get? (slotKey (pp * 64 + w) t)
  let loop := (d.yard.loopDone.get? pp).bind fun l => (l.find? fun e => e.1 == w).map (·.2)
  match Row.SetpointLimits.source (d.limits (pp * 64 + w)) with
  | 0 => net
  | 1 => loop
  | _ => loop.or net

/-- The halter evaluates word w of port pp for tick t, counts what it did and raises class H at the start of a run (R364). -/
def Dev.evalOne (pp t w : Nat) (d : Dev) : Dev :=
  let i := pp * 64 + w
  let e := evalWord (d.limits i) (d.row T.SetpointWordState i) (d.wordMiss i) d.yardSafe (d.wordValue pp w t)
  let count := fun hi lo => Dev.addRow T.SetpointWordCounters i hi lo 1
  let d := ((d.cond e.clamped (count 191 128)).cond e.limited (count 127 64)).cond e.expired (count 63 0)
  let acted := e.clamped || e.limited || e.expired
  let d := d.cond (acted && !d.yard.acting.contains i) (Dev.report Src.setpointHalter i)
  d.modYard fun y =>
    { y with next := y.next.set i e.next, slots := y.slots.erase (slotKey i t)
             acting := if acted then (if y.acting.contains i then y.acting else i :: y.acting) else y.acting.filter (· != i) }

/-! ### Local loops (R365, R467) -/

/-- The pair that owns the loop of port pp (R365). -/
def Dev.loopPair (d : Dev) (pp : Nat) : Option Nat := if d.get (E.LoopOwner pp) < 4 then some (d.get (E.LoopOwner pp)) else none

/-- Whether the loops of pair k are suspended (R467). -/
def Dev.suspended (d : Dev) (k : Nat) : Bool := d.getB (E.LoopSuspended k)

/-- At the close, a loop that has not completed the tick has overrun (R365). -/
def Dev.loopClose (pp : Nat) (d : Dev) : Dev :=
  match d.loopPair pp with
  | none => d
  | some k =>
    if d.suspended k then d
    else if (d.yard.loopDone.get? pp).isSome then d.modYard fun y => { y with loopRun := y.loopRun.erase (k * 8 + pp) }
    else
      let d := d.modYard fun y =>
        { y with loopRun := y.loopRun.set (k * 8 + pp) (y.loopRun.getD (k * 8 + pp) 0 + 1)
                 loopStat := y.loopStat.set k (setBit (y.loopStat.getD k 0) pp true) }
      (d.ppCount pp 127 64).report Src.loopOverrun (k * 8 + pp)

/-- The SETPOINT record of port pp for tick t (R398, R403). -/
def Dev.setpointRecord (d : Dev) (pp t : Nat) : Bytes :=
  let word := fun w =>
    let i := pp * 64 + w
    match d.yard.next.get? i with
    | some n => toBE 4 n.out ++ toBE 4 n.tgt ++ toBE 1 (min n.miss 255) ++
        toBE 1 n.st ++ [0, 0]
    | none => toBE 12 0
  tetherRec 5 (toBE 1 pp ++ [0, 0, 0] ++ toBE 8 t ++ ((List.range 64).map word).flatten)

/-- The close of port pp's store: the halter evaluates every word for the next tick, once (R361), and the mate is told (R403). -/
def Dev.evaluate (pp : Nat) (d : Dev) : Dev :=
  let t := d.nextTick
  if !d.ppActive pp || d.yard.evalTick.get? pp == some t then d
  else
    let d := d.loopClose pp
    let d := d.upto 64 (Dev.evalOne pp t)
    let d := d.modYard fun y => { y with evalTick := y.evalTick.set pp t }
    d.cond (d.getB E.MirrorSetpoints && Row.PpConfig.shared (d.ppRow pp) == 1) (Dev.mirror (d.setpointRecord pp t))

/-- SETPOINT_STORE_CLOSE (R20, R361), and an expiry that comes with it (R364). -/
def Dev.storeClose (pp : Nat) (d : Dev) : Dev := if decide (pp < 8) && d.closed pp then d.evaluate pp else d

/-- The fifth duty of a boundary, first part: what the close evaluated becomes OUT, TGT, MISS and STATE (R361). -/
def Dev.installWord (i : Nat) (n : NextWord) (d : Dev) : Dev :=
  let d := d.setRow T.SetpointWordState i
    (n.out * 2 ^ 96 + n.tgt * 2 ^ 64 + min n.miss 255 * 2 ^ 56 + n.st * 2 ^ 54 + n.forced.toNat * 2 ^ 53)
  d.modYard fun y => { y with miss := if n.miss = 256 then y.miss.set i 256 else y.miss.erase i }

/-- A word at SAFE with MISS expired (R362). -/
def Dev.wordInit (i : Nat) (d : Dev) : Dev :=
  let lim := d.limits i
  let d := d.installWord i { out := Row.SetpointLimits.safe lim, tgt := Row.SetpointLimits.safe lim, miss := Row.SetpointLimits.staleTicks lim + 1, st := 3, forced := false }
  d.modYard fun y => { y with next := y.next.erase i, acting := y.acting.filter (· != i) }

/-- The words of a port that becomes enabled (R362). -/
def Dev.portWordsInit (pp : Nat) (d : Dev) : Dev := d.upto 64 fun w => Dev.wordInit (pp * 64 + w)

/-- The transfer of port pp starts (R356): the header and the words are driven, 0 beyond WORDS_OUT, DO[1] low with one line (R354). -/
def Dev.transferStart (pp : Nat) (d : Dev) : Dev :=
  if !d.ppActive pp || !d.ppDriven pp then d
  else
    let r := d.ppRow pp
    let two := Row.PpConfig.twoLines r == 1
    let word := fun w => if w < Row.PpConfig.wordsOut r then Row.SetpointWordState.out (d.row T.SetpointWordState (pp * 64 + w)) else 0
    let words := (List.range (max (Row.PpConfig.wordsOut r) (Row.PpConfig.wordsIn r))).map word
    let do0 := lineFrame two 0 d.time.tick words
    let do1 := if two then lineFrame two 1 d.time.tick words else do0.map fun _ => false
    let sclk := Row.PpConfig.sclkNs r
    let d := d.modYard fun y => { y with busy := y.busy.set pp d.time.tick, shift := y.shift.set pp { startT := d.time.boundT, sclk, do0, do1 } }
    d.emit (.process d.now pp sclk do0 do1)

/-- The fifth duty of a boundary (R19): install, then start the transfers. -/
def Dev.setpointDuty (d : Dev) : Dev :=
  let d := d.each d.yard.next fun (e : Nat × NextWord) d => d.installWord e.1 e.2
  let d := d.modYard fun y => { y with next := [], loopWords := [], loopDone := [] }
  d.upto 8 Dev.transferStart

/-- The words that DI of port pp carried: one for each period of the transfer (R356). -/
def Dev.diWords (pp : Nat) (words : List Nat) (d : Dev) : List Nat :=
  (List.range (max (Row.PpConfig.wordsOut (d.ppRow pp)) (Row.PpConfig.wordsIn (d.ppRow pp)))).map fun w => words.getD w 0

/-- STATUS_IN of port pp: 4 bits of each line (R356). -/
def Dev.diStatus (pp status : Nat) (d : Dev) : Nat := status % 16 ^ (1 + Row.PpConfig.twoLines (d.ppRow pp))

/-- Every DI line of port pp carried the CRC of its bits (R357). -/
def Dev.crcsRight (pp status : Nat) (words crcs : List Nat) (d : Dev) : Bool :=
  crcsGood (Row.PpConfig.twoLines (d.ppRow pp) == 1) (d.diStatus pp status) (d.diWords pp words) crcs

/-- The transfer of tick n of port pp has had its (8 + D)T (R356). -/
def Dev.transferOver (pp n : Nat) (d : Dev) : Bool :=
  n != d.time.tick || decide (d.time.boundT + ppTransferNs (d.ppRow pp) ≤ d.outNs)

/-- PP_TRANSFER_END (R356, R357), at the end of the last period: STATUS_IN, the inbound words as DI carried them and the CRC of each DI line;
words past WORDS_IN read 0. The loop's pair is told (R465). -/
def Dev.transferEnd (pp status : Nat) (words crcs : List Nat) (d : Dev) : Dev :=
  match d.yard.busy.get? pp with
  | none => d
  | some n =>
    if !d.transferOver pp n then d
    else
      let di := d.diWords pp words
      let good := d.crcsRight pp status words crcs
      let status := d.diStatus pp status
      let word := fun w => if w < Row.PpConfig.wordsIn (d.ppRow pp) then di.getD w 0 else 0
      let d := d.setDom (E.PpSamples pp) (toBE 1 status ++ [0, 0, 0] ++ ((List.range 64).map fun w => toBE 4 (word w)).flatten)
      let d := d.ppCount pp 511 448
      let d := d.modYard fun y =>
        { y with busy := y.busy.erase pp, shift := y.shift.erase pp, got := y.got.set pp n
                 good := if good then y.good.set pp n else y.good.erase pp }
      let d := d.cond (!good) fun d => (d.ppCount pp 447 384).report Src.processPortCrc pp
      match d.loopPair pp with
      | some k => d.emit (.interrupt d.now (8 + 2 * k) "ready")
      | none => d

/-- TC_LOOP_WORD (R465): staged; a port that is not the pair's counts in LOOP_FOREIGN; a suspended loop's words are discarded (R467). -/
def Dev.loopWord (k w : Nat) (d : Dev) : Dev :=
  let pp := fld w 63 61
  if d.loopPair pp != some k then d.inc (E.LoopForeign k)
  else if d.suspended k then d
  else d.modYard fun y => { y with loopWords := y.loopWords.set (k * 512 + pp * 64 + fld w 57 52) (fld w 31 0) }

/-- TC_LOOP_STAT as pair k reads it on its own bus (R465): OVERRUN, SUSPENDED, DONE and READY. No command of the table reads or writes it. -/
def Dev.loopStatReg (d : Dev) (k : Nat) : Nat :=
  let own := (List.range 8).filter fun pp => d.loopPair pp == some k
  let bits (c : Nat → Bool) : Nat := (own.filter c).foldl (fun m pp => setBit m pp true) 0
  d.yard.loopStat.getD k 0 * 2 ^ 24 + bits (fun _ => d.suspended k) * 2 ^ 16 + bits (fun pp => (d.yard.loopDone.get? pp).isSome) * 2 ^ 8 +
    bits fun pp => d.yard.got.get? pp == some d.time.tick

/-- A loop word is accepted at the completion of its port (R359, R365). -/
def Dev.loopAccept (pp w v : Nat) (d : Dev) : Dev :=
  match d.wordRefused pp w (d.tickNow + 1) 0 with
  | some (hi, lo) => d.ppCount pp hi lo
  | none =>
    let l := d.yard.loopDone.getD pp []
    let d := d.cond (l.any fun e => e.1 == w) (Dev.ppCount pp 255 192)
    d.modYard fun y => { y with loopDone := y.loopDone.set pp ((w, v) :: l.filter fun e => e.1 != w) }

/-- TC_LOOP_DONE for one port: its words are accepted now; before the close the tick is completed. -/
def Dev.loopDone1 (k pp : Nat) (d : Dev) : Dev :=
  if d.loopPair pp != some k then d.inc (E.LoopForeign k)
  else if d.suspended k then d
  else
    let lo := k * 512 + pp * 64
    let words := d.yard.loopWords.between lo (lo + 64)
    let d := d.modYard fun y => { y with loopWords := y.loopWords.filter fun (e : Nat × Nat) => decide (e.1 < lo ∨ lo + 64 ≤ e.1) }
    let d := d.cond (!d.closed pp) fun d =>
      let d := d.cond (d.yard.loopDone.get? pp).isNone (Dev.ppCount pp 63 0)
      d.modYard fun y => { y with loopDone := y.loopDone.set pp (y.loopDone.getD pp []) }
    d.each words fun (e : Nat × Nat) d => d.loopAccept pp (e.1 - lo) e.2

/-- TC_LOOP_DONE (R465). -/
def Dev.loopDoneMask (k mask : Nat) (d : Dev) : Dev := d.each ((List.range 8).filter (bit mask)) (Dev.loopDone1 k)

/-- LOOP_OVERRUN_LIMIT (R467): the pair has overrun LoopOverrunLimit consecutive ticks on a port. -/
def Dev.loopLimit (k pp : Nat) (d : Dev) : Dev :=
  let a := d.get (E.LoopOverrunAction k)
  if d.suspended k || decide (d.yard.loopRun.getD (k * 8 + pp) 0 < d.get (E.LoopOverrunLimit k)) || a == 0 then d
  else
    let d := (d.put (E.LoopSuspended k) 1).modYard fun y =>
      { y with loopRun := y.loopRun.filter fun (e : Nat × Nat) => e.1 / 8 != k
               loopWords := y.loopWords.filter fun (e : Nat × Nat) => e.1 / 512 != k }
    d.cond (a == 2) (Dev.yardSafeEnter 2)

/-- A written LoopResume takes effect at a boundary (R467). -/
def Dev.resumeDuty (d : Dev) : Dev :=
  let d := d.each d.yard.resume fun k d => d.cond (d.suspended k) (Dev.put (E.LoopSuspended k) 0)
  d.modYard fun y => { y with resume := [] }

/-- A PpConfig row comes into force (R343): a port that becomes enabled starts its words anew (R362). -/
def Dev.ppInstall (pp v : Nat) (d : Dev) : Dev :=
  let was := Row.PpConfig.enable (d.ppRow pp)
  let d := d.setRow T.PpConfig pp v
  let d := d.cond (was == 0 && Row.PpConfig.enable v == 1) (Dev.portWordsInit pp)
  d.cond (Row.PpConfig.enable v == 0) fun d =>
    d.modYard fun y => { y with busy := y.busy.erase pp, shift := y.shift.erase pp, got := y.got.erase pp, good := y.good.erase pp, next := y.next.filter fun (e : Nat × NextWord) => e.1 / 64 != pp }

/-- Setpoint words held for later ticks are discarded (R88, R94). Answers how many. -/
def Dev.slotsDrop (d : Dev) : Nat × Dev := (d.yard.slots.length, d.modYard fun y => { y with slots := [], next := [], evalTick := [] })

/-! ### The commands -/

/-- SETPOINT_STORE_CLOSE (R361). -/
def execSetpointStoreClose (x pp : Nat) (s : State) : Host.Outcome State Fault Refusal := s.live x (Dev.storeClose pp)
/-- STALE_TICKS_EXPIRY (R364): MISS of a word exceeds STALE_TICKS, which comes with the evaluation of its port. -/
def execStaleTicksExpiry (x word : Nat) (s : State) : Host.Outcome State Fault Refusal := s.live x (Dev.storeClose (word / 64))
/-- LOOP_OVERRUN_LIMIT (R467). -/
def execLoopOverrunLimit (x pair port : Nat) (s : State) : Host.Outcome State Fault Refusal := s.live x (Dev.loopLimit pair port)
/-- PP_TRANSFER_END (R356). -/
def execPpTransferEnd (x pp status : Nat) (words crcs : List Nat) (s : State) : Host.Outcome State Fault Refusal :=
  s.live x (Dev.transferEnd pp status words crcs)
/-- TC_LOOP_WORD (R465). -/
def execTcLoopWord (x pair : Nat) (w : BitVec 64) (s : State) : Host.Outcome State Fault Refusal := s.live x (Dev.loopWord pair w.toNat)
/-- TC_LOOP_DONE (R465). -/
def execTcLoopDone (x pair : Nat) (mask : BitVec 32) (s : State) : Host.Outcome State Fault Refusal := s.live x (Dev.loopDoneMask pair mask.toNat)

end Sys2Proof.Machine
end

