-- ==== Sys2Proof/Machine/Ingress.lean ====
section
/-!
DEFINITION. A frame through its pipeline (R125, R173 to R175, R179 to R187, R195 to R205, R219): lookup, the action stage and what follows
it (R236, R254, R265, R307), and the arrival of its tail (R138, R591).
-/
namespace Sys2Proof.Machine

/-! ### Arrival -/

/-- The tick that an ingress timestamp falls in (R21). -/
def Dev.tickAt (d : Dev) (x : Nat) : Nat := if !d.time.tickRun then 0 else if x < d.time.boundX then d.time.prevTick else d.time.tick

/-- The D_HOP target of a frame from external port p with ingress timestamp x (R129, R130). -/
def Dev.dhopTarget (d : Dev) (p x : Nat) : Nat :=
  x + (((d.asOf x).get (E.DhopNs p) * 2 ^ 51 : Nat) / ((2 : Int) ^ 48 + d.time.out.w)).toNat

/-- A frame enters pipeline pl from port `port` with ingress timestamp x. Answers its id. -/
def Dev.arrive (port pl x : Nat) (b : Bytes) (frag : Bool) (d : Dev) : Nat × Dev :=
  let id := d.net.nextId
  let t := toTimex (d.time.out.at x)
  let f : Frame :=
    { port, pl, bytes := b, x, time := t, tick := d.tickAt x, acq := d.acqNow, frag, tail := if port < 96 then 0 else 1,
      oport := port, ox := x, otime := t, dhopX := if port < 96 then d.dhopTarget port x else 0 }
  let d := d.cond (decide (96 ≤ port)) fun d => (d.inc (E.RxFrames port)).add (E.RxOctets port) (b.length + 4)
  (id, ({ d with net := { d.net with nextId := id + 1, frames := d.net.frames.set id f } }).noteFree)

/-! ### Lookup -/

/-- A frame in lookup: its parse, window, VID, FID and Vlans row, in the epoch view `c`. -/
structure Look where
  p   : Parsed
  w   : Bytes
  vid : Nat
  fid : Nat
  vr  : Nat
  deriving DecidableEq, Repr

/-- The VID of a frame (R175). -/
def frameVid (p : Parsed) (w : Bytes) (pvid : Nat) : Nat :=
  let v := p.vlan w 0 % 2 ^ 12
  if 1 ≤ p.count 0 ∧ v ≠ 0 then v else pvid

/-- The VLAN checks of R175; none where the frame is dropped. -/
def Dev.vlanCheck (d : Dev) (p : Parsed) (w : Bytes) (port : Nat) : Option Look :=
  let b := d.row T.PortBridge port
  let vid := frameVid p w (Row.PortBridge.pvid b)
  let vr := d.row T.Vlans vid
  if vid = 4095 then none
  else if Row.Vlans.valid vr = 0 then none
  else if Row.PortBridge.ingressFilter b = 1 ∧ !bit (Row.Vlans.members vr) port then none
  else some { p, w, vid, fid := Row.Vlans.fid vr, vr }

/-- Count the bad rows that a search of a TABLE met. -/
def Dev.badRows (pl t parity : Nat) (rows : List Nat) (d : Dev) : Dev := d.each rows fun i d => (d.inc parity).foundBad pl t i

/-- The source search (R181, R185 to R187): a learn or move request is put in the frame, HIT is set; answers whether the frame is dropped by
SA_DISCARD or LIMIT_DROP. -/
def Dev.sourceSearch (id : Nat) (f : Frame) (k : Look) (tc : Nat) (d : Dev) : Bool × Dev :=
  let mac := beAt k.w 6 6
  let b := d.row T.PortBridge f.port
  let may := Row.Vlans.learn k.vr == 1 && Row.PortBridge.learn b == 1 && !isGroup mac && mac != 0 && decide (f.port < 96)
  let dest := d.learnDest f.port
  let req (old : Option Nat) : LearnReq := { fid := k.fid, mac, dest, old, port := f.port, tc }
  let (found, bad) := d.l2Search f.pl k.fid mac
  let d := d.badRows f.pl (T.L2Rows f.pl) (E.L2ParityMisses f.pl) bad
  match found with
  | some i =>
    let r := d.row (T.L2Rows f.pl) i
    let d := if !may then d
      else if l2Dest r = dest then d.setRow (T.L2Rows f.pl) i (setBit r 85 true)
      else d.modFrame id fun f => { f with learn := some (req (some (l2Dest r))) }
    (Row.L2Rows.saDiscard r == 1, d)
  | none =>
    if !may || !bad.isEmpty then (false, d)
    else
      let cap := Row.PortBridge.learnLimit b
      if cap ≠ 0 ∧ cap ≤ ((d.l2Learned f.pl).filter fun e => l2Dest e.2 == dest).length then
        (Row.PortBridge.limitDrop b == 1, d.modFrame id fun f => { f with limit := some (req none) })
      else (false, d.modFrame id fun f => { f with learn := some (req none) })

/-- Whether a hit on an entry counts as a miss: a learned entry whose port is not UP (R179). -/
def Dev.staleHit (d : Dev) (static : Bool) (dest : Nat) : Bool := !static && destKind dest == 0 && d.destDown dest

/-- The destination search (R179): hit destination, DA_DISCARD, and the key to search deep. -/
def Dev.destSearch (f : Frame) (k : Look) (d : Dev) : Option Nat × Bool × Option Nat × Dev :=
  let mac := beAt k.w 0 6
  let (found, bad) := d.l2Search f.pl k.fid mac
  let d := d.badRows f.pl (T.L2Rows f.pl) (E.L2ParityMisses f.pl) bad
  let row := found.map fun i => d.row (T.L2Rows f.pl) i
  let da := (row.map fun r => Row.L2Rows.daDiscard r == 1).getD false
  let hit := row.bind fun r =>
    if mac == 2 ^ 48 - 1 || d.staleHit (Row.L2Rows.static r == 1) (l2Dest r) then none else some (l2Dest r)
  let deep := if hit.isNone && d.getB E.L2DeepSearch && !isGroup mac then some (deepL2Key f.pl k.fid mac) else none
  (hit, da, deep, d)

/-- An exact-match search (R199, R200): the low 80 bits of the row found; HIT is set. -/
def Dev.emLookup (f : Frame) (key : Nat) (d : Dev) : Option Nat × Dev :=
  let pr := f.pl / 2
  let (found, bad) := d.emSearch pr key
  let d := d.badRows f.pl (T.EmRows pr) (E.EmParityMisses f.pl) bad
  match found with
  | some i =>
    let r := d.row (T.EmRows pr) i
    (some (r % 2 ^ 80), d.setRow (T.EmRows pr) i (setBit r 254 true))
  | none => (none, d)

/-- Whether a missed key of its kind is searched deep (R200). -/
def Dev.emDeep (d : Dev) (key : Nat) : Bool := bit (d.get E.EmDeepKinds) (key / 2 ^ 156)

/-- The next hop a route result names (R196, R200); its bad rows raise their faults. -/
def Dev.nextHop (pl n spread : Nat) (d : Dev) : Option (Nat × Nat) × Dev :=
  let (r, bad) := d.resolveNh n spread
  (r, d.each bad (Dev.foundBad pl T.NextHops))

/-- The LPM search (R195). -/
def Dev.lpmLookup (c : Dev) (f : Frame) (k : Look) (spread : Nat) (d : Dev) : Option (Nat × Nat) × Dev :=
  if k.p.kind = 0 then (none, d)
  else
    let (n, bad) := c.lpm (f.pl / 2) (k.p.kind == 2) k.p.dip
    let d := d.badRows f.pl T.LpmRoutes (E.LpmParityMisses f.pl) bad
    match n with
    | some n => d.nextHop f.pl n spread
    | none => (none, d.inc (E.LpmMisses f.pl))

/-- The recovery function of a stream result checks the frame (R201, R203, R205); a PRP trailer is checked at the tail. Answers a pass. -/
def Dev.recovery (id n : Nat) (f : Frame) (p : Parsed) (w : Bytes) (d : Dev) : Bool × Dev :=
  let r := d.row T.RecoveryFunctions n
  if Row.RecoveryFunctions.valid r = 0 then (true, d)
  else
    match headSeq (Row.RecoveryFunctions.seqSource r) p w with
    | some s => d.recCheck f.pl n s
    | none => if f.tail = 0 then (true, d.modFrame id fun f => { f with prp := some n }) else d.recCheck f.pl n (prpSeq f.bytes)

/-- A stream result (R198, R200, R201): the handle, and the recovery function's verdict. -/
def Dev.streamResult (id res : Nat) (f : Frame) (p : Parsed) (w : Bytes) (d : Dev) : Bool × Dev :=
  let d := d.cond (bit res 62) (Dev.modFrame id fun f => { f with ctx := { f.ctx with stream := some (fld res 61 46) } })
  if bit res 45 then d.recovery id (fld res 44 31) f p w else (true, d)

/-- The lookup stage (R173 to R175, R195 to R201) after classification, in the epoch view c. Answers whether the frame goes on to the action
stage; a frame that leaves for the paddock or is dropped does not. -/
def Dev.lookup (id : Nat) (c : Dev) (p : Parsed) (w : Bytes) (v : Verdict) (udf1 : Nat) (d : Dev) : Bool × Dev :=
  match d.frame? id with
  | none => (false, d)
  | some f =>
    let d := (d.readBad f.pl T.PortBridge f.port).readBad f.pl T.Vlans (frameVid p w (Row.PortBridge.pvid (d.row T.PortBridge f.port)))
    match d.vlanCheck p w f.port with
    | none => (false, (d.inc (E.VlanDrops f.pl)).settle id)
    | some k =>
      let b := d.row T.PortBridge f.port
      let (sa, d) := d.sourceSearch id f k v.tc
      let (hit, da, deepL2, d) := d.destSearch f k
      let (lpm, d) := Dev.lpmLookup c f k v.spread d
      let rkey := if Row.PortBridge.hostRoute b = 1 ∧ p.kind ≠ 0 then some (routeKey p) else none
      let (route, d) := match rkey with
        | some key => d.emLookup f key
        | none => (none, d)
      let (nh, d) := match route with
        | some r => if bit r 79 then d.nextHop f.pl (fld r 78 63) v.spread else (lpm, d)
        | none => (lpm, d)
      let skey := streamKey (Row.PortBridge.streamId b) k.vid p w
      let (stream, d) := match skey with
        | some key => d.emLookup f key
        | none => (none, d)
      let d := d.modFrame id fun f => { f with ctx :=
        { tc := v.tc, colour := v.colour, queue := v.queue, binding := v.binding, tag := v.tag, spread := v.spread, dest := hit, bridged := hit,
          l2hit := hit.isSome, l2row := if hit.isSome then (d.l2Search f.pl k.fid (beAt w 0 6)).1 else none,
          emRow := if stream.isSome then (d.emSearch (f.pl / 2) (skey.getD 0)).1 else none, nh, vid := k.vid, fid := k.fid, flags := p.flags, tickLow := f.tick % 256, udf1 } }
      let f := (d.frame? id).getD f
      let (pass, d) := match stream with
        | some r => d.streamResult id r f p w
        | none => (true, d)
      let missed := skey.isSome && stream.isNone
      let count (d : Dev) : Dev := d.cond missed (Dev.inc (E.EmStreamMisses f.pl))
      if sa || da || !pass then (false, (count d).settle id)
      else
        let sdeep := if missed && d.emDeep (skey.getD 0) then some (skey.getD 0) else none
        let rdeep := if rkey.isSome && route.isNone && d.emDeep (rkey.getD 0) then some (rkey.getD 0) else none
        let keys := (deepL2.toList.map fun q => (0, q)) ++ (sdeep.toList.map fun q => (1, q)) ++ rdeep.toList.map fun q => (2, q)
        let (left, d) := if keys.isEmpty then (false, d) else d.paddockSearch id v.tc v.colour keys
        if left && sdeep.isSome then (false, d) else (!left, count d)

/-! ### After the action stage -/

/-- The gate of a stream filter (R308): open, with its latch. -/
def Dev.gateOpen (d : Dev) (row g tick : Nat) : Bool :=
  Row.StreamGates.valid row == 1 && !bit (d.row T.GateLatched g) 7 &&
    decide (((tick : Int) - Row.StreamGates.offset row) % (max 1 (Row.StreamGates.cycleTicks row) : Nat) < Row.StreamGates.openLen row)

/-- Set the BLOCKED latch of a stream; every change of StreamsBlocked is a notification (R307, R311). -/
def Dev.streamBlock (h : Nat) (d : Dev) : Dev :=
  if bit (d.row T.StreamBlocked h) 7 then d
  else (d.setRow T.StreamBlocked h 128).put E.StreamsBlocked (d.get E.StreamsBlocked + 1)

/-- The outcome of a stream filter: dropped, or the colour and queue that go on. -/
structure Filtered where
  drop   : Bool
  colour : Nat
  queue  : Nat
  deriving DecidableEq, Repr

/-- Per-stream filtering, gating and metering (R307) with the rows of the frame's epoch. -/
def Dev.streamFilter (f : Frame) (d : Dev) : Filtered × Dev :=
  let keep : Filtered := { drop := false, colour := f.ctx.colour, queue := f.ctx.queue }
  let gone : Filtered := { keep with drop := true }
  let c := d.asOf f.x
  match f.ctx.stream with
  | none => (keep, d)
  | some h =>
    let r := c.row T.StreamFilters h
    let count := fun hi lo => Dev.addRow T.StreamCounters h hi lo 1
    if Row.StreamFilters.valid r = 0 then (keep, d)
    else
      let d := count 383 320 d
      let sdu := Row.StreamFilters.maxSdu r
      if bit (d.row T.StreamBlocked h) 7 then (gone, count 255 192 d)
      else if sdu ≠ 0 ∧ sdu < f.len then
        (gone, (count 255 192 d).cond (Row.StreamFilters.blockOversize r == 1) (Dev.streamBlock h))
      else
        let d := count 319 256 d
        let g := Row.StreamFilters.gate r
        let gr := c.row T.StreamGates g
        let gated := Row.StreamFilters.gateValid r == 1
        if gated && !d.gateOpen gr g f.tick then
          (gone, (count 127 64 d).cond (Row.StreamGates.closeOnInvalid gr == 1) (Dev.setRow T.GateLatched g 128))
        else
          let d := count 191 128 d
          let queue := if gated && Row.StreamGates.ipvValid gr == 1 then Row.StreamGates.ipv gr else f.ctx.queue
          if Row.StreamFilters.meterValid r = 0 then ({ keep with queue }, d)
          else
            let m := Row.StreamFilters.meter r
            let mr := c.row T.Meters m
            let (out, d) := d.meter m mr f.ctx.colour f.len
            let red := Row.Meters.valid mr == 1 && out == 2
            ({ drop := red && Row.Meters.redDrop mr == 1, colour := out, queue }, d.cond red (count 63 0))

/-- Whether a copy of an earlier frame from the same port, in the same class and for the same queue still waits for its decision (R126). -/
def Dev.copyAhead (d : Dev) (cp : Copy) : Bool :=
  d.net.copies.any fun l => l.2.any fun c => c.entry.frame != cp.entry.frame && c.entry.mirror.isNone && d.residueKey c == d.residueKey cp

/-- A frame from the action stage of pipeline pl goes to admission, behind the copies that R126 puts before it. -/
def Dev.admitOwn (pl : Nat) (cp : Copy) (d : Dev) : Dev := if d.copyAhead cp then d.pushCopies pl [cp] else d.reachAdmission cp

/-- The copy of a frame for port p (R124, R129, R236): its queue; a D_HOP queue or an internal port takes the launch target away. -/
def Dev.mkCopy (id : Nat) (f : Frame) (edits : List Edit) (q : Filtered) (target : Option Int) (own : Bool) (p : Nat) (d : Dev) : Copy × Dev :=
  let queue := internalQueue p q.queue
  let dhop := (d.asOf f.x).isDhop p queue
  let lose := target.isSome && (decide (96 ≤ p) || dhop || decide (queue < 12))
  ({ port := p, queue, own
     entry := { frame := id, edits, tc := f.ctx.tc, colour := q.colour, target := if lose then none else target,
                dhop := if dhop then some f.dhopX else none, punt := { edited := !edits.isEmpty } } },
   d.cond lose (Dev.inc (E.LaunchRefused f.pl)))

/-- A frame goes to one port (R124, R396). -/
def Dev.sendOne (id : Nat) (f : Frame) (edits : List Edit) (q : Filtered) (target : Option Int) (p : Nat) (d : Dev) : Dev :=
  if d.isTether p then (d.inc (E.VlanDrops f.pl)).settle id
  else if p = 99 ∧ 4 ≤ f.pass then (d.inc E.RecircLimit).settle id
  else
    let (cp, d) := d.mkCopy id f edits q target true p
    d.admitOwn f.pl cp

/-- A frame is replicated (R265, R266): its copies wait for admission decisions in ascending port order. -/
def Dev.sendMany (id : Nat) (f : Frame) (edits : List Edit) (q : Filtered) (target : Option Int) (ports : List Nat) (d : Dev) : Dev :=
  if ports.isEmpty then d.settle id
  else
    let d := d.modFrame id fun f => { f with mc := true, mcLeft := ports.length }
    d.each ports fun p d =>
      let (cp, d) := d.mkCopy id f edits q target false p
      d.pushCopies f.pl [cp]

/-- Replication reads the LagGroups rows of the groups that its members belong to (R180, R209). -/
def Dev.readGroups (pl members : Nat) (d : Dev) : Dev :=
  d.upto 96 fun p d =>
    let b := d.row T.PortBridge p
    d.cond (bit members p && Row.PortBridge.lagValid b == 1) (Dev.readBad pl T.LagGroups (Row.PortBridge.lag b))

/-- The destination of a frame (R178, R179, R265). -/
def Dev.dispatch (id : Nat) (f : Frame) (edits : List Edit) (q : Filtered) (target : Option Int) (d : Dev) : Dev :=
  let from' := if f.port = 100 then f.oport else f.port
  match f.ctx.dest with
  | none =>
    let members := Row.Vlans.members (d.row T.Vlans f.ctx.vid)
    let (ports, n) := d.prune members from' f.ctx.spread true true
    let d := d.readGroups f.pl members
    let d := (d.add (E.McPruned f.pl) n).cond ports.isEmpty (Dev.inc (E.McNoCopy f.pl))
    d.sendMany id f edits q target ports
  | some x =>
    let (ports, d) := d.portsOf f.pl from' f.ctx.spread x
    if destKind x = 2 then d.sendMany id f edits q target ports
    else match ports with
      | p :: _ => d.sendOne id f edits q target p
      | [] => d.settle id

/-- The launch target that takes effect (R236). -/
def Dev.launchOf (d : Dev) (f : Frame) (s : Stage) : Option Int :=
  if 12 ≤ f.ctx.queue ∧ s.arg < d.period then s.launch else none

/-- A frame that is punted goes on in the colour and, on port 97, the queue that its stream filter gave it (R307). -/
def puntFiltered (q : Filtered) (cp : Copy) : Copy :=
  { cp with queue := if cp.port = 97 then internalQueue 97 q.queue else cp.queue, entry := { cp.entry with colour := q.colour } }

/-- The program of a frame has ended: it is consumed, dropped, handed to the paddock, or filtered and sent on (R224, R235, R236, R239, R307). A
frame that proved bad before takes no decision (R591); one that goes to port 96 or 97 loses its launch target. -/
def Dev.stageOut (id : Nat) (f : Frame) (s : Stage) (d : Dev) : Dev :=
  let target := d.launchOf f s
  let d := d.cond (s.launch.isSome && target.isNone) (Dev.inc (E.LaunchRefused f.pl))
  if s.consume then (d.inc (E.SetpointFrames f.pl)).settle id
  else if s.dropped then d.settle id
  else match s.paddock with
    | some (q, reason) => d.paddockService id f.ctx.tc f.ctx.colour q reason
    | none =>
      let (q, d) := d.streamFilter f
      if q.drop || f.tail == 2 then d.settle id
      else match s.punted with
        | some cp => (d.cond target.isSome (Dev.inc (E.LaunchRefused f.pl))).admitOwn f.pl (puntFiltered q cp)
        | none => d.dispatch id f s.edits q target

/-- The frame leaves the action stage of pipeline pl. A frame whose tail has arrived before delivers its setpoints, or discards them, and
its samples now. -/
def Dev.finishStage (pl : Nat) (d : Dev) : Dev :=
  match d.stageFrame pl with
  | none => d
  | some (s, f) =>
    let d := d.cond (f.tail != 0) fun d => (d.setpointTail s.frame (f.tail == 1)).sampleReady s.frame
    let d := { d with net := { d.net with stage := d.net.stage.erase pl } }
    d.stageOut s.frame f s

/-- The frame in the action stage runs its program to the end and leaves. -/
def Dev.stageRun (pl : Nat) (d : Dev) : Dev := (d.runProgram pl 16).finishStage pl

/-- A frame enters the action stage; `hold`: it waits there for the commands that run its words, of which one lets it leave when its program
has ended or it has none. -/
def Dev.action (id pl : Nat) (hold : Bool) (d : Dev) : Dev :=
  let d := d.enterStage pl id
  if hold then d else d.stageRun pl

/-- Parse, classification, lookup and the action stage of a frame that has entered (R139 to R147, R161, R173, R219). -/
def Dev.pipeline (id : Nat) (hold : Bool) (d : Dev) : Dev :=
  match d.frame? id with
  | none => d
  | some f =>
    let d := d.stageRun f.pl
    let c := d.asOf f.x
    let p := parse (c.get E.ExtraTpid) f.bytes
    let d := d.upto 16 fun k d => d.cond (p.has k) (Dev.inc (E.ParseFlagCount k))
    let w := window f.bytes
    let (v, n) := c.classify p w f.port f.pl (c.frameKey p w f.port f.tick)
    let d := d.note f.pl n (E.ParityMisses f.pl)
    let udf1 := p.udf w (c.get (E.UdfDef (Row.PortClassify.udf1Def (c.row T.PortClassify f.port))))
    let (go, d) := Dev.lookup id c p w v udf1 d
    if go then d.action id f.pl hold else d.sampleReady id

/-! ### Ports -/

/-- Whether a frame is a Prosta frame that the device takes (R48). -/
def Dev.isProsta (d : Dev) (p : Nat) (b : Bytes) : Bool :=
  let t := beAt b 12 2
  let ty := if tagKind (d.get E.ExtraTpid) t = some 0 then beAt b 16 2 else t
  d.getB E.ProstaEnable && ty == d.get E.ProstaEtherType && (if p < 64 then bit (d.get E.ProstaPortsLow) p else bit (d.get E.ProstaPortsHigh) (p - 64))

/-- Whether a frame of an external port is beyond the rate that throttle level 2 leaves its pipeline (R558): the spec does not say which frames those
are (a free value). -/
def Dev.overRate (d : Dev) : Bool × Dev :=
  if d.get E.ThrottleLevel = 2 then
    let (v, d) := d.free 1
    (v == 1, d)
  else (false, d)

/-- FRAME_INGRESS: the head of a frame has arrived (R125). On an external port a short frame is only counted (R138), a MAC control frame is
counted and discarded (R120), a tether port takes no ordinary frame (R396), a Prosta frame is never bridged (R48), and a time
message that a role of the port takes is not forwarded (R100). -/
def Dev.ingress (port pl : Nat) (b : Bytes) (frag hold : Bool) (d : Dev) : Dev :=
  if port < 96 then
    if !d.portUp port then d
    else if b.length + 4 < 64 then d.inc (E.RxUndersize port)
    else
      let (id, d) := d.arrive port (plOf port) (d.ingressX port d.now) b frag
      let outside (d : Dev) : Dev := d.modFrame id fun f => { f with held := false }
      if beAt b 12 2 = 0x8808 then outside (d.inc (E.RxMacControl port))
      else if d.isTether port then
        outside (d.cond (beAt b 12 2 != d.get E.TetherEtherType && beAt b 12 2 != 0x88F7) (Dev.inc E.TetherBadFrames))
      else if d.isProsta port b || (d.ptpHead b).any (d.ptpTakes port) then outside d
      else
        let (fast, d) := d.overRate
        if fast then outside (d.inc E.ThermalDrops) else d.pipeline id hold
  else if port < 99 ∧ pl < 8 ∧ d.power.forwarding then
    let (id, d) := d.arrive port (if d.power.redirect then 0 else pl) d.now b false
    d.pipeline id hold
  else d

/-! ### The tail (R127, R138, R182, R186, R205, R238, R591) -/

/-- A request enters the queue of its pipeline, replacing one of the same key (R182). -/
def Dev.learnEnqueue (pl : Nat) (q : LearnReq) (d : Dev) : Dev :=
  let l := d.net.learnQ.getD pl []
  if l.any fun o => o.fid == q.fid && o.mac == q.mac then
    { d with net := { d.net with learnQ := d.net.learnQ.set pl (l.map fun o => if o.fid == q.fid && o.mac == q.mac then q else o) } }
  else if 64 ≤ l.length then d.inc (E.LearnDrops pl)
  else { d with net := { d.net with learnQ := d.net.learnQ.set pl (l ++ [q]) } }

/-- What a good frame does at its tail: learning. -/
def Dev.learnTail (f : Frame) (d : Dev) : Dev :=
  let d := match f.learn with
    | some q => d.learnEnqueue f.pl q
    | none => d
  match f.limit with
  | some q => (d.inc (E.LearnDrops f.pl)).l2Event f.pl 5 q.dest 0 q.fid q.mac
  | none => d

/-- What the receive side of port p counted up to the tail: LPI codes, and the codewords of its FEC (R120, R137, R138). -/
def Dev.rxTally (p : Nat) (t : RxTally) (d : Dev) : Dev :=
  (((d.add (E.RxLpi p) t.lpi).add (E.RxFragments p) t.fragments).add (E.FecCorrected p) t.fecCorrected).add (E.FecUncorrected p) t.fecUncorrected

/-- The receive counters of a frame at its tail (R127, R138): whether it is good. -/
def Dev.rxCount (f : Frame) (fcsOk ended : Bool) (d : Dev) : Bool × Dev :=
  let p := f.oport
  let long := decide (d.get (E.MaxFrameBytes p) + (parse (d.get E.ExtraTpid) f.bytes).tagBytes < f.len)
  let d := d.cond (f.frag && !ended) (Dev.inc (E.RxReassembled p))
  if ended then (false, if f.frag then d.inc (E.RxAssemblyErrors p) else (d.inc (E.RxPcsErrors p)).inc (E.RxFcsErrors p))
  else if long then (false, if fcsOk then d.inc (E.RxOversize p) else d.inc (E.RxJabber p))
  else if !fcsOk then (false, d.inc (E.RxFcsErrors p))
  else (true, d.macCount (E.RxFrames p) (E.RxOctets p) (E.RxUnicast p) (E.RxMulticast p) (E.RxBroadcast p) f.bytes)

/-- The frame still arriving on a port, whole or in fragments. -/
def Dev.arriving (d : Dev) (port : Nat) (frag : Bool) : Option (Nat × Frame) :=
  d.net.frames.find? fun e => e.2.oport == port && e.2.tail == 0 && e.2.frag == frag

/-- The tail of a frame arrives: it proves good or bad. `ended`: an error ended its reception. -/
def Dev.frameTail (id : Nat) (f : Frame) (fcsOk ended : Bool) (d : Dev) : Dev :=
    let d := d.noteArrived id
    let (ok, d) := d.rxCount f fcsOk ended
    let (pass, d) := match f.prp, ok with
      | some n, true => d.recCheck f.pl n (prpSeq f.bytes)
      | _, _ => (true, d)
    let good := ok && pass
    let staged := d.net.stage.any fun s => s.2.frame == id
    if good then
      let d := d.modFrame id fun f => { f with tail := 1, learn := none, limit := none }
      let d := (d.learnTail f).setpointTail id true
      let d := d.cond (!staged) (Dev.sampleReady id)
      (d.serviceTail id).settle id
    else
      let d := d.setpointTail id false
      let d := d.modFrame id fun f => { f with tail := 2, fcsBad := f.fcsBad || !fcsOk || ended || d.isCut id }
      let d := d.cond (!staged) (Dev.sampleReady id)
      (d.frameBad id).serviceTail id

/-- FRAME_TAIL_ARRIVAL: the last byte of the frame that a port receives, whole or in fragments, with what the port counted up to it. A
continuation without a start, and a fragment whose SMD or count is bad, is an assembly error (R136). -/
def Dev.tailArrival (port : Nat) (frag fcsOk ended : Bool) (t : RxTally) (d : Dev) : Dev :=
  let d := d.cond (decide (port < 96) && t != {}) (Dev.rxTally port t)
  match d.arriving port frag with
  | none => d.cond (frag && decide (port < 96)) (Dev.inc (E.RxAssemblyErrors port))
  | some (id, f) => d.frameTail id f fcsOk ended

/-! ### Copies, samples and the ways back into a pipeline -/

/-- COPY_ADMISSION: the copies that wait in pipeline pl reach admission in ascending port order (R266). -/
def Dev.copyAdmission (pl : Nat) (d : Dev) : Dev :=
  let d := d.each (d.net.copies.getD pl []) fun c d =>
    let d := { d with net := { d.net with copies := d.net.copies.set pl ((d.net.copies.getD pl []).drop 1) } }
    d.reachAdmission c
  if (d.net.copies.getD pl []).isEmpty then { d with net := { d.net with copies := d.net.copies.erase pl } } else d

/-- The metadata of a sample record (R273). -/
def sampleMeta (p : SamplePend) (truncated : Bool) : Bytes :=
  toBE 1 (0x10 + p.sampler) ++ toBE 1 (p.fcsBad.toNat * 128 + truncated.toNat * 64 + p.acq.toNat * 32 + p.pl * 4 + p.ctx.colour) ++ toBE 2 p.seq ++
    toBE 1 p.port ++ toBE 1 (p.ctx.tc * 16 + p.ctx.queue) ++ toBE 2 p.len ++ toBE 2 p.dest ++ toBE 2 (p.ctx.binding.getD 0) ++ toBE 4 p.offered ++
    toBE 12 p.time ++ toBE 4 0

/-- SAMPLER_RECORD: the record of the first complete frame of a sampler in a pipeline goes to its target, or is lost (R272 to R274). -/
def Dev.samplerRecord (pl k : Nat) (d : Dev) : Dev :=
  match d.net.samples.find? fun p => p.pl == pl && p.sampler == k && p.ready with
  | none => d
  | some p =>
    let d := { d with net := { d.net with samples := d.net.samples.filter (· != p) } }
    let r := d.row T.Samplers k
    let n := Row.Samplers.trunc r
    let m := sampleMeta p (decide (n < p.bytes.length))
    let body := p.bytes.take n
    if Row.Samplers.target r = 1 then
      match d.firmwareTake m body with
      | (true, d) => d
      | (false, d) => d.inc (E.SamplesLost k)
    else
      let ring := if Row.Samplers.ringFromSpread r = 1 then p.ctx.spread % 8 else Row.Samplers.ring r
      let rec' := m ++ body
      if d.ringRoom ring rec'.length && d.puntOk then d.puntWrite ring 1 rec'
      else (d.cond (!d.ringRoom ring rec'.length && (d.ring ring).enable) (Dev.puntNoBuf ring false)).inc (E.SamplesLost k)

/-- RECIRCULATION: the next frame that left port 99 re-enters pipeline pl (R124). -/
def Dev.recirculate (pl : Nat) (d : Dev) : Dev :=
  match d.net.recirc.find? fun id => ((d.frame? id).map (·.pl)) == some pl with
  | none => d
  | some id =>
    let d := { d with net := { d.net with recirc := d.net.recirc.filter (· != id) } }
    match d.frame? id with
    | none => d
    | some f =>
      let d := d.setFrame id { f with port := 99, oport := 99, x := d.now, ox := d.now, time := d.stamp, otime := d.stamp, tick := d.tickAt d.now,
                                      acq := d.acqNow, pass := f.pass + 1, edits := [], blocks := [], prp := none, mc := false, back := none }
      let d := (d.inc (E.RxFrames 99)).add (E.RxOctets 99) f.len
      d.pipeline id false

/-- A deep result takes the place of the on-chip miss of its key (R207, R383). Answers whether the frame goes on. -/
def Dev.deepHit (id : Nat) (h : Nat × Option Nat) (d : Dev) : Bool × Dev :=
  match d.frame? id with
  | none => (false, d)
  | some f =>
    match h.1, h.2 with
    | 0, some v =>
      let dest := fld v 79 64
      let d := d.cond (!d.staleHit (bit v 253) dest) fun d =>
        d.setFrame id { f with ctx := { f.ctx with dest := some dest, bridged := some dest, l2hit := true } }
      (!bit v 62, d)
    | 0, none => (true, d)
    | 1, some v =>
      let p := parse (d.get E.ExtraTpid) f.bytes
      d.streamResult id (v % 2 ^ 80) f p (window f.bytes)
    | 1, none => (true, d.inc (E.EmStreamMisses f.pl))
    | _, some v =>
      if bit v 79 then
        let (nh, d) := d.nextHop f.pl (fld v 78 63) f.ctx.spread
        (true, d.modFrame id fun f => { f with ctx := { f.ctx with nh } })
      else (true, d)
    | _, none => (true, d)

/-- All deep results of a frame. -/
def Dev.deepHits (id : Nat) : List (Nat × Option Nat) → Dev → Bool × Dev
  | [], d => (true, d)
  | h :: t, d =>
    let (a, d) := d.deepHit id h
    let (b, d) := d.deepHits id t
    (a && b, d)

/-- PADDOCK_REENTRY: the next frame that the paddock released re-enters pipeline pl on port 100 with a new ingress timestamp (R383, R385). -/
def Dev.reenter (pl : Nat) (d : Dev) : Dev :=
  match d.net.reentry.find? fun id => ((d.frame? id).map (·.pl)) == some pl with
  | none => d
  | some id =>
    let d := { d with net := { d.net with reentry := d.net.reentry.filter (· != id) } }
    let d := d.unhold id
    match d.frame? id with
    | none => d
    | some f =>
      if f.tail = 2 then d.settle id
      else
        let d := d.stageRun pl
        let d := d.setFrame id { f with port := 100, x := d.now, time := d.stamp, tick := d.tickAt d.now, acq := d.acqNow, back := none }
        let d := (d.inc (E.RxFrames 100)).add (E.RxOctets 100) f.len
        let setDest (x : Option Nat) (q : Option Nat) (d : Dev) : Dev :=
          let d := d.modFrame id fun f => { f with ctx := { f.ctx with dest := x, queue := q.getD f.ctx.queue } }
          (d.setStage pl { frame := id, base := 0, len := 0, arg := 0, ended := true }).finishStage pl
        match f.back.bind (·.verdict) with
        | some v =>
          if v.verdict = 1 then setDest (some v.dest) v.queue d
          else if v.verdict = 3 then setDest f.ctx.bridged v.queue d
          else
            let d := d.modFrame id fun f => { f with ctx := { f.ctx with binding := some v.binding } }
            d.action id pl false
        | none =>
          let (go, d) := d.deepHits id ((f.back.map (·.hits)).getD [])
          if go then d.action id pl false else d.settle id

/-! ### The commands -/

/-- FRAME_INGRESS (R125). -/
def execFrameIngress (x port pl : Nat) (frame : Bytes) (fragmented hold : Bool) (s : State) : Host.Outcome State Fault Refusal :=
  s.live x (Dev.ingress port pl frame fragmented hold)
/-- FRAME_TAIL_ARRIVAL (R591). -/
def execFrameTailArrival (x port : Nat) (fragmented fcsOk : Bool) (last : RxTail) (s : State) : Host.Outcome State Fault Refusal :=
  s.live x (Dev.tailArrival port fragmented fcsOk last.ended last.counted)
/-- COPY_ADMISSION (R266). -/
def execCopyAdmission (x pl : Nat) (s : State) : Host.Outcome State Fault Refusal := s.live x (Dev.copyAdmission pl)
/-- SAMPLER_RECORD (R272). -/
def execSamplerRecord (x pl sampler : Nat) (s : State) : Host.Outcome State Fault Refusal := s.live x (Dev.samplerRecord pl sampler)
/-- RECIRCULATION (R124). -/
def execRecirculation (x pl : Nat) (s : State) : Host.Outcome State Fault Refusal := s.live x (Dev.recirculate pl)
/-- PADDOCK_REENTRY (R383). -/
def execPaddockReentry (x pl : Nat) (s : State) : Host.Outcome State Fault Refusal := s.live x (Dev.reenter pl)

end Sys2Proof.Machine
end

