-- ==== Sys2Proof/Machine/Samples.lean ====
section
/-!
DEFINITION. Sample groups and templates (R240 to R242, R366).
-/
namespace Sys2Proof.Machine

/-- The fills of template t that write something. -/
def Dev.fills (d : Dev) (t : Nat) : List Nat :=
  ((List.range 32).map fun i => d.row T.TemplateFills (32 * t + i)).filter fun r => Row.TemplateFills.kind r != 0

/-- Bytes a fill kind writes (R241). -/
def fillLen (kind : Nat) : Nat :=
  match kind with
  | 1 | 2 => 4
  | 3 => 2
  | 4 => 1
  | 5 => 8
  | 6 | 7 => 12
  | _ => 0

/-- Whether the sample word of a port was received without error in the tick in progress (R357). -/
def Dev.sampleGood (d : Dev) (pp w : Nat) : Bool :=
  d.ppActive pp && decide (w < Row.PpConfig.wordsIn (d.ppRow pp)) && d.yard.good.get? pp == some d.time.tick

/-- The value of a fill (R241); cnt is the frame count of its group. -/
def Dev.fillValue (d : Dev) (cnt row : Nat) : Bytes :=
  let a := Row.TemplateFills.arg row
  let pp := fld a 19 17
  let w := fld a 16 11
  let ns := d.time.boundT
  match Row.TemplateFills.kind row with
  | 1 => if d.yard.got.get? pp == some d.time.tick then fitBytes 4 (slice (d.dom (E.PpSamples pp)) (4 + 4 * w) 4) else toBE 4 0
  | 2 => toBE 4 (!d.sampleGood pp w).toNat
  | 3 =>
    let wrap := if fld a 15 0 = 0 then 65536 else fld a 15 0
    toBE 2 (if bit a 19 then ns % 1000000000 * wrap / 1000000000 else cnt % wrap)
  | 4 =>
    let sel := d.get E.OutputDomain
    toBE 1 (if d.getB (E.Locked sel) then 2 else if d.get (E.DomainState sel) = 2 then 1 else 0)
  | 5 => toBE 8 d.time.tick
  | 6 => toBE 12 (toTimex (ns * 65536))
  | 7 => toBE 12 (d.line (fld a 5 0)).capTime
  | _ => []

/-- The frame of template t (R242). -/
def Dev.buildFrame (d : Dev) (t cnt : Nat) : Bytes :=
  (d.fills t).foldl (fun b r => patch b (Row.TemplateFills.offset r) (d.fillValue cnt r)) (d.dom (E.TemplateImage t))

/-- The time after its boundary in ns at which group row g's build starts, where the ports for which `runs` holds run a transfer under the
PpConfig rows given (R366). -/
def Dev.buildStart (d : Dev) (g : Nat) (runs : Nat → Bool) (row : Nat → Nat) : Nat :=
  (d.fills (Row.SampleGroups.template g)).foldl (fun m r =>
    let pp := fld (Row.TemplateFills.arg r) 19 17
    if (Row.TemplateFills.kind r = 1 ∨ Row.TemplateFills.kind r = 2) ∧ runs pp then max m (ppTransferNs (row pp)) else m)
    (Row.SampleGroups.buildNs g)

/-- Whether port pp runs or ran a transfer of the tick in progress: not where a shared port is not owned (R358). -/
def Dev.ppRan (d : Dev) (pp : Nat) : Bool := d.yard.busy.get? pp == some d.time.tick || d.yard.got.get? pp == some d.time.tick

/-- Whether valid sample group g builds a frame in the tick in progress and has not done so yet (R366). -/
def Dev.buildOpen (d : Dev) (g : Nat) : Bool :=
  let r := d.row T.SampleGroups g
  Row.SampleGroups.valid r == 1 && decide (((d.time.tick : Int) - Row.SampleGroups.phaseTicks r) % (max 1 (Row.SampleGroups.periodTicks r) : Nat) = 0) &&
    d.yard.built.get? g != some d.time.tick

/-- SAMPLE_GROUP_BUILD (R366): the group builds its frame once in a tick of its phase and offers it on port 98. -/
def Dev.groupBuild (g : Nat) (d : Dev) : Dev :=
  let r := d.row T.SampleGroups g
  let n := d.time.tick
  if decide (16 ≤ g) || !d.time.tickRun || !d.buildOpen g || decide (d.outNs < d.time.boundT + d.buildStart r d.ppRan d.ppRow) then d
  else
    let d := d.modYard fun y => { y with built := y.built.set g n }
    let t := Row.SampleGroups.template r
    if (d.dom (E.TemplateImage t)).isEmpty then d.addRow T.SampleGroupCounters g 63 32 1
    else
      let cnt := d.yard.groupN.getD g 0
      let b := d.buildFrame t cnt
      let d := (d.modYard fun y => { y with groupN := y.groupN.set g (cnt + 1) }).addRow T.SampleGroupCounters g 127 64 1
      d.ingress 98 (Row.SampleGroups.pipe r) b false false

/-- SAMPLE_GROUP_BUILD (R366). -/
def execSampleGroupBuild (x g : Nat) (s : State) : Host.Outcome State Fault Refusal := s.live x (Dev.groupBuild g)

end Sys2Proof.Machine
end

