-- ==== Sys2Proof/Machine/Learn.lean ====
section
/-!
DEFINITION. Learning, moves, ageing, scrub and repair of the on-chip tables (R183 to R190, R207 to R210, R494).
-/
namespace Sys2Proof.Machine

/-! ### Learning (R183 to R185) -/

/-- Take one deep insert of this second of raw time out of LearnDeepRate (R183). The count is kept with its second. -/
def Dev.deepRateTake (pl : Nat) (d : Dev) : Bool × Dev :=
  let sec := rawOf d.now / 1000000000
  let v := d.net.deepRate.getD pl 0
  let n := if v / 2 ^ 32 = sec then v % 2 ^ 32 else 0
  if n < d.get E.LearnDeepRate then (true, { d with net := { d.net with deepRate := d.net.deepRate.set pl (sec * 2 ^ 32 + n + 1) } })
  else (false, d)

/-- A key that the table does not hold is installed, goes deep, or finds the table full (R183). -/
def Dev.learnInstall (pl : Nat) (q : LearnReq) (d : Dev) : Dev :=
  let free (i : Nat) : Bool := Row.L2Rows.valid (d.row (T.L2Rows pl) i) == 0 && !d.isBad (T.L2Rows pl) i
  match (l2Cands q.fid q.mac).find? free with
  | some i =>
    let d := (d.l2Put pl i (l2Row false false false q.fid q.mac q.dest)).inc (E.L2Learns pl)
    ((d.noteChange pl q.fid q.mac).l2Event pl 1 q.dest 0 q.fid q.mac).mirrorL2 pl 1 q.fid q.mac q.dest
  | none =>
    if d.getB E.L2DeepSearch then
      match d.deepRateTake pl with
      | (true, d) => d.paddockLearn pl q
      | (false, d) => d.inc (E.LearnDrops pl)
    else (d.inc (E.LearnDrops pl)).l2Event pl 6 q.dest 0 q.fid q.mac

/-- A request for a key held by row i with another destination (R184, R185). -/
def Dev.moveJudge (pl i : Nat) (q : LearnReq) (d : Dev) : Dev :=
  let r := d.row (T.L2Rows pl) i
  let old := l2Dest r
  if Row.L2Rows.static r = 1 then (d.inc (E.StaticConflicts pl)).l2Event pl 8 q.dest old q.fid q.mac
  else if !d.destDown old && d.heldOff pl q.fid q.mac then (d.inc (E.L2Flaps pl)).l2Event pl 3 q.dest old q.fid q.mac
  else
    let d := (d.l2Put pl i (setBit (setFld r 15 0 q.dest) 85 true)).inc (E.L2Moves pl)
    ((d.noteChange pl q.fid q.mac).l2Event pl 2 q.dest old q.fid q.mac).mirrorL2 pl 2 q.fid q.mac q.dest

/-- A request is applied to the table as it now stands: a learn of a key that has come meanwhile refreshes or is judged as a move. -/
def Dev.learnApply (pl : Nat) (q : LearnReq) (d : Dev) : Dev :=
  match d.l2Search pl q.fid q.mac with
  | (some i, _) =>
    let r := d.row (T.L2Rows pl) i
    if l2Dest r = q.dest then d.setRow (T.L2Rows pl) i (setBit r 85 true) else d.moveJudge pl i q
  | (none, _) => d.learnInstall pl q

/-- Take the head of pipeline pl's queue where it is a move (or not). -/
def Dev.learnHead (pl : Nat) (move : Bool) (d : Dev) : Dev :=
  match d.net.learnQ.getD pl [] with
  | q :: rest =>
    if q.old.isSome == move then ({ d with net := { d.net with learnQ := d.net.learnQ.set pl rest } }).learnApply pl q else d
  | [] => d

/-! ### Ageing (R187, R208) -/

/-- Whether row i of pipeline pl is due for its visit: one comes in each L2AgeTime (R187). -/
def Dev.ageDue (d : Dev) (pl i : Nat) : Bool :=
  match d.net.aged.get? (pl * 2 ^ 27 + i) with
  | some x => decide (x + 8000000000 * d.get E.L2AgeTime ≤ d.now)
  | none => true

/-- What a visit to row i of pipeline pl does; rows from 262,144 on name the entries of the deep table. -/
def Dev.ageRow (pl i : Nat) (d : Dev) : Dev :=
  if 262144 ≤ i then d.deepAge (i - 262144)
  else
    let r := d.row (T.L2Rows pl) i
    if Row.L2Rows.valid r = 0 ∨ Row.L2Rows.static r = 1 ∨ d.isBad (T.L2Rows pl) i then d
    else if Row.L2Rows.hit r = 1 then d.setRow (T.L2Rows pl) i (setBit r 85 false)
    else ((d.l2Put pl i 0).inc (E.L2AgedOut pl)).l2Event pl 4 0 (l2Dest r) (Row.L2Rows.fid r) (Row.L2Rows.mac r)

/-- AGEING_VISIT (R187, R188): a visit before the row's next is due does nothing. -/
def Dev.ageVisit (pl i : Nat) (d : Dev) : Dev :=
  if !d.getB E.L2AgeEnable || !d.ageDue pl i then d
  else ({ d with net := { d.net with aged := d.net.aged.set (pl * 2 ^ 27 + i) d.now } }).ageRow pl i

/-! ### Scrub and repair (R210, R494) -/

/-- A pass of the scrub ends when the row it began with is read again. -/
def Dev.scrubPass (pl key : Nat) (d : Dev) : Dev :=
  match d.net.scrub.get? pl with
  | some (k, x) =>
    if k = key then
      { d with net := { d.net with scrub := d.net.scrub.set pl (key, d.now) } }.store (E.ScrubPassMs pl) ((d.now - x) / 8000000)
    else d
  | none => { d with net := { d.net with scrub := d.net.scrub.set pl (key, d.now) } }

/-- Row i of TABLE t as pipeline pl keeps its parity: of LpmRoutes, the copy of its pair (R192). -/
def parityRow (pl t i : Nat) : Nat := if t = T.LpmRoutes then lpmCopy (pl / 2) i else i

/-- A scrub read of a row: one with bad parity waits for repair. -/
def Dev.scrubRead (pl t i : Nat) (bad : Bool) (d : Dev) : Dev :=
  let d := d.scrubPass pl (t * 2 ^ 20 + i)
  let i := parityRow pl t i
  let d := d.cond (bad && !d.isBad t i) fun d => { d with net := { d.net with bad := (t, i) :: d.net.bad } }
  d.cond (d.isBad t i) (Dev.foundBadBy pl 0x39 0 t i)

/-- A repair: a learned L2 row is invalidated, any other is rewritten from its shadow. -/
def Dev.repair (pl : Nat) (d : Dev) : Dev :=
  match d.net.repair.getD pl [] with
  | (t, i) :: rest =>
    let took : Dev := { d with net := { d.net with repair := d.net.repair.set pl rest } }
    match l2Pl t, d.learnedRow t i with
    | some p, true => took.l2Put p i 0
    | _, _ => if d.hbmUp then { took with net := { took.net with bad := took.net.bad.filter (· != (t, i)) } } else d
  | [] => d

/-! ### The commands -/

/-- LEARN_APPLY (R183). -/
def execLearnApply (x pl : Nat) (s : State) : Host.Outcome State Fault Refusal := s.live x (Dev.learnHead pl false)
/-- MOVE_APPLY (R184). -/
def execMoveApply (x pl : Nat) (s : State) : Host.Outcome State Fault Refusal := s.live x (Dev.learnHead pl true)
/-- AGEING_VISIT (R187). -/
def execAgeingVisit (x pl row : Nat) (s : State) : Host.Outcome State Fault Refusal := s.live x (Dev.ageVisit pl row)
/-- SCRUB_READ (R494). -/
def execScrubRead (x pl table row : Nat) (bad : Bool) (s : State) : Host.Outcome State Fault Refusal := s.live x (Dev.scrubRead pl table row bad)
/-- SHADOW_REPAIR (R210). -/
def execShadowRepair (x pl : Nat) (s : State) : Host.Outcome State Fault Refusal := s.live x (Dev.repair pl)

end Sys2Proof.Machine
end

