-- ==== Sys2Proof/Machine/Updates.lean ====
section
/-!
DEFINITION. Software table writes through update slots (R165, R189, R199, R211 to R213): the queue, what each slot applies, and the table
state that the queue will leave.
-/
namespace Sys2Proof.Machine

/-! ### Writing rows -/

/-- Write a row of TABLE t; a rewritten row has good parity (R167, R210). -/
def Dev.rewrite (t i v : Nat) (d : Dev) : Dev :=
  let d := d.setRow t i v
  { d with net := { d.net with bad := d.net.bad.filter fun e => e.1 != t || e.2 % 2 ^ 20 != i } }

/-- The memories' rows behind row i of TABLE t; of a TABLE of all pipelines or pairs, PL0's or pair 0's first (R172). -/
def rowsOf (t i : Nat) : List (Nat × Nat) :=
  if t = T.AssocRowsAll then (List.range 8).map fun pl => (T.AssocRows, pl * 8192 + i)
  else if t = T.TreeNodesAll then (List.range 4).map fun k => (T.TreeNodes k, i)
  else if t = T.TreeListsAll then (List.range 4).map fun k => (T.TreeLists k, i)
  else if t = T.TreeRulesAll then (List.range 4).map fun k => (T.TreeRules k, i)
  else if t = T.TreeSetsAll then (List.range 4).map fun k => (T.TreeSets, k * 16 + i)
  else [(t, i)]

/-- The pipelines whose update slots write a row of a memory (R165, R211): one, the two of a pair, or all; none for the configuration port. -/
def memPls (e : Nat × Nat) : List Nat :=
  let pair (k : Nat) : List Nat := [2 * k, 2 * k + 1]
  if e.1 = T.AssocRows then [e.2 / 8192]
  else if T.TreeNodes 0 ≤ e.1 ∧ e.1 < T.TreeNodesAll then pair (e.1 - T.TreeNodes 0)
  else if T.TreeLists 0 ≤ e.1 ∧ e.1 < T.TreeListsAll then pair (e.1 - T.TreeLists 0)
  else if T.TreeRules 0 ≤ e.1 ∧ e.1 < T.TreeRulesAll then pair (e.1 - T.TreeRules 0)
  else if e.1 = T.TreeSets then pair (e.2 / 16)
  else if e.1 = T.LpmRoutes then List.range 8
  else []

/-- The slots that a write of row i of TABLE t takes in each pipeline. -/
def rowSlots (t i : Nat) : List (Nat × Nat) :=
  ((rowsOf t i).flatMap memPls).map fun pl => (pl, if t = T.LpmRoutes then 8 else 1)

/-! ### L2 and exact match -/

/-- L2Delete in pipeline pl. -/
def Dev.l2Remove (pl fid mac : Nat) (d : Dev) : Dev :=
  match d.l2At pl fid mac with
  | some i => d.l2Put pl i 0
  | none => d

/-- L2Insert in pipeline pl: the row is installed with HIT 1 (R189). -/
def Dev.l2Install (pl v : Nat) (d : Dev) : Dev :=
  match d.l2Place pl (Row.L2Rows.fid v) (Row.L2Rows.mac v) with
  | some i => d.l2Put pl i (setBit v 85 true)
  | none => d

/-- Whether a flush removes a row: learned, and of the PORT, of the FID, or any (R189, R215). -/
def flushes (mode port fid r : Nat) : Bool :=
  Row.L2Rows.valid r == 1 && Row.L2Rows.static r == 0 &&
    (match mode with
      | 0 => l2Dest r == port
      | 1 => Row.L2Rows.fid r == fid
      | _ => true)

/-- A flush visits rows a to b - 1 of pipeline pl. -/
def Dev.flushSpan (pl mode port fid a b : Nat) (d : Dev) : Dev :=
  d.each (d.l2Learned pl) fun (e : Nat × Nat) d =>
    d.cond (decide (a ≤ e.1) && decide (e.1 < b) && flushes mode port fid (d.row (T.L2Rows pl) e.1)) (Dev.l2Put pl e.1 0)

/-- The writes that perform a chain of moves (R199): each entry is written to its new row, then the old one is cleared. -/
def chainWrites : List Nat → List EmStep
  | j :: i :: l => .copy i j :: .put i 0 :: chainWrites (i :: l)
  | _ => []

/-- The writes of EmInsert of a row (R199); none where no chain of at most EmMaxMoves frees a candidate. -/
def Dev.emPlan (d : Dev) (v : Nat) : Option (List EmStep) :=
  let c := emCands (Row.EmRows.key v)
  match c.find? fun i => Row.EmRows.valid (d.row (T.EmRows 0) i) == 0 with
  | some i => some [.put i v]
  | none => match d.emChain (d.get E.EmMaxMoves) (c.map fun i => [i]) c with
    | some ch => some (chainWrites ch ++ [.put (ch.getLastD 0) v])
    | none => none

/-- EmEntries counts the valid rows of one copy. -/
def Dev.emCount (k : Nat) (d : Dev) : Dev :=
  let base := T.EmRows k * 2 ^ 20
  d.put E.EmEntries ((d.dict.rows.between base (base + 262144)).filter fun e => Row.EmRows.valid e.2 == 1).length

/-- One write of the copy of pair k. -/
def Dev.emStep (k : Nat) (e : EmStep) (d : Dev) : Dev :=
  match e with
  | .put i v => d.rewrite (T.EmRows k) i v
  | .copy src i => d.rewrite (T.EmRows k) i (d.row (T.EmRows k) src)

/-! ### The queue -/

/-- The slots that pipeline pl still owes an update. -/
def Update.owes (u : Update) (pl : Nat) : Nat := ((u.left.find? fun (e : Nat × Nat) => e.1 == pl).map (·.2)).getD 0

/-- The slots that pair k still owes an update: it is served when both its pipelines have used theirs (R165). -/
def Update.pairOwes (u : Update) (k : Nat) : Nat := max (u.owes (2 * k)) (u.owes (2 * k + 1))

/-- An update after the pipelines that p marks have used `n` more slots each. -/
def Update.used (u : Update) (p : Nat → Bool) (n : Nat) : Update :=
  { u with left := (u.left.map fun e => if p e.1 then (e.1, e.2 - n) else e).filter fun e => e.2 != 0 }

/-- The effect of the slots that an update owes no more in u': a row of a memory is written with the last slot that it takes, a copy of the
exact-match table step by step. -/
def Dev.updateApply (u u' : Update) (d : Dev) : Dev :=
  let ends (pl : Nat) : Bool := u.owes pl != 0 && u'.owes pl == 0
  match u.op with
  | .row t i v =>
    d.each ((rowsOf t i).filter fun e => (memPls e).any ends && (memPls e).all fun pl => u'.owes pl == 0) fun (e : Nat × Nat) d => d.rewrite e.1 e.2 v
  | .em l => d.each (List.range 4) fun k d =>
      let n := u'.pairOwes k
      let steps := (l.drop (l.length - u.pairOwes k)).take (u.pairOwes k - n)
      (d.each steps fun e d => d.emStep k e).cond (!steps.isEmpty && n == 0) (Dev.emCount k)
  | .l2Insert v => d.each (u.left.filter fun e => ends e.1) fun (e : Nat × Nat) d => d.l2Install e.1 v
  | .l2Delete fid mac => d.each (u.left.filter fun e => ends e.1) fun (e : Nat × Nat) d => d.l2Remove e.1 fid mac
  | .flush mode port fid => d.each u.left fun (e : Nat × Nat) d => d.flushSpan e.1 mode port fid (262144 - e.2) (262144 - u'.owes e.1)
  | .staged => d

/-- Whether the queue still holds a flush. -/
def Dev.flushing (d : Dev) : Bool := d.net.updates.any fun u => match u.op with
  | .flush _ _ _ => true
  | _ => false

/-- An update has used its last slot: its response returns once no update of the same record is left, and a flush ends. -/
def Dev.updateDone (u : Update) (d : Dev) : Dev :=
  let d := if d.flushing then d else if d.getB E.L2FlushBusy then d.putB E.L2FlushBusy false else d
  if u.ticket.isSome && d.net.updates.any (fun w => w.ticket == u.ticket) then d else d.ticketDone u.ticket Status.ok 0 []

/-- The pipelines that p marks use `n` more slots each for update number i of the queue. -/
def Dev.updateServe (i : Nat) (p : Nat → Bool) (n : Nat) (d : Dev) : Dev :=
  match d.net.updates[i]? with
  | none => d
  | some u =>
    let u' := u.used p n
    let q := d.net.updates
    let d := d.updateApply u u'
    if u'.left.isEmpty then ({ d with net := { d.net with updates := q.take i ++ q.drop (i + 1) } }).updateDone u
    else { d with net := { d.net with updates := q.take i ++ u' :: q.drop (i + 1) } }

/-- TABLE_UPDATE_APPLY: an update slot of pipeline pl serves the oldest write that waits for it (R213). -/
def Dev.updateSlot (pl : Nat) (d : Dev) : Dev :=
  match d.net.updates.findIdx? fun u => u.owes pl != 0 with
  | some i => d.updateServe i (· == pl) 1
  | none => d

/-- Everything an update has still to do. -/
def Dev.updateWhole (u : Update) (d : Dev) : Dev := d.updateApply u { u with left := [] }

/-- The tables as the queue will leave them; further writes are judged against this (R589). -/
def Dev.drained (d : Dev) : Dev := d.each d.net.updates Dev.updateWhole

/-- The pipelines that p marks serve m updates from number i of the queue on to their ends, in order of arrival. -/
def Dev.serveUpTo (p : Nat → Bool) : Nat → Nat → Dev → Dev
  | 0, _, d => d
  | m + 1, i, d =>
    let t := d.updateServe i p 262144
    t.serveUpTo p m (if t.net.updates.length < d.net.updates.length then i else i + 1)

/-- L2_FLUSH_COMPLETE: the flush in the queue has visited its last row, and what waited before it in its pipelines has been written (R189, R213). -/
def Dev.flushDone (d : Dev) : Dev :=
  let isFlush (u : Update) : Bool := match u.op with
    | .flush _ _ _ => true
    | _ => false
  match d.net.updates.findIdx? isFlush with
  | some n => d.serveUpTo (fun pl => (d.net.updates.drop n).head?.any fun u => u.owes pl != 0) (n + 1) 0
  | none => d

/-- Queue an update; one that needs no slot is done at once. -/
def Dev.updateQueue (u : Update) (d : Dev) : Dev :=
  if u.left.isEmpty then d.updateDone u else { d with net := { d.net with updates := d.net.updates ++ [u] } }

/-- TABLE_UPDATE_APPLY (R165). -/
def execTableUpdateApply (x pl : Nat) (s : State) : Host.Outcome State Fault Refusal := s.live x (Dev.updateSlot pl)
/-- L2_FLUSH_COMPLETE (R189). -/
def execL2FlushComplete (x : Nat) (s : State) : Host.Outcome State Fault Refusal := s.live x Dev.flushDone

end Sys2Proof.Machine
end

