-- ==== Sys2Proof/Machine/Checks.lean ====
section
/-!
DEFINITION. The checks of R36 steps 6 and 7 on what a write would store, and the views they are made against (R325, R589). A `Put` is one
value that a record writes.
-/
namespace Sys2Proof.Machine

/-! ### Values and views -/

/-- One value that a record writes: a scalar entry, a TABLE row, or a STR or DOMAIN. -/
inductive Put where
  /-- A scalar entry by key. -/
  | scal (k v : Nat)
  /-- Row i of TABLE t. -/
  | row (t i v : Nat)
  /-- A STR or DOMAIN by key. -/
  | dom (k : Nat) (b : Bytes)
  deriving DecidableEq, Repr

/-- The dictionary with staged values laid over it. -/
def Dev.over (st : Staged) (d : Dev) : Dev := { d with dict := d.dict.overlay st }

/-- The staged view (R325): active values, every pending batch in rising order of tick, the open stage. -/
def Dev.staged (d : Dev) : Dev := ((d.each d.commit.batches fun b d => d.over b.st)).over d.commit.stage

/-- The values most recently written (R589): table writes that wait for slots, entries that wait for the boundary, staged values. -/
def Dev.latest (d : Dev) : Dev :=
  let v := (d.drained).over d.yard.pend
  (v.each d.yard.pendDoms fun (e : Nat × Bytes) v => v.setDom e.1 e.2).staged

/-- What a row of TABLE t stores of a written value: the device's own fields are left out (R220, R556). -/
def rowNorm (t v : Nat) : Nat :=
  if t = T.Bindings then setFld v 108 103 0 else if t = T.TimeAlarms then setFld v 125 125 0 else v

/-- A view after a Put. -/
def Dev.putView (p : Put) (v : Dev) : Dev :=
  match p with
  | .scal k x => v.store k x
  | .row t i x => v.each (rowsOf t i) fun (e : Nat × Nat) v => v.setRow e.1 e.2 (rowNorm t x)
  | .dom k b => v.setDom k b

/-! ### Action programs (R223 to R226) -/

/-- Cost and per-program limit (0 none) of an opcode (R225). -/
def opSpec (op : Nat) : Option (Nat × Nat) :=
  match op with
  | 0x00 | 0x01 | 0x03 | 0x04 | 0x09 | 0x0A | 0x0B | 0x0D => some (1, 0)
  | 0x02 | 0x08 => some (2, 0)
  | 0x05 | 0x18 => some (1, 2)
  | 0x0C | 0x11 | 0x13 | 0x15 | 0x19 => some (1, 1)
  | 0x10 | 0x12 | 0x14 | 0x1A => some (3, 1)
  | 0x1C | 0x1D => some (4, 1)
  | _ => none

/-- The operand bits an opcode has (R226); all others are reserved. -/
def opBits (op : Nat) : Nat :=
  match op with
  | 0x01 => 0x3FFC000
  | 0x02 => 0x300FFFF
  | 0x04 => 0x3FEFFFF
  | 0x05 => 0x000FFFF
  | 0x08 => 0x3FE0FFF
  | 0x09 => 0x3000000
  | 0x0A => 0x3FF0FFF
  | 0x0B => 0x3C0FFFF
  | 0x0C => 0x300FFFF
  | 0x0D => 0x200003F
  | 0x10 => 0x0000FFF
  | 0x12 => 0x00F0FFF
  | 0x14 => 0x0030FFF
  | 0x18 | 0x19 => 0x000000F
  | 0x1A => 0x3F8FFFF
  | 0x1C => 0x3FFF000
  | 0x1D => 0x3FF80FF
  | _ => 0

/-- The operand values that R226 refuses. -/
def opRefused (op w : Nat) : Bool :=
  match op with
  | 0x01 => fld w 20 19 == 3
  | 0x02 => fld w 25 24 == 2 && destRefused (fld w 15 0)
  | 0x04 => decide (9 < fld w 24 21) || fld w 20 17 == 0
  | 0x09 => fld w 25 24 == 0
  | 0x0B => fld w 25 24 == 3 || fld w 23 22 == 3
  | 0x0C => fld w 25 24 == 3
  | 0x14 => fld w 17 16 == 3
  | 0x1A => fld w 25 24 == 3 || (fld w 25 24 == 2 && bit w 23)
  | 0x1C => decide (2 ≤ fld w 25 24)
  | 0x1D => fld w 7 0 == 0
  | _ => false

/-- Whether a word may stand in a program (R223 case 2). -/
def wordOk (w : Nat) : Bool :=
  let op := fld w 31 26
  (opSpec op).isSome && (w % 2 ^ 26 &&& (2 ^ 26 - 1 - opBits op)) == 0 && !opRefused op w

/-- The words of a binding's program. -/
def Dev.program (v : Dev) (b : Nat) : List Nat :=
  (List.range (Row.Bindings.len b + 1)).map fun i => v.row T.ProgramStore (Row.Bindings.progBase b + i)

/-- The cycle cost of a program (R223). -/
def Dev.programCost (v : Dev) (b : Nat) : Nat :=
  ((v.program b).map fun w => ((opSpec (fld w 31 26)).map (·.1)).getD 0).sum

/-- Whether a Bindings row may stand (R223): a row with VALID 0 names no program. -/
def Dev.bindingOk (v : Dev) (b : Nat) : Bool :=
  let p := v.program b
  Row.Bindings.valid b == 0 || (decide (Row.Bindings.progBase b + Row.Bindings.len b + 1 ≤ 16384) && p.all wordOk &&
    decide (v.programCost b ≤ 48) &&
    p.all fun w => match opSpec (fld w 31 26) with
      | some (_, lim) => lim == 0 || decide ((p.filter fun x => fld x 31 26 == fld w 31 26).length ≤ lim)
      | none => false)

/-- Bindings rows among staged or stored rows, each with its number. -/
def bindingRows (m : FMap Nat) : List (Nat × Nat) :=
  (m.between (T.Bindings * 2 ^ 20) ((T.Bindings + 1) * 2 ^ 20)).map fun e => (e.1 % 2 ^ 20, e.2)

/-- The Bindings rows that the write behind view v would leave valid or not, by row: the active ones, those of pending batches, and those of v,
which stands for the open stage (R223). -/
def Dev.allBindings (d v : Dev) : List (Nat × Nat) :=
  (bindingRows d.dict.rows ++ d.commit.batches.flatMap fun b => bindingRows b.st.rows) ++ bindingRows v.dict.rows

/-- Whether a program covers a word of the store. -/
def bindingCovers (b i : Nat) : Bool :=
  Row.Bindings.valid b == 1 && decide (Row.Bindings.progBase b ≤ i) && decide (i ≤ Row.Bindings.progBase b + Row.Bindings.len b)

/-! ### Values on their own (R36 step 6) -/

/-- Whether a result word is acceptable (R160). -/
def resultOk (r : Nat) : Bool := fld r 54 53 != 3 && fld r 7 0 == 0

/-- Whether the two-bucket parameters of an enabled shaper or meter row are acceptable (R303, R320). -/
def bucketsOk (on : Bool) (r : Nat) : Bool :=
  !on || (decide (Row.QueueShapers.cir r ≤ Row.QueueShapers.pir r) && decide (Row.QueueShapers.pir r ≤ 400000000) &&
    Row.QueueShapers.cbs r != 0 && Row.QueueShapers.pbs r != 0)

/-- Whether a node word is acceptable (R152). -/
def nodeOk (r : Nat) : Bool :=
  match fld r 63 62 with
  | 0 => r % 2 ^ 62 == 0
  | 1 =>
    let w := fld r 53 51 + 1
    fld r 32 0 == 0 && decide (fld r 61 54 + w ≤ 192) && decide (fld r 50 33 + 2 ^ w ≤ 262144)
  | 2 => fld r 42 0 == 0
  | _ => false

/-- Whether an LpmRoutes row at row number i is acceptable on its own (R193). -/
def lpmOk (i r : Nat) : Bool :=
  let v6 := Row.LpmRoutes.family r == 1
  let len := Row.LpmRoutes.len r
  decide (len ≤ if v6 then 64 else 32) && (Row.LpmRoutes.prefixF r) % 2 ^ (128 - len) == 0 && (!v6 || i % 4 == 0)

/-- Whether a SetpointLimits row is acceptable (R364). -/
def limitsOk (r : Nat) : Bool :=
  let k := Row.SetpointLimits.kind r
  let lo := wordVal k (Row.SetpointLimits.min r)
  let hi := wordVal k (Row.SetpointLimits.max r)
  let safe := wordVal k (Row.SetpointLimits.safe r)
  k != 3 && Row.SetpointLimits.source r != 3 &&
    (k == 2 || (decide (lo ≤ hi) && decide (lo ≤ safe) && decide (safe ≤ hi) && decide (0 < wordVal k (Row.SetpointLimits.slew r))))

/-- Whether a FaultReactions row of a source is acceptable (R526). -/
def reactionsOk (src r : Nat) : Bool :=
  match classOf src with
  | none => false
  | some cls =>
    (Row.FaultReactions.portShut r == 0 || src == Src.portCalFailed || src == Src.pdelayLost) &&
    (match Row.FaultReactions.reset r with
      | 0 | 1 | 3 => true
      | 2 => src == Src.tickCoreMismatch || src == Src.tickCoreWatchdog || src == Src.tickMemoryUncorrected || src == Src.loopOverrun
      | 4 => cls == 2
      | _ => false) &&
    (src != Src.controlStateUncorrected || (Row.FaultReactions.faultN r == 1 && Row.FaultReactions.yardSafe r == 1))

/-- Whether an event filter is acceptable (R516). -/
def filterOk (r : Nat) : Bool :=
  (Row.EventFilters.kindMask r &&& 0xFE01) == 0 && decide (Row.EventFilters.indexLo r ≤ Row.EventFilters.indexHi r) &&
    decide (Row.EventFilters.rowLo r ≤ Row.EventFilters.rowHi r)

/-- The buffers of pool k (R496). -/
def poolSize (k : Nat) : Nat := [1048576, 262144, 65536, 8192].getD k 0

/-- Whether a TemplateFills row's ARG holds only what its kind gives it (R241). -/
def fillOk (r : Nat) : Bool :=
  let arg := Row.TemplateFills.arg r
  match Row.TemplateFills.kind r with
  | 1 | 2 => fld arg 10 0 == 0
  | 3 => fld arg 18 16 == 0
  | 7 => decide (arg ≤ 55)
  | _ => arg == 0

/-- The tests of a row on its own that its field ranges and reserved bits do not say. -/
def rowOwn (t i r : Nat) : Bool :=
  if t = T.ProstaRoutes then
    Row.ProstaRoutes.tagged r == 0 || (Row.ProstaRoutes.vid r != 0 && Row.ProstaRoutes.vid r != 4095)
  else if t = T.PortClassify then resultOk (Row.PortClassify.defaultResult r)
  else if t = T.SearchProfiles then decide (Row.SearchProfiles.pfByte r ≤ 79) || Row.SearchProfiles.pfByte r == 127
  else if t = T.AssocRows ∨ t = T.AssocRowsAll then resultOk (Row.AssocRows.result r)
  else if T.TreeNodes 0 ≤ t ∧ t ≤ T.TreeNodesAll then nodeOk r
  else if T.TreeRules 0 ≤ t ∧ t ≤ T.TreeRulesAll then
    resultOk (Row.TreeRules.result r) && decide (Row.TreeRules.aLo r ≤ Row.TreeRules.aHi r) && decide (Row.TreeRules.bLo r ≤ Row.TreeRules.bHi r)
  else if t = T.TreeSets ∨ t = T.TreeSetsAll then (List.range 20).all fun j => decide (fld r (7 * j + 6) (7 * j) ≤ 79)
  else if t = T.LagGroups then (List.range 16).all fun m => decide (fld r (7 * m + 6) (7 * m) ≤ 95)
  else if t = T.LpmRoutes then lpmOk i r
  else if t = T.NextHops then
    match Row.NextHops.kind r with
    | 0 => !destRefused (Row.NextHops.dest r)
    | 1 => decide (Row.NextHops.dest r + Row.NextHops.ecmpSize r ≤ 65535)
    | _ => true
  else if t = T.AdmissionProfiles then
    decide (Row.AdmissionProfiles.minCells r ≤ Row.AdmissionProfiles.maxCells r) &&
      decide (Row.AdmissionProfiles.red16 r ≤ Row.AdmissionProfiles.yellow16 r)
  else if t = T.QueueConfig then rowInUse i && (Row.QueueConfig.spill r == 0 || decide (i < 1536))
  else if t = T.MirrorSessions then
    let dest := Row.MirrorSessions.dest r
    let vid := Row.MirrorSessions.vid r
    !destRefused dest && destKind dest != 3 && dest != 99 &&
      (Row.MirrorSessions.tagEn r == 0 || (decide (1 ≤ vid) && decide (vid ≤ 4094)))
  else if t = T.QueueShapers ∨ t = T.PortShapers then bucketsOk (bit r 127) r
  else if t = T.Meters then bucketsOk (bit r 127) r
  else if t = T.StreamFilters then
    let m := Row.StreamFilters.maxSdu r
    m == 0 || (decide (64 ≤ m) && decide (m ≤ 9246))
  else if t = T.StreamGates then
    decide (Row.StreamGates.offset r < Row.StreamGates.cycleTicks r) && decide (Row.StreamGates.openLen r ≤ Row.StreamGates.cycleTicks r)
  else if t = T.YardLines then Row.YardLines.sgpValid r == 0 || Row.YardLines.mode r == 1
  else if t = T.Generators then decide (Row.Generators.phaseTicks r < Row.Generators.periodTicks r)
  else if t = T.SampleGroups then decide (Row.SampleGroups.phaseTicks r < Row.SampleGroups.periodTicks r)
  else if t = T.SetpointLimits then limitsOk r
  else if t = T.TemplateFills then fillOk r
  else if t = T.MailboxEnds then
    let a := Row.MailboxEnds.endA r
    let b := Row.MailboxEnds.endB r
    a != b && listedMasters.contains a && listedMasters.contains b
  else if t = T.PoolQuotas then
    if listedMasters.contains i then (List.range 4).all fun k => decide (fld r (32 * k + 31) (32 * k) ≤ poolSize k) else r == 0
  else if t = T.SweepSets then
    decide (Row.SweepSets.phaseTicks r < Row.SweepSets.periodTicks r) &&
      (Row.SweepSets.valid r == 0 || Row.SweepSets.target r == 1 ||
        (decide (0xC0000 ≤ Row.SweepSets.base4k r) && decide (Row.SweepSets.base4k r + Row.SweepSets.size4k r ≤ 0x200000)))
  else if t = T.SweepSelect then selectOk r
  else if t = T.EventFilters then filterOk r
  else if t = T.ActionSampleConfig then decide (Row.ActionSampleConfig.bindingLo r ≤ Row.ActionSampleConfig.bindingHi r)
  else if t = T.FaultReactions then reactionsOk i r
  else if t = T.AonComparators then decide (Row.AonComparators.lowMv r ≤ Row.AonComparators.highMv r)
  else if t = T.TimeAlarms then decide (fld r 47 16 < 1000000000)
  else true

/-- The tests of a row on its own (R36 step 6). A row at its reset value always passes: some reset values lie outside the ranges given
for a row in use. -/
def rowValid (t i r : Nat) : Bool :=
  match tableOf t with
  | none => false
  | some s =>
    (r == defaultRow t i && (t != T.QueueConfig || rowInUse i)) ||
      ((r &&& s.resv) == 0 && s.ranges.all (fun e =>
          let v := fld r e.1 e.2.1
          decide (e.2.2.1 ≤ v) && decide (v ≤ e.2.2.2)) &&
        rowOwn t i r)

/-- The value of an entry as a number. -/
def EntrySpec.num (e : EntrySpec) (v : Nat) : Int := if e.ty.signed then sgn (e.ty.bytes * 8) v else v

/-- Whether a value passes the entry's own check. -/
def Chk.ok (c : Chk) (n : Int) : Bool :=
  match c with
  | .rng lo hi => decide (lo ≤ n) && decide (n ≤ hi)
  | .rngOr lo hi x => (decide (lo ≤ n) && decide (n ≤ hi)) || decide (n = x)
  | .mask m => (n.toNat &&& m) == n.toNat
  | _ => true

/-- The tests of a scalar value on its own (R36 step 6). -/
def scalValid (e : EntrySpec) (k v : Nat) : Bool :=
  (e.ty != .bool || decide (v ≤ 1)) && (e.ty != .timex || decide (fld v 47 16 < 1000000000)) && e.chk.ok (e.num v) &&
    (if k / 256 = E.UdfDef 0 / 256 then fld v 31 29 < 4 && fld v 28 16 == 0 && fld v 7 0 == 0
     else if k / 256 = E.HashFields 0 / 256 then decide (v < 65536)
     else if k / 256 = E.SweepTail 0 / 256 then v % 8 == 0
     else if k = E.CanRequestId 0 ∨ k = E.CanRequestId 1 ∨ k = E.CanResponseId 0 ∨ k = E.CanResponseId 1 then bit v 31 || fld v 28 11 == 0
     else if k = E.AvsOverrideMv then v == 0 || (decide (Config.avsFusedMv.toNat ≤ v) && decide (v ≤ 820))
     else true)

/-- The tests of a STR or DOMAIN on its own (R36 step 6); a DOMAIN of fixed length has passed step 5. -/
def domValid (e : EntrySpec) (k : Nat) (b : Bytes) : Bool :=
  (match e.chk with
    | .lenRange lo hi => decide (lo ≤ b.length) && decide (b.length ≤ hi)
    | _ => true) &&
  (if k = E.L2QueryKey then decide (beAt b 0 2 ≤ 4095)
   else if k = E.EmQueryKey then emKeyOk (fromBE b)
   else if k = E.TakeoverPlan then beAt b 0 1 % 32 == 0 && beAt b 1 7 == 0 && beAt b 16 4 == 0
   else true)

/-! ### Checks that relate values (R36 step 7, R589) -/

/-- INVALID_VALUE unless c holds. -/
def okIf (c : Bool) : Nat := if c then Status.ok else Status.invalidValue

/-- The active TickPeriod and that of every pending batch (R355). -/
def Dev.periods (d : Dev) : List Nat := d.period :: d.commit.batches.filterMap fun b => b.st.scal.get? E.TickPeriod

/-- Whether generator row g and line row l form a pair that passes R347 under a TickPeriod. -/
def genLineOk (slew period g l : Nat) : Bool :=
  let n := Row.Generators.periodTicks g
  let w := Row.Generators.widthNs g
  let lo := Row.YardLines.minPeriodNs l
  let hi := Row.YardLines.maxPeriodNs l
  (lo == 0 || (decide (lo ≤ n * (period - slew)) && decide (w < lo))) && (hi == 0 || decide (n * (period + slew) ≤ hi)) &&
    decide (w < n * period) && decide (Row.Generators.offsetQ g < period * 8)

/-- Whether output line l and the valid generator that drives it pass R347, where it has one. -/
def Dev.pairOk (v : Dev) (period l : Nat) : Bool :=
  let r := v.row T.YardLines l
  let g := v.row T.Generators (Row.YardLines.gen r)
  Row.YardLines.mode r != 1 || Row.YardLines.genValid r == 0 || Row.Generators.valid g == 0 || genLineOk (v.get E.OutputSlewLimit) period g r

/-- Whether every pair of a valid generator and an OUTPUT line that it drives passes (R347). -/
def Dev.pairsOk (v : Dev) (period : Nat) : Bool := (List.range 56).all (v.pairOk period)

/-- Whether every member of start group g meets R349, where it is a spacing group. -/
def Dev.groupOk (v : Dev) (g : Nat) : Bool :=
  let s := v.row T.StartGroups g
  let members := ((List.range 56).map fun l => v.row T.YardLines l).filter fun r =>
    Row.YardLines.mode r == 1 && Row.YardLines.sgpValid r == 1 && Row.YardLines.sgp r == g
  Row.StartGroups.valid s == 0 || Row.StartGroups.minSpacingNs s == 0 ||
    members.all fun r => Row.YardLines.minPeriodNs r != 0 &&
      decide (members.length * Row.StartGroups.minSpacingNs s ≤ Row.YardLines.minPeriodNs r)

/-- Whether every enabled process port fits a TickPeriod (R355). -/
def Dev.portsFit (v : Dev) (period : Nat) : Bool := (List.range 8).all fun pp => ppFits (v.row T.PpConfig pp) period

/-- Whether sample group g, where it is valid, builds within a TickPeriod (R366). -/
def Dev.buildFits (v : Dev) (period g : Nat) : Bool :=
  let r := v.row T.SampleGroups g
  Row.SampleGroups.valid r == 0 || decide (v.buildStart r (fun pp => Row.PpConfig.enable (v.row T.PpConfig pp) == 1) (fun pp => v.row T.PpConfig pp) + 400 ≤ period)

/-- Whether every valid sample group builds within a TickPeriod (R366). -/
def Dev.buildsFit (v : Dev) (period : Nat) : Bool := (List.range 16).all (v.buildFits period)

/-- Whether the queues that DhopQueues and PreemptableQueues of port p mark are distinct and none of the former spills (R137, R261). -/
def Dev.dhopOk (v : Dev) (p : Nat) : Bool :=
  let m := v.get (E.DhopQueues p)
  (v.get (E.PreemptableQueues p) &&& m * 2 ^ 12) == 0 &&
    (List.range 4).all fun j => !bit m j || Row.QueueConfig.spill (v.row T.QueueConfig (p * 16 + 12 + j)) == 0

/-- The rows of QueueConfig with SPILL set. -/
def Dev.spillSet (v : Dev) : Nat :=
  ((v.dict.rows.between (T.QueueConfig * 2 ^ 20) ((T.QueueConfig + 1) * 2 ^ 20)).filter fun e => Row.QueueConfig.spill e.2 == 1).length

/-- A template's fills against its image (R240). -/
def Dev.fillsOk (v : Dev) (t : Nat) : Bool :=
  let len := (v.dom (E.TemplateImage t)).length
  let used := ((List.range 32).map fun i => v.row T.TemplateFills (32 * t + i)).filter fun r => Row.TemplateFills.kind r != 0
  let span := used.map fun r => (Row.TemplateFills.offset r, Row.TemplateFills.offset r + fillLen (Row.TemplateFills.kind r))
  span.all (fun s => decide (s.2 ≤ len)) &&
    (List.range span.length).all fun i => (List.range i).all fun j =>
      let a := span.getD i (0, 0)
      let b := span.getD j (0, 0)
      decide (a.2 ≤ b.1) || decide (b.2 ≤ a.1)

/-- Whether an associative row is in use in any epoch. -/
def assocUsed (r : Nat) : Bool := Row.AssocRows.epochValid r != 0

/-- Whether any row of bank b, in any pipeline, is in use (R155). -/
def Dev.bankUsed (v : Dev) (b : Nat) : Bool :=
  (v.dict.rows.between (T.AssocRows * 2 ^ 20) ((T.AssocRows + 1) * 2 ^ 20)).any fun e => e.1 % 8192 / 256 == b && assocUsed e.2

/-- Whether port p's mode and FEC form a pair that may stand (R118). -/
def Dev.modePairOk (v : Dev) (p : Nat) : Bool :=
  let f := v.get (E.FecMode p)
  f == 0xFF || (fecPermitted (v.get (E.PortMode p))).contains f

/-- Whether the tether's entries may be written (R395). -/
def Dev.unpaired (d : Dev) : Bool := !d.getB E.PairEnable

/-! ### Which Puts a check involves (R589) -/

/-- Whether a Put writes row i of TABLE t, through a TABLE of all pipelines or pairs or its own. -/
def putsRow (t i : Nat) (q : Put) : Bool :=
  match q with
  | .row t' i' _ => (rowsOf t' i').contains (t, i)
  | _ => false

/-- Whether a Put writes a row of TABLE t. -/
def putsTable (t : Nat) (q : Put) : Bool :=
  match q with
  | .row t' i' _ => (rowsOf t' i').any fun e => e.1 == t
  | _ => false

/-- Whether a Put writes one of rows lo to hi of TABLE t, which is its own. -/
def putsRows (t lo hi : Nat) (q : Put) : Bool :=
  match q with
  | .row t' i _ => t' == t && decide (lo ≤ i) && decide (i ≤ hi)
  | _ => false

/-- Whether a Put writes the scalar entry k. -/
def putsScal (k : Nat) (q : Put) : Bool :=
  match q with
  | .scal k' _ => k == k'
  | _ => false

/-- Whether a Put writes the STR or DOMAIN k. -/
def putsDom (k : Nat) (q : Put) : Bool :=
  match q with
  | .dom k' _ => k == k'
  | _ => false

/-- A check that relates values: whether they pass, which Puts write what it involves, and the status where they do not. -/
structure Relation where
  ok : Bool
  involves : Put → Bool
  status : Nat := Status.invalidValue

/-- A write of row i of the associative arrays against the rows as they stand when it is applied (R159). -/
def assocTests (v0 : Dev) (t i : Nat) : List Relation :=
  ((rowsOf t i).filter fun e => e.2 % 2 == 1).map fun e =>
    let bank := E.BankWide (e.2 % 8192 / 256)
    { ok := !v0.getB bank || !assocUsed (v0.row T.AssocRows (e.2 - 1))
      involves := fun q => putsRow T.AssocRows e.2 q || putsRow T.AssocRows (e.2 - 1) q || putsScal bank q }

/-- A LpmRoutes row r at row number i against the view after it (R193). That a row holds IPv6 means that it is valid with FAMILY 1. -/
def lpmTests (v : Dev) (i r : Nat) : List Relation :=
  let val (j : Nat) : Nat := v.row T.LpmRoutes j
  let valid (j : Nat) : Bool := Row.LpmRoutes.valid (val j) == 1
  let on := Row.LpmRoutes.valid r == 1
  let base := i - i % 4
  let same := (v.dict.rows.between (T.LpmRoutes * 2 ^ 20) ((T.LpmRoutes + 1) * 2 ^ 20)).filter fun e => e.2 / 2 ^ 16 == r / 2 ^ 16
  [{ ok := Row.LpmRoutes.family r == 0 || !(valid (i + 1) || valid (i + 2) || valid (i + 3)), involves := putsRows T.LpmRoutes i (i + 3) },
    { ok := !on || i % 4 == 0 || !(valid base && Row.LpmRoutes.family (val base) == 1)
      involves := fun q => putsRow T.LpmRoutes i q || putsRow T.LpmRoutes base q },
    { ok := !on || decide (same.length ≤ 1), involves := fun q => same.any fun e => putsRow T.LpmRoutes (e.1 % 2 ^ 20) q
      status := Status.duplicate }]

/-- The program of binding row i with value b (R223). -/
def bindingTest (v : Dev) (i b : Nat) : Relation :=
  { ok := v.bindingOk b
    involves := fun q => putsRow T.Bindings i q ||
      putsRows T.ProgramStore (Row.Bindings.progBase b) (Row.Bindings.progBase b + Row.Bindings.len b) q }

/-- The reservation of all queues (R259). -/
def minTest (v : Dev) : Relation :=
  { ok := decide (v.minSum + 16384 ≤ 393216), involves := fun q => putsTable T.QueueConfig q || putsTable T.AdmissionProfiles q }

/-- A QueueConfig row r at row number i (R259, R261, R488): d has the active DhopQueues, v the state after the write. -/
def queueTests (d v : Dev) (i r : Nat) : List Relation :=
  let k := E.DhopQueues (i / 16)
  let off := Row.QueueConfig.spill r == 0
  [minTest v,
    { ok := off || v.get E.HbmIdleSelfRefreshUs == 0, involves := fun q => putsRow T.QueueConfig i q || putsScal E.HbmIdleSelfRefreshUs q },
    { ok := off || decide (i % 16 < 12) || !bit (d.get k ||| v.get k) (i % 16 - 12)
      involves := fun q => putsRow T.QueueConfig i q || putsScal k q },
    { ok := off || decide (v.spillSet ≤ 512), involves := putsTable T.QueueConfig, status := Status.full }]

/-- The tests of R90, R347, R349, R355 and R366 in view v. -/
def Dev.yardTests (d v : Dev) : List Relation :=
  let period (n : Nat) (q : Put) : Bool := n != d.period && (putsScal E.TickPeriod q || putsScal E.TickPhase q)
  let pairs := (List.range 56).map fun l =>
    let r := v.row T.YardLines l
    let g := Row.YardLines.gen r
    { ok := d.periods.all fun n => v.pairOk n l
      involves := fun q => putsRow T.YardLines l q || putsRow T.Generators g q || putsScal E.OutputSlewLimit q : Relation }
  let groups := (List.range 8).map fun g =>
    let member (l : Nat) : Bool :=
      let r := v.row T.YardLines l
      Row.YardLines.mode r == 1 && Row.YardLines.sgpValid r == 1 && Row.YardLines.sgp r == g
    { ok := v.groupOk g
      involves := fun q => putsRow T.StartGroups g q || (List.range 56).any fun l => putsRow T.YardLines l q && member l : Relation }
  let guards := (List.range 8).map fun pp =>
    let r := v.row T.PpConfig pp
    { ok := Row.PpConfig.enable r == 0 || decide (v.get E.OutputSlewLimit ≤ Row.PpConfig.guardNs r)
      involves := fun q => putsRow T.PpConfig pp q || putsScal E.OutputSlewLimit q : Relation }
  let fits := (List.range 8).map fun pp =>
    { ok := d.periods.all fun n => ppFits (v.row T.PpConfig pp) n
      involves := fun q => putsRow T.PpConfig pp q || d.periods.any fun n => period n q : Relation }
  let builds := (List.range 16).map fun g =>
    { ok := d.periods.all fun n => v.buildFits n g
      involves := fun q => putsRow T.SampleGroups g q || putsTable T.PpConfig q : Relation }
  pairs ++ groups ++ guards ++ fits ++ builds

/-- The tests of R115, R118, R137 and R261 of port p in view v: a port runs the mode it negotiated, and keeps its PortMode beside it. -/
def Dev.portTests (v : Dev) (p : Nat) : List Relation :=
  let mode := v.get (E.PortMode p)
  let wide := (absorbs p mode).map fun o =>
    { ok := !v.getB (E.PortEnable o), involves := fun q => putsScal (E.PortMode p) q || putsScal (E.PortEnable o) q : Relation }
  let run := (absorbs p (v.port p).mode).map fun o => { ok := !v.getB (E.PortEnable o), involves := putsScal (E.PortEnable o) : Relation }
  [{ ok := modeFits p mode, involves := putsScal (E.PortMode p) },
    { ok := v.modePairOk p, involves := fun q => putsScal (E.PortMode p) q || putsScal (E.FecMode p) q },
    { ok := v.dhopOk p
      involves := fun q => putsScal (E.DhopQueues p) q || putsScal (E.PreemptableQueues p) q || putsRows T.QueueConfig (p * 16 + 12) (p * 16 + 15) q }]
    ++ wide ++ run

/-- Template t's fills against its image (R240). -/
def fillsTest (v : Dev) (t : Nat) : Relation :=
  { ok := v.fillsOk t, involves := fun q => putsRows T.TemplateFills (32 * t) (32 * t + 31) q || putsDom (E.TemplateImage t) q }

/-- A SweepSets row r at row number i against its selection (R509, R514); v0 is the state before the write. -/
def sweepTests (v0 v : Dev) (i r : Nat) : List Relation :=
  let old := v0.row T.SweepSets i
  let moved := Row.SweepSets.target old != Row.SweepSets.target r || Row.SweepSets.base4k old != Row.SweepSets.base4k r ||
    Row.SweepSets.size4k old != Row.SweepSets.size4k r
  [{ ok := !(Row.SweepSets.valid old == 1 && moved), involves := putsRow T.SweepSets i },
    { ok := Row.SweepSets.valid r == 0 || decide (8 * v.recordWords i ≤ 4096 * Row.SweepSets.size4k r)
      involves := fun q => putsRow T.SweepSets i q || putsTable T.SweepSelect q }]

/-- The words of all valid sets (R509). -/
def sweepTest (v : Dev) : Relation :=
  { ok := decide (v.sweepWords ≤ 524288), involves := fun q => putsTable T.SweepSelect q || putsTable T.SweepSets q }

/-- The rows that a written row has a part in. -/
def rowTests (d v0 v : Dev) (t i r : Nat) : List Relation :=
  if t = T.AssocRows ∨ t = T.AssocRowsAll then assocTests v0 t i
  else if t = T.LpmRoutes then lpmTests v i r
  else if t = T.Bindings then [bindingTest v i r]
  else if t = T.ProgramStore then ((d.allBindings v).filter fun e => bindingCovers e.2 i).map fun e => bindingTest v e.1 e.2
  else if t = T.TemplateFills then [fillsTest v (i / 32)]
  else if t = T.AdmissionProfiles then [minTest v]
  else if t = T.QueueConfig then queueTests d v i r
  else if [T.YardLines, T.Generators, T.StartGroups, T.PpConfig, T.SampleGroups].contains t then
    (d.yardTests v).filter fun e => e.involves (.row t i r)
  else if t = T.MailboxEnds then
    [{ ok := (d.mboxCh i).ab.isEmpty && (d.mboxCh i).ba.isEmpty, involves := putsRow t i, status := Status.busy }]
  else if t = T.SweepSelect then [sweepTest v]
  else if t = T.SweepSets then sweepTests v0 v i r ++ [sweepTest v]
  else []

/-- The tests that a written scalar entry has a part in. -/
def scalTests (d v : Dev) (k x : Nat) : List Relation :=
  let free (l : List Nat) (ok : Bool) : Relation := { ok, involves := fun q => l.any fun j => putsScal j q }
  if 0x1000 ≤ k / 256 ∧ k / 256 < 0x1600 then
    let o := (k / 256 - 0x1000) / 16
    ([o, o - 1, o - 2, o - 3].eraseDups.flatMap v.portTests).filter fun e => e.involves (.scal k x)
  else if k = E.TickPeriod ∨ k = E.TickPhase then [free [E.TickPeriod, E.TickPhase] (decide (v.get E.TickPhase < v.get E.TickPeriod))]
  else if k = E.OutputSlewLimit then (d.yardTests v).filter fun e => e.involves (.scal k x)
  else if k / 256 = E.BankWide 0 / 256 then
    let b := k - E.BankWide 0
    let inBank (q : Put) : Bool := match q with
      | .row t i _ => (rowsOf t i).any fun e => e.1 == T.AssocRows && e.2 % 8192 / 256 == b
      | _ => false
    [{ ok := !v.bankUsed b, involves := fun q => putsScal k q || inBank q }]
  else if k = E.NominalBitRate 0 ∨ k = E.DataBitRate 0 then
    [free [E.NominalBitRate 0, E.DataBitRate 0] (decide (v.get (E.NominalBitRate 0) ≤ v.get (E.DataBitRate 0)))]
  else if k = E.NominalBitRate 1 ∨ k = E.DataBitRate 1 then
    [free [E.NominalBitRate 1, E.DataBitRate 1] (decide (v.get (E.NominalBitRate 1) ≤ v.get (E.DataBitRate 1)))]
  else if k = E.PairEnable then [free [k, E.PairRole] (x == 0 || v.get E.PairRole != 0)]
  else if k = E.PairRole ∨ k = E.TetherPortA then [free [k, E.PairEnable] v.unpaired]
  else if k = E.TetherPortB then [free [k, E.PairEnable] v.unpaired, free [k, E.TetherPortA] (x == 0xFF || x != v.get E.TetherPortA)]
  else if k = E.TetherEtherType then [free [k, E.PairEnable] v.unpaired, free [k, E.ProstaEtherType] (x != v.get E.ProstaEtherType)]
  else if k / 256 = E.HbmAddressOrder 0 / 256 then [free [k] ([0, 4, 5].contains (d.get E.HbmState))]
  else if k = E.HbmIdleSelfRefreshUs then
    [{ ok := x == 0 || v.spillSet == 0, involves := fun q => putsScal k q || putsTable T.QueueConfig q }]
  else []

/-- The tests that a written STR or DOMAIN has a part in. -/
def domTests (v : Dev) (k : Nat) (b : Bytes) : List Relation :=
  if k / 256 = E.TemplateImage 0 / 256 then [fillsTest v (k - E.TemplateImage 0)]
  else if k = E.TakeoverPlan then
    let ports := beAt b 16 8 * 2 ^ 64 + beAt b 8 8
    [E.TetherPortA, E.TetherPortB].map fun e =>
      { ok := decide (96 ≤ v.get e) || !bit ports (v.get e), involves := fun q => putsDom k q || putsScal e q }
  else []

/-- The tests that a Put has a part in: d is the device, v0 the latest view before the record, v after it. -/
def relTests (d v0 v : Dev) (p : Put) : List Relation :=
  match p with
  | .row t i r => rowTests d v0 v t i r
  | .scal k x => scalTests d v k x
  | .dom k b => domTests v k b

/-- The tests of a Put that fail. -/
def relFails (d v0 v : Dev) (p : Put) : List Relation := (relTests d v0 v p).filter fun e => !e.ok

/-- The first failure among the tests of a Put, or OK. -/
def relPut (d v0 v : Dev) (p : Put) : Nat :=
  match relFails d v0 v p with
  | [] => Status.ok
  | e :: _ => e.status

/-! ### What the halter holds (R461, R462, R464, R527) -/

/-- Whether the entry with key k is held whole from firmware; ThrottleThresholdC may be lowered (R461, R462, R536). -/
def scalHeld (k old new : Nat) : Bool :=
  if k = E.ThrottleThresholdC then decide (sgn 32 old < sgn 32 new)
  else (k / 256 == E.LoopOverrunLimit 0 / 256 || k / 256 == E.LoopOverrunAction 0 / 256 || k == E.RateStepClamp 0 || k == E.RateStepClamp 1 ||
    k == E.PhaseClamp 0 || k == E.PhaseClamp 1 || k == E.OutputSlewLimit || k == E.WdMgmtMs || k == E.WdMgmtRestart ||
    k == E.WdRestartLimit || k / 256 == E.WdTickTicks 0 / 256 || k == E.HostWdTicks) && old != new

/-- Whether a row write changes a field held from firmware. Reserved bits are no field: step 6 refuses them. -/
def rowHeld (t old new : Nat) : Bool :=
  let resv := ((tableOf t).map (·.resv)).getD 0
  if t = T.SetpointLimits ∨ t = T.ShaperCeilings then old != new - (new &&& resv)
  else if t = T.YardLines then
    Row.YardLines.minPeriodNs old != Row.YardLines.minPeriodNs new || Row.YardLines.maxPeriodNs old != Row.YardLines.maxPeriodNs new ||
      Row.YardLines.pulsesPerTick old != Row.YardLines.pulsesPerTick new || Row.YardLines.safeLevel old != Row.YardLines.safeLevel new
  else if t = T.StartGroups then Row.StartGroups.minSpacingNs old != Row.StartGroups.minSpacingNs new
  else if t = T.FaultReactions then
    let a := fld old 63 59
    let b := fld new 63 59
    (a &&& (31 - b)) != 0 || (Row.FaultReactions.reset old != 0 && Row.FaultReactions.reset old != Row.FaultReactions.reset new)
  else false

/-- Whether a write by a firmware master changes what the halter holds (R36 step 3); v0 is the state that it would change. -/
def putHeld (v0 : Dev) (p : Put) : Bool :=
  match p with
  | .scal k x => scalHeld k (v0.get k) x
  | .row t i r => rowHeld t (v0.row t i) r
  | .dom _ _ => false

/-- Whether a firmware write of a shaper row breaks its ceilings (R464). -/
def ceilingBroken (v : Dev) (p : Put) : Bool :=
  match p with
  | .row t i r =>
    if t = T.QueueShapers ∨ t = T.PortShapers then
      let c := v.row T.ShaperCeilings (if t = T.QueueShapers then i / 16 else i)
      let pir := Row.ShaperCeilings.pirCeil c
      let burst := Row.ShaperCeilings.burstCeil c
      let on := Row.QueueShapers.enable r == 1
      (pir != 0 && decide (pir < Row.QueueShapers.pir r)) ||
        (burst != 0 && (decide (burst < Row.QueueShapers.cbs r) || decide (burst < Row.QueueShapers.pbs r))) ||
        ((pir != 0 || burst != 0) && !on)
    else false
  | _ => false

/-! ### The commit unit's counts (R194, R323) -/

/-- The LPM rows of a stage. -/
def Staged.lpm (s : Staged) : FMap Nat := s.rows.between (T.LpmRoutes * 2 ^ 20) ((T.LpmRoutes + 1) * 2 ^ 20)

/-- The rows of a stage that count against StageCapacity. -/
def Staged.count (s : Staged) : Nat := s.scal.length + s.rows.length - s.lpm.length

/-- All rows of a stage, LPM rows included. -/
def Staged.total (s : Staged) : Nat := s.scal.length + s.rows.length

/-- The units an LpmRoutes row costs (R194). -/
def lpmUnits (r : Nat) : Nat := if Row.LpmRoutes.valid r = 0 then 0 else if Row.LpmRoutes.family r = 1 then 4 else 1

/-- The units of the reserve that a stage draws: valid rows that differ from the active ones. -/
def Dev.lpmDraw (d : Dev) (s : Staged) : Nat :=
  (s.lpm.map fun e => if e.2 = d.row T.LpmRoutes (e.1 % 2 ^ 20) then 0 else lpmUnits e.2).sum

/-- The units of the reserve in use: every stage and what is not yet returned. -/
def Dev.lpmInUse (d : Dev) : Nat := d.lpmDraw d.commit.stage + (d.commit.batches.map fun b => d.lpmDraw b.st).sum + (d.commit.lpmHeld.map (·.2)).sum

/-- The staged rows that count: open stage, pending batches, and what is not yet folded (R323, R333). -/
def Dev.stagedCount (d : Dev) : Nat :=
  d.commit.stage.count + (d.commit.batches.map fun b => b.st.count).sum + d.commit.folding.sum

/-- Whether a Put stages: the access code RWT (R322). -/
def Put.stages (p : Put) : Bool :=
  match p with
  | .scal k _ | .dom k _ => ((specOf (k / 256) (k % 256)).map fun e => e.acc == .rwt).getD false
  | .row t _ _ => ((specOf t 0).map fun e => e.acc == .rwt).getD false

/-- A stage with a Put laid over it; the COST of a binding is the device's (R223). -/
def Staged.put (v : Dev) (p : Put) (s : Staged) : Staged :=
  match p with
  | .scal k x => { s with scal := s.scal.set k x }
  | .row t i r =>
    let r := rowNorm t r
    let r := if t = T.Bindings ∧ Row.Bindings.valid r = 1 then setFld r 108 103 (v.programCost r) else r
    { s with rows := (rowsOf t i).foldl (fun m (e : Nat × Nat) => m.set (e.1 * 2 ^ 20 + e.2) r) s.rows }
  | .dom _ _ => s

/-- The device with these values in its open stage; v is the state that they would leave. -/
def Dev.staging (d v : Dev) (l : List Put) : Dev :=
  { d with commit := { d.commit with stage := (l.filter Put.stages).foldl (fun s p => s.put v p) d.commit.stage } }

/-- Whether a Put takes a place of StageCapacity (R323). -/
def Put.counts (p : Put) : Bool := p.stages && !putsTable T.LpmRoutes p

/-- StageCapacity and the LPM reserve over values that are staged (R194, R323). -/
def Dev.stageTests (d v : Dev) (l : List Put) : List Relation :=
  let s := d.staging v l
  [{ ok := !l.any Put.counts || decide (s.stagedCount ≤ 131072), involves := Put.counts, status := Status.stageFull },
    { ok := !l.any (putsTable T.LpmRoutes) || decide (s.lpmInUse ≤ 131072), involves := putsTable T.LpmRoutes, status := Status.stageFull }]

/-- Whether staging these values stays within StageCapacity and the LPM reserve (R194, R323). -/
def Dev.stageFits (d v : Dev) (l : List Put) : Bool := (d.stageTests v l).all (·.ok)

end Sys2Proof.Machine
end

