-- ==== Sys2Proof/Machine/Commit.lean ====
section
/-!
DEFINITION. The commit unit (chapter 10): requests, aborts, lateness, what a batch does at its boundary, folding and the LPM reserve.
-/
namespace Sys2Proof.Machine

/-- Change the commit unit. -/
def Dev.modCommit (g : Commit → Commit) (d : Dev) : Dev := { d with commit := g d.commit }

/-! ### Entries that mirror the unit (R339, R340, R194) -/

/-- The PendingBatches row of a batch (R340). -/
def Batch.row (b : Batch) : Nat :=
  let tick := (b.st.scal.get? E.TickPeriod).isSome || (b.st.scal.get? E.TickPhase).isSome
  2 ^ 127 + b.flip.toNat * 2 ^ 126 + b.lateOk.toNat * 2 ^ 125 + tick.toNat * 2 ^ 124 + b.id * 2 ^ 96 + b.tick % 2 ^ 64 * 2 ^ 32 + b.st.total

/-- StagedRows, StagedRowsTotal, PendingCommits, PendingBatches and LpmReserveInUse follow the unit. -/
def Dev.commitNote (d : Dev) : Dev :=
  let d := (d.store E.StagedRows d.commit.stage.count).store E.StagedRowsTotal (d.commit.stage.count + (d.commit.batches.map fun b => b.st.count).sum)
  let d := (d.store E.PendingCommits d.commit.batches.length).store E.LpmReserveInUse d.lpmInUse
  d.upto 4 fun i d => d.setRow T.PendingBatches i ((d.commit.batches[i]?.map Batch.row).getD 0)

/-- A row of CommitReports (R336). -/
def Dev.commitReport (status cause epoch applied id master asked rows arrival : Nat) (d : Dev) : Dev :=
  d.ringPush T.CommitReports 64 E.CommitReportCount (srcKey T.CommitReports 0) 307 fun n acq =>
    epoch % 2 ^ 32 * 2 ^ 320 + status * 2 ^ 312 + cause * 2 ^ 308 + acq.toNat * 2 ^ 307 + n * 2 ^ 288 + id * 2 ^ 272 + master * 2 ^ 264 +
      asked % 2 ^ 64 * 2 ^ 192 + applied % 2 ^ 64 * 2 ^ 128 + rows % 2 ^ 32 * 2 ^ 96 + arrival

/-- The report of a batch that will not take effect (causes 3, 4 and 5), counted in CommitsAborted. -/
def Dev.batchAborted (b : Batch) (cause : Nat) (d : Dev) : Dev :=
  (d.commitReport Status.commitAborted cause 0 0 b.id b.master b.asked b.st.total b.arrival).inc E.CommitsAborted

/-! ### Checks of the content (R330 step 6) -/

/-- The last window start of port p, the rows in strictly ascending order, and no two within 64 ns (R294). -/
def windowsOk (cycleTicks period : Nat) : List (Nat × Nat) → Bool
  | (t, n) :: (t', n') :: l =>
    (decide (t < t') || (t == t' && decide (n < n'))) && decide (t * period + n + 64 ≤ t' * period + n') &&
      windowsOk cycleTicks period ((t', n') :: l)
  | _ => true

/-- Whether port p's weave passes R294 under a TickPeriod. -/
def Dev.weaveOk (v : Dev) (period p : Nat) : Bool :=
  let n := v.get (E.WeaveCycleTicks p)
  let w := (v.windows p).map fun e => (e.1, e.2.1)
  let pos (e : Nat × Nat) : Nat := e.1 * period + e.2
  !v.getB (E.WeaveEnable p) || (decide (v.get (E.WeaveCycleOffset p) < n) && w.all (fun e => decide (e.1 < n) && decide (e.2 < period)) &&
    windowsOk n period w &&
    (match w.head?, w.getLast? with
      | some a, some b => decide (1 < w.length → pos b + 64 ≤ n * period + pos a)
      | _, _ => true))

/-- The content of a batch of tick m against the view that will be in force (R330 step 6): v is that view, st the batch. -/
def Dev.contentOk (v : Dev) (st : Staged) (m : Nat) (flip : Bool) (d : Dev) : Bool :=
  let b := d.tickStart m
  let changes := (st.scal.get? E.TickPeriod).isSome || (st.scal.get? E.TickPhase).isSome
  let p := v.get E.TickPeriod
  let ph := v.get E.TickPhase
  (!changes || (decide (ph < p) && decide (ph ≤ b) && (b - ph) % p == 0 && v.pairsOk p && v.portsFit p && v.buildsFit p)) &&
  (!flip || (match d.commit.flipT with
    | some t => decide (t + 5000 ≤ b)
    | none => true)) &&
  (List.range 96).all fun q => v.weaveOk p q && v.dhopOk q

/-- The view in force once batches of a list have taken effect. -/
def Dev.viewOf (l : List Batch) (d : Dev) : Dev := d.each l fun b v => v.over b.st

/-! ### Requests (R327 to R331) -/

/-- The result of a COMMIT_REQUEST (R328): STATUS, APPLIED_TICK, STAGED_ROWS, EPOCH. -/
structure CommitResult where
  status  : Nat
  applied : Nat := 0
  rows    : Nat := 0
  epoch   : Nat := 0
  deriving DecidableEq, Repr

/-- CommitArmTime in units of 2^-16 ns. -/
def armTime : Int := 50000 * 65536

/-- Whether an instant is too late for tick m (R331, R334). -/
def Dev.tooLate (d : Dev) (a : Int) (m : Nat) : Bool := decide (a > (d.tickStart m : Int) * 65536 - armTime)

/-- The first tick whose boundary is at or after A + CommitArmTime (R331). -/
def Dev.nextPossible (d : Dev) (a : Int) : Nat :=
  let b := firstBoundary d.period (d.get E.TickPhase) (a + armTime)
  tickOf d.period (d.get E.TickPhase) b

/-- The capture at which the request being served arrived (R329). -/
def Dev.arriveX (d : Dev) : Nat := d.commit.arriveX.getD d.now

/-- Its output time of arrival, as TIMEX. -/
def Dev.arriveStamp (d : Dev) : Nat := toTimex (d.time.out.at d.arriveX)

/-- A late request that is refused (R331). -/
def Dev.refusedLate (master id tick : Nat) (d : Dev) : CommitResult × Dev :=
  let d := d.commitReport Status.commitLate 2 0 0 id master tick d.commit.stage.total d.arriveStamp
  ({ status := Status.commitLate }, (d.inc E.CommitsLate).report Src.commitLate id)

/-- The open stage is sealed into a batch of tick m (R324). -/
def Dev.seal (master id asked m : Nat) (flip lateOk late : Bool) (d : Dev) : CommitResult × Dev :=
  let st := d.commit.stage
  let epoch := (d.get E.EpochNumber + d.commit.batches.length + 1) % 2 ^ 32
  let b : Batch := { id, tick := m, asked, flip, lateOk, late, master, arrival := d.arriveStamp, st }
  let d := (d.modCommit fun c => { c with stage := {}, batches := c.batches ++ [b] }).commitNote
  let d := d.cond late fun d => (d.inc E.CommitsLateApplied).report Src.commitLate id
  ({ status := Status.ok, applied := m, rows := st.total, epoch }, d)

/-- Steps 6 and 7 of R330 for tick m, and the seal. -/
def Dev.commitFinish (master id asked m : Nat) (flip lateOk late : Bool) (d : Dev) : CommitResult × Dev :=
  let st := d.commit.stage
  if !Dev.contentOk d.staged st m flip d then ({ status := Status.invalidValue }, d)
  else if flip && d.commit.batches.any (·.flip) then ({ status := Status.invalidValue }, d)
  else d.seal master id asked m flip lateOk late

/-- ACTION 0x01 (R330). -/
def Dev.commitRequest (master flags id tick : Nat) (d : Dev) : CommitResult × Dev :=
  let flip := bit flags 6
  let lateOk := bit flags 7
  let a := d.time.out.at d.arriveX
  let bs := d.commit.batches
  let timing (st : Staged) : Bool := (st.scal.get? E.TickPeriod).isSome || (st.scal.get? E.TickPhase).isSome
  if flags % 64 ≠ 0 ∨ 256 ≤ flags ∨ id = 0 ∨ 0xFFFF ≤ id ∨ 2 ^ 64 ≤ tick then ({ status := Status.invalidValue }, d)
  else if bs.any fun b => b.id == id then ({ status := Status.duplicate }, d)
  else if 4 ≤ bs.length then ({ status := Status.full }, d)
  else if (bs.any fun b => decide (tick ≤ b.tick) || timing b.st) || decide (d.tickNow + 2 ^ 31 ≤ tick) then
    ({ status := Status.invalidValue }, d)
  else if d.tooLate a tick then
    if !lateOk || flip || timing d.commit.stage then d.refusedLate master id tick
    else
      let m := d.nextPossible a
      if bs.any fun b => decide (m ≤ b.tick) then ({ status := Status.invalidValue }, d)
      else d.commitFinish master id tick m flip lateOk true
  else d.commitFinish master id tick tick flip lateOk false

/-! ### Aborts (R334) -/

/-- Later batches are checked again, in rising order of tick, each against the view of the batches kept before it. -/
def recheck (d : Dev) : List Batch → List Batch → List Batch × List Batch
  | kept, [] => (kept, [])
  | kept, b :: l =>
    if Dev.contentOk (d.viewOf (kept ++ [b])) b.st b.tick b.flip d then recheck d (kept ++ [b]) l
    else
      let (k, gone) := recheck d kept l
      (k, b :: gone)

/-- A pending batch is withdrawn, and later ones that now fail (R334). -/
def Dev.withdraw (b : Batch) (d : Dev) : Dev :=
  let before := d.commit.batches.filter fun c => decide (c.tick < b.tick)
  let after := d.commit.batches.filter fun c => decide (b.tick < c.tick)
  let d := d.batchAborted b 3
  let (kept, gone) := recheck d before after
  let d := (d.modCommit fun c => { c with batches := kept }).each gone fun g d => d.batchAborted g 5
  d.commitNote

/-- ACTION 0x02 (R334). -/
def Dev.abortRequest (master flags id tick : Nat) (d : Dev) : CommitResult × Dev :=
  if flags ≠ 0 ∨ tick ≠ 0 ∨ id = 0 ∨ 0x10000 ≤ id then ({ status := Status.invalidValue }, d)
  else if id = 0xFFFF then
    let rows := d.commit.stage.total
    let d := (d.commitReport Status.commitAborted 3 0 0 0xFFFF master 0 rows d.arriveStamp).inc E.CommitsAborted
    ({ status := Status.ok, rows }, (d.modCommit fun c => { c with stage := {} }).commitNote)
  else match d.commit.batches.find? fun b => b.id == id with
    | some b =>
      if d.tooLate (d.time.out.at d.arriveX) b.tick then ({ status := Status.commitLate }, d)
      else ({ status := Status.ok, rows := b.st.total }, d.withdraw b)
    | none => ({ status := if d.commit.applied.contains id then Status.commitLate else Status.invalidValue }, d)

/-- Every pending batch is discarded by an acquire step (R335). Answers how many. -/
def Dev.batchesDrop (d : Dev) : Nat × Dev :=
  let bs := d.commit.batches
  let d := (d.modCommit fun c => { c with batches := [] }).each bs fun b d => d.batchAborted b 4
  (bs.length, d.commitNote)

/-! ### The boundary of a batch (R332) -/

/-- A committed stream filter that changes clears its BLOCKED latch (R311). -/
def Dev.unblock (h : Nat) (d : Dev) : Dev :=
  if bit (d.row T.StreamBlocked h) 7 then (d.setRow T.StreamBlocked h 0).put E.StreamsBlocked (d.get E.StreamsBlocked - 1) else d

/-- A committed gate that changes clears its latch (R311). -/
def Dev.unlatch (g : Nat) (d : Dev) : Dev := d.cond (bit (d.row T.GateLatched g) 7) (Dev.setRow T.GateLatched g 0)

/-- A committed row takes effect; one that changes acts on what it governs (R194, R306, R309, R311). -/
def Dev.rowCommit (key v : Nat) (d : Dev) : Dev :=
  let t := key / 2 ^ 20
  let i := key % 2 ^ 20
  let old := d.row t i
  let d := d.rewrite t i v
  if old = v then d
  else if t = T.QueueShapers then d.shaperInstall i v
  else if t = T.PortShapers then d.shaperInstall (portBucket i) v
  else if t = T.Meters then d.meterInstall i v
  else if t = T.StreamFilters then d.unblock i
  else if t = T.StreamGates then d.unlatch i
  else if t = T.LpmRoutes then d.store E.LpmUnitsActive (d.get E.LpmUnitsActive + lpmUnits v - lpmUnits old)
  else d

/-- The values that a stage replaces. -/
def Dev.replaced (d : Dev) (st : Staged) : Staged :=
  { scal := st.scal.map fun e => (e.1, d.get e.1), rows := st.rows.map fun e => (e.1, d.row (e.1 / 2 ^ 20) (e.1 % 2 ^ 20)) }

/-- Frames in transmission whose gate a committed weave closes before their end (R293). -/
def Dev.weaveCut (p : Nat) (d : Dev) : Dev :=
  match d.net.tx.get? p with
  | none => d
  | some t =>
    let q := t.row % 16
    let left : Int := d.txTime p (t.total - d.sentOf p t)
    let closes := !bit (d.gates p) q || (match d.gateLeft p q with
      | some g => decide (g < left)
      | none => false)
    d.cond (closes && !d.preemptable p q && t.entry.dhop.isNone) (Dev.inc (E.WeaveOverruns p))

/-- A batch takes effect as the third duty of R19 (R332). -/
def Dev.batchApply (b : Batch) (d : Dev) : Dev :=
  let held := d.lpmDraw b.st
  let weave := b.st.scal.any (fun e => decide (E.WeaveEnable 0 ≤ e.1) && decide (e.1 ≤ E.WeaveCycleOffset 95)) ||
    !(b.st.rows.between (T.WeaveWindows * 2 ^ 20) ((T.WeaveWindows + 1) * 2 ^ 20)).isEmpty
  let e : Epoch := { x := d.now, old := d.replaced b.st }
  let d := (d.each b.st.scal fun e d => d.put e.1 e.2).each b.st.rows fun e d => d.rowCommit e.1 e.2
  let epoch := (d.get E.EpochNumber + 1) % 2 ^ 32
  let d := ((d.put E.EpochNumber epoch).inc E.CommitsApplied).store E.LastAppliedTick b.tick
  let d := if b.flip then (d.put E.AssocEpoch (1 - d.get E.AssocEpoch)).modCommit fun c => { c with flipT := some d.time.boundT } else d
  let e := if b.flip then { e with old := { e.old with scal := e.old.scal.set E.AssocEpoch (1 - d.get E.AssocEpoch) } } else e
  let d := d.modCommit fun c => { c with
    batches := c.batches.filter (· != b)
    applied := (b.id :: c.applied).take 64
    folding := c.folding ++ [b.st.count]
    epochs := (e :: c.epochs).take 4
    lpmHeld := c.lpmHeld ++ [(d.now, held)] }
  let d := d.commitReport Status.ok (if b.late then 1 else 0) epoch b.tick b.id b.master b.asked b.st.total b.arrival
  (d.cond weave fun d => d.upto 96 Dev.weaveCut).commitNote

/-- The batch of the tick that begins, if any, takes effect. -/
def Dev.commitDuty (n : Nat) (d : Dev) : Dev :=
  match d.commit.batches.find? fun b => b.tick == n with
  | some b => d.batchApply b
  | none => d

/-- BATCH_FOLD_DONE: the oldest batch not yet folded is; its rows return to StageCapacity (R333). -/
def Dev.foldDone (d : Dev) : Dev := (d.modCommit fun c => { c with folding := c.folding.drop 1 }).commitNote

/-- LPM_RESERVE_RETURN: 5 us after its commit boundary the reserve of a batch returns (R194). -/
def Dev.lpmReturn (d : Dev) : Dev :=
  (d.modCommit fun c => { c with lpmHeld := c.lpmHeld.filter fun e => decide (d.now < e.1 + 40000) }).commitNote

/-- BATCH_FOLD_DONE (R333). -/
def execBatchFoldDone (x : Nat) (s : State) : Host.Outcome State Fault Refusal := s.live x Dev.foldDone
/-- LPM_RESERVE_RETURN (R194). -/
def execLpmReserveReturn (x : Nat) (s : State) : Host.Outcome State Fault Refusal := s.live x Dev.lpmReturn

end Sys2Proof.Machine
end

