-- ==== Sys2Proof/Machine/Trace.lean ====
section
/-!
DEFINITION. Privileges of requesters (R13, R35) and the event trace (R515 to R517).
-/
namespace Sys2Proof.Machine

/-- Whether a master can stand behind an access: a listed one, and factory test only in factory test mode, where alone P0 is held (R13, R15,
R538). -/
def Dev.served (d : Dev) (m : Nat) : Bool := listedMasters.contains m && (m != 0x3F || d.get E.TestModeState == 2)

/-- The privilege of a requester that is served by its path (R13, R35): 0 to 4; none for the device's own engines, which have no path. -/
def Dev.privOf (d : Dev) (r : Requester) : Option Nat :=
  if isFirmware r.master then some 1
  else if r.master = 0x20 then some (if r.session = 0 then 4 else 3)
  else if r.master = 0x21 ∨ r.master = 0x22 then some (d.get (E.CanPrivilege (r.master - 0x21)))
  else if r.master = 0x3F then some 0
  else if r.master = 0x00 ∨ r.master = 0x10 ∨ r.master = 0x30 ∨ r.master = 0x31 then some 2
  else none

/-- An event as the trace's filters and rows see it (R515). -/
structure TraceEvent where
  kind   : Nat
  master : Nat
  priv   : Nat
  status : Nat := 0
  fclass : Nat := 0
  idx    : Nat
  row    : Nat
  opcode : Nat := 0
  len    : Nat := 0
  detail : Nat
  deriving DecidableEq, Repr

/-- Whether an event matches a row of EventFilters (R516); one for a reserved master matches nothing (R15). -/
def TraceEvent.matches (e : TraceEvent) (r : Nat) : Bool :=
  Row.EventFilters.valid r == 1 && bit (Row.EventFilters.kindMask r) e.kind && bit (Row.EventFilters.privMask r) e.priv &&
    (Row.EventFilters.masterAny r == 1 || (Row.EventFilters.master r == e.master && listedMasters.contains e.master)) &&
    decide (Row.EventFilters.indexLo r ≤ e.idx) && decide (e.idx ≤ Row.EventFilters.indexHi r) &&
    decide (Row.EventFilters.rowLo r ≤ e.row) && decide (e.row ≤ Row.EventFilters.rowHi r) &&
    (e.kind != 8 || bit (Row.EventFilters.fclassMask r) e.fclass)

/-- An event reaches the trace (R515, R517). -/
def Dev.trace (e : TraceEvent) (d : Dev) : Dev :=
  if d.getB E.EventTraceEnable && (List.range 8).any fun i => e.matches (d.row T.EventFilters i) then
    d.ringPush T.EventTrace 4096 E.EventTraceCount (srcKey T.EventTrace 0) 239 fun n acq =>
      n * 2 ^ 240 + acq.toNat * 2 ^ 239 + e.kind * 2 ^ 235 + e.priv % 8 * 2 ^ 232 + e.master % 256 * 2 ^ 224 + e.status * 2 ^ 216 +
        e.fclass * 2 ^ 213 + e.idx * 2 ^ 192 + e.row % 2 ^ 24 * 2 ^ 168 + e.opcode * 2 ^ 160 + e.len % 2 ^ 32 * 2 ^ 128 +
        e.detail % 2 ^ 32 * 2 ^ 96 + d.stamp
  else d

/-- The privilege to record for a master; the spec states none for the device's own engines (a free value). -/
def Dev.tracePriv (r : Requester) (d : Dev) : Nat × Dev :=
  match d.privOf r with
  | some p => (p, d)
  | none => let (f, d) := d.free 16; (f % 5, d)

/-- Kind 8: a row of the fault log is offered to the trace (R515, R531). -/
def Dev.traceFault (src cls master addr : Nat) (d : Dev) : Dev :=
  let (priv, d) := d.tracePriv ⟨master, 0⟩
  d.trace { kind := 8, master, priv, fclass := cls, idx := 0x8800, row := src, detail := addr }

end Sys2Proof.Machine
end

