-- ==== Sys2Proof/Machine/Hbm.lean ====
section
/-!
DEFINITION. HBM and grooming (chapter 16): states, training, refresh, retraining, patrol, repair and the bytes of HBM.
-/
namespace Sys2Proof.Machine

/-- Change HBM. -/
def Dev.modHbm (g : HbmSt → HbmSt) (d : Dev) : Dev := { d with hbm := g d.hbm }

/-! ### Addresses and bytes (R480, R481) -/

/-- The KIND of the region that an HBM byte address lies in (R480). -/
def hbmRegion (a : Nat) : Nat :=
  if a < 0x04000000 then 0 else if a < 0x20000000 then 1 else if a < 0x40000000 then 2 else if a < 0xC0000000 then 3
  else if a < 0x200000000 then 4 else 5

/-- Pseudo-channel, bank and row of an address (R481). -/
def Dev.hbmPlace (d : Dev) (a : Nat) : Nat × Nat × Nat :=
  let s := a / 2 ^ 8 % 2
  let i := a / 2 ^ 14 % 2 ^ 21
  let bank := match d.get (E.HbmAddressOrder s) with
    | 0 => fld i 6 2
    | 1 => fld i 4 0
    | _ => fld i 6 2 ^^^ fld i 11 7
  (32 * s + a / 2 ^ 9 % 32, bank, i / 2 ^ 7)

/-- The bytes from address a: what was written there; a byte that nothing has written is undefined (R485; log 8). -/
def Dev.hbmBytes (d : Dev) (a : Nat) : Nat → Bytes
  | 0 => []
  | n + 1 => (FMap.get? a d.hbm.mem).getD (Config.hbmFree a) :: d.hbmBytes (a + 1) n

/-- A run of bytes as cells from address a. -/
def cellRun (a : Nat) : Bytes → List Host.Cell
  | [] => []
  | b :: l => (a, b) :: cellRun (a + 1) l

/-- Write bytes from address a; addresses stay strictly rising. -/
def cellsWrite (a : Nat) (b : Bytes) (m : List Host.Cell) : List Host.Cell :=
  (m.filter fun c => decide (c.1 < a)) ++ cellRun a b ++ m.filter fun c => decide (a + b.length ≤ c.1)

/-- The canonical form of HBM's listed bytes: addresses strictly rising. What an unlisted address reads as is a free value (log 8), so a listed byte is
never taken for one of those. -/
def Memory.wf (m : List Host.Cell) : Bool := FMap.wf m

/-- Write bytes into HBM. -/
def Dev.hbmStore (a : Nat) (b : Bytes) (d : Dev) : Dev := d.modHbm fun h => { h with mem := cellsWrite a b h.mem }

/-- n bytes of HBM as a reader finds them: the deep table's entries, little-endian (R7, R206); what the shadows hold is not laid out by
the spec. -/
def Dev.hbmRead (a n : Nat) (d : Dev) : Bytes × Dev :=
  match hbmRegion a with
  | 1 => let (v, d) := d.free (8 * n); (toLE n v, d)
  | 2 =>
    let byte (o : Nat) : Byte := BitVec.ofNat 8 (d.deepEntry (o / 32) / 256 ^ (o % 32))
    ((List.range n).map fun i => byte (a - 0x20000000 + i), d)
  | _ => (d.hbmBytes a n, d)

/-! ### Leaving and entering READY (R18, R264, R388, R483, R485, R501) -/

/-- HBM leaves READY for a state: the spill and the paddock's operations lose it, allocated buffers are POISONED. -/
def Dev.hbmLeave (st : Nat) (d : Dev) : Dev :=
  let was := d.hbmUp
  let d := d.put E.HbmState st
  let d := d.cond was fun d =>
    let d := d.spillLoss.paddockHbmLost
    d.modHbm fun h => { h with bufs := h.bufs.map fun (e : Nat × PoolBuf) => (e.1, { e.2 with poisoned := true }) }
  d.modHbm fun h => { h with asleep := if st = 4 ∨ st = 5 then List.range 64 else h.asleep }

/-- The content of every region is lost: the deep table and the spill are empty, buffers are as they are marked (R485). -/
def Dev.hbmInit (d : Dev) : Dev :=
  let d := { d with net := { d.net with deep := [], deepAlt := [] } }
  (d.put E.DeepEntries 0).modHbm fun h => { h with mem := [], order := (d.get (E.HbmAddressOrder 0), d.get (E.HbmAddressOrder 1)) }

/-- What HbmTrainingStore holds after a training: UniqueId, the stacks' identifiers, the rows and their CRC-32C (R484). -/
def Dev.trainingStore (d : Dev) : Bytes :=
  let b := toBE 8 (d.get E.UniqueId) ++ toBE 8 (Config.stackId 0).toNat ++ toBE 8 (Config.stackId 1).toNat ++
    ((List.range 64).map fun pc => toBE 16 (d.row T.HbmTraining pc)).flatten
  b ++ toBE 4 (crc32c 0xFFFFFFFF b)

/-- Whether HbmTrainingStore holds valid results (R484): its UniqueId and stack identifiers match and its CRC-32C passes. -/
def Dev.storeOk (d : Dev) : Bool :=
  let b := d.dom E.HbmTrainingStore
  b.length == 1052 && b.take 24 == d.trainingStore.take 24 && beAt b 1048 4 == crc32c 0xFFFFFFFF (b.take 1048)

/-- HBM enters READY, its content kept or its regions initialised (R483 step 3, R485). -/
def Dev.hbmReady (source : Nat) (d : Dev) : Dev :=
  let same := d.hbm.order = (d.get (E.HbmAddressOrder 0), d.get (E.HbmAddressOrder 1))
  let d := if d.hbm.keep ∧ same then d else d.hbmInit
  let d := d.modHbm fun h => { h with keep := false, session := none, asleep := [], errs := [], patrolAt := 0 }
  ((d.put E.HbmState 2).store E.HbmTrainSource source).setDom E.HbmTrainingStore d.trainingStore

/-- HBM enters FAILED for pseudo-channel pc (R483 step 4). -/
def Dev.hbmFail (pc : Nat) (d : Dev) : Dev :=
  ((d.hbmLeave 3).modHbm fun h => { h with keep := false, session := none }).report Src.hbmTrainingFailed pc

/-! ### Training (R483, R484, R486) -/

/-- HbmRetrain (R483): 1 only, in any state but TRAINING and RETAINED. -/
def Dev.hbmRetrain (v : Nat) (d : Dev) : Nat × Dev :=
  let st := d.get E.HbmState
  if v ≠ 1 ∨ st = 1 ∨ st = 5 then (Status.invalidValue, d)
  else (Status.ok, (d.hbmLeave 1).modHbm fun h => { h with keep := st == 2 || st == 4 })

/-- HbmOffline (R483): 1 only, refused unless READY; content is kept in self-refresh. -/
def Dev.hbmOffline (v : Nat) (d : Dev) : Nat × Dev :=
  if v ≠ 1 ∨ !d.hbmUp then (Status.invalidValue, d) else (Status.ok, (d.hbmLeave 4).modHbm fun h => { h with keep := true })

/-- Entry to RETAINED in shed mode: the content is kept (R485, R552). -/
def Dev.hbmRetain (d : Dev) : Dev :=
  let st := d.get E.HbmState
  (d.hbmLeave 5).modHbm fun h => { h with keep := st == 2 || st == 4 || (st == 5 && h.keep), session := none }

/-- A bank (PC * 32 + bank) still has a hard repair left (R493). -/
def Dev.bankLeft (d : Dev) (b : Nat) : Bool := decide (d.hbm.bankUsed.getD b 0 < Config.bankRepairsLeft b)

/-- BANKS_EXHAUSTED of a pseudo-channel: its banks known to have no hard repair left. -/
def Dev.banksExhausted (d : Dev) (pc : Nat) : Nat :=
  ((List.range 32).filter fun b =>
    ((d.hbm.bankUsed.get? (pc * 32 + b)).isSome || d.hbm.exhausted.contains (pc * 32 + b)) && !d.bankLeft (pc * 32 + b)).length

/-- The rows of HbmRepairPending as (PC * 32 + bank, row). -/
def pendingRows : Nat → Bytes → List (Nat × Nat)
  | 0, _ => []
  | fuel + 1, b => if b.length < 8 then [] else (beAt b 0 1 * 32 + beAt b 1 1, beAt b 2 2) :: pendingRows fuel (b.drop 8)

/-- HbmRepairPending of a list of rows (R502). -/
def pendingBytes (l : List (Nat × Nat)) : Bytes :=
  l.flatMap fun e => toBE 1 (e.1 / 32) ++ toBE 1 (e.1 % 32) ++ toBE 2 e.2 ++ [0, 0, 0, 0]

/-- The rows pending now. -/
def Dev.repairPending (d : Dev) : List (Nat × Nat) :=
  let b := d.dom E.HbmRepairPending
  pendingRows b.length b

/-- The rows in force as soft repairs change; SOFT_ACTIVE of the pseudo-channel follows (R493). -/
def Dev.setSoft (pc : Nat) (l : List Nat) (d : Dev) : Dev :=
  (d.modHbm fun h => { h with soft := l }).setRowFld T.HbmRepairs pc 31 16 (l.filter fun k => k / 2 ^ 19 == pc).length

/-- A row of a bank (PC * 32 + bank) is soft-repaired. -/
def Dev.softRepair (b row : Nat) (d : Dev) : Dev :=
  let k := b * 2 ^ 14 + row
  d.setSoft (b / 32) (if d.hbm.soft.contains k then d.hbm.soft else k :: d.hbm.soft)

/-- One pending row at a training (R493): hard-repaired, which ends its soft repair, and removed; or soft-repaired again and reported once per
bank. -/
def Dev.repairOne (e : Nat × Nat) (d : Dev) : Dev :=
  let b := e.1
  let pc := b / 32
  if d.bankLeft b then
    let d := d.modHbm fun h => { h with bankUsed := h.bankUsed.set b (h.bankUsed.getD b 0 + 1) }
    let d := d.setDom E.HbmRepairPending (pendingBytes (d.repairPending.filter (· != e)))
    let d := d.setSoft pc (d.hbm.soft.filter (· != b * 2 ^ 14 + e.2))
    let d := d.setRowFld T.HbmRepairs pc 63 48 (Row.HbmRepairs.hardUsed (d.row T.HbmRepairs pc) + 1)
    let d := d.setRowFld T.HbmRepairs pc 47 32 (Row.HbmRepairs.hardLeft (d.row T.HbmRepairs pc) - 1)
    d.setRowFld T.HbmRepairs pc 15 8 (d.banksExhausted pc)
  else
    let d := (d.softRepair b e.2).cond (!d.hbm.exhausted.contains b) fun d =>
      (d.modHbm fun h => { h with exhausted := b :: h.exhausted }).report Src.hbmRepairsExhausted b
    d.setRowFld T.HbmRepairs pc 15 8 (d.banksExhausted pc)

/-- The HbmTraining row of pseudo-channel pc after a training (R483, R486): the stored results where those passed, else what it measured. -/
def Dev.trainedRow (d : Dev) (stored : Bool) (failing : Option Nat) (pc row : Nat) : Nat :=
  let r := if stored then beAt (d.dom E.HbmTrainingStore) (24 + 16 * pc) 16 else row
  (if failing = some pc then 0 else 2 ^ 127) + fld r 119 64 * 2 ^ 64

/-- HBM_TRAINING_DONE: the built-in sequence ends with a row for each pseudo-channel, or with one that failed (R483). The first training after
T0 begins by itself, so it may end in UNTRAINED. `stored`: valid stored results passed the check on every pseudo-channel (R483, R484). -/
def Dev.trainingEnd (rows : List Nat) (failing : Option Nat) (stored : Bool) (us : Nat) (d : Dev) : Dev :=
  let st := d.get E.HbmState
  if (st ≠ 0 ∧ st ≠ 1) ∨ d.hbm.session.isSome then d
  else
    let stored := stored && d.storeOk
    let d := d.each ((List.range 64).zip rows) fun e d => d.setRow T.HbmTraining e.1 (d.trainedRow stored failing e.1 e.2)
    let d := (d.store E.HbmTrainTimeUs us).store E.HbmTrainSource (if stored then 1 else 2)
    let d := d.each d.repairPending Dev.repairOne
    match failing with
    | some pc => d.hbmFail pc
    | none => d.hbmReady (if stored then 1 else 2)

/-- Whether an HbmTrainCommand is well formed for an OP (R486): cmd is its 24 bytes as a number. -/
def trainCommandOk (op cmd : Nat) : Bool :=
  let start := fld cmd 127 96
  let count := fld cmd 95 64
  fld cmd 191 184 == op && decide (fld cmd 183 176 < 64) && decide (fld cmd 175 168 ≤ 5) && fld cmd 167 160 == 0 &&
    (if op = 1 then fld cmd 63 56 == 0 else fld cmd 63 0 == 0) &&
    (!(op == 2 || op == 3 || op == 4) || (decide (1 ≤ count) && decide (start + count ≤ 2097152)))

/-- Firmware-driven training ends (R486): every row VALID goes on at step 3 of R483, otherwise FAILED. -/
def Dev.sessionEnd (d : Dev) : Dev :=
  match (List.range 64).find? fun pc => Row.HbmTraining.valid (d.row T.HbmTraining pc) == 0 with
  | some pc => d.hbmFail pc
  | none => (d.modHbm fun h => { h with keep := false }).hbmReady 3

/-- An HbmTrainCommand (R486): accepted in UNTRAINED, FAILED and OFFLINE, and while the session it opens lasts. -/
def Dev.trainCommand (master op cmd failBlocks failBits : Nat) (d : Dev) : Nat × Dev :=
  let st := d.get E.HbmState
  if !trainCommandOk op cmd || !(st == 0 || st == 3 || st == 4 || d.hbm.session.isSome) then (Status.invalidValue, d)
  else
    let pc := fld cmd 183 176
    let d := d.cond d.hbm.session.isNone fun d => (d.put E.HbmState 1).store E.HbmTrainSource 3
    let res := pc * 2 ^ 112 + (if op = 3 ∨ op = 4 then failBlocks % 2 ^ 32 * 2 ^ 64 + failBits % 2 ^ 40 else 0)
    let d := d.modHbm fun h => { h with session := some d.now, results := h.results.set master res }
    let d := d.cond (op == 1) (Dev.setRow T.HbmTraining pc (2 ^ 127 + fld cmd 55 0 * 2 ^ 64))
    (Status.ok, d.cond (op == 5) Dev.sessionEnd)

/-- HBM_TRAIN_SESSION_TIMEOUT: no command for 1 s (R486). -/
def Dev.sessionTimeout (d : Dev) : Dev :=
  match d.hbm.session with
  | some x => if x + 8000000000 ≤ d.now then d.sessionEnd else d
  | none => d

/-- HBM at shed exit (R554): READY with its content where that was kept and its checks pass, else trained again (R483). -/
def Dev.hbmResume (checks : Bool) (d : Dev) : Dev :=
  if d.get E.HbmState = 5 then
    if d.hbm.keep && checks then d.hbmReady (d.get E.HbmTrainSource) else (d.modHbm fun h => { h with keep := false }).put E.HbmState 1
  else d

/-! ### Refresh, self-refresh and slices (R487 to R489) -/

/-- HBM_REFRESH (R487): postponed for traffic below HbmRefreshPostponeMax, else made, for the bank or for all banks by HbmRefreshMode. -/
def Dev.refresh (pc bank : Nat) (postpone : Bool) (d : Dev) : Dev :=
  if !d.hbmUp || d.hbm.asleep.contains pc then d
  else
    let banks := if d.get E.HbmRefreshMode = 0 then List.range 32 else [bank]
    let n (b : Nat) : Nat := d.hbm.postponed.getD (pc * 32 + b) 0
    if postpone && banks.all fun b => decide (n b < d.get E.HbmRefreshPostponeMax) then
      d.modHbm fun h => { h with postponed := banks.foldl (fun m b => m.set (pc * 32 + b) (n b + 1)) h.postponed }
    else d.modHbm fun h => { h with postponed := banks.foldl (fun m b => m.erase (pc * 32 + b)) h.postponed }

/-- HBM_TEMP_READ (R487). -/
def Dev.tempRead (t0 t1 : Int) (d : Dev) : Dev := (d.put (E.HbmStackTempC 0) (enc 32 t0)).put (E.HbmStackTempC 1) (enc 32 t1)

/-- HBM_SELF_REFRESH_ENTRY (R488): 0 disables idle self-refresh. -/
def Dev.selfRefresh (pc : Nat) (d : Dev) : Dev :=
  if d.hbmUp && d.get E.HbmIdleSelfRefreshUs != 0 then
    d.modHbm fun h => { h with
      asleep := if h.asleep.contains pc then h.asleep else pc :: h.asleep
      postponed := h.postponed.filter fun (e : Nat × Nat) => e.1 / 32 != pc }
  else d

/-- HBM_SELF_REFRESH_WAKE (R488). -/
def Dev.selfWake (pc : Nat) (d : Dev) : Dev := d.cond d.hbmUp (Dev.modHbm fun h => { h with asleep := h.asleep.filter (· != pc) })

/-- A delay moved by at most one step. -/
def oneStep (v : Nat) (s : Int) : Nat := (clampInt (v + clampInt s (-1) 1) 0 255).toNat

/-- HBM_RETRAIN_SLICE (R489): the eyes measured and the delays moved; a narrow eye is class C, a lost one takes HBM out of service. The
grooming engine finds them (R529, R533). -/
def Dev.retrainSlice (pc rd wr : Nat) (rdStep wrStep : Int) (d : Dev) : Dev :=
  if !d.hbmUp then d
  else
    let r := d.row T.HbmTraining pc
    let r := setFld (setFld r 87 80 rd) 79 72 wr
    let r := setFld (setFld r 103 96 (oneStep (Row.HbmTraining.rdDelay r) rdStep)) 111 104 (oneStep (Row.HbmTraining.wrDelay r) wrStep)
    let d := d.setRow T.HbmTraining pc r
    if rd = 0 ∨ wr = 0 then ((d.hbmLeave 3).modHbm fun h => { h with keep := false }).reportBy Src.hbmEyeLost pc 0x39 0
    else d.cond (decide (rd < 16) || decide (wr < 16)) fun d => (d.inc E.HbmNarrowEyes).reportBy Src.hbmNarrowEye pc 0x39 0

/-! ### Errors, patrol and repair (R490 to R493) -/

/-- A corrected error is charged to its row, in a table of 4,096 rows that loses the row with the lowest count (R493). -/
def Dev.chargeRow (a : Nat) (d : Dev) : Dev :=
  let (pc, bank, row) := d.hbmPlace a
  let k := (pc * 32 + bank) * 2 ^ 14 + row
  d.modHbm fun h =>
    let n := h.errs.getD k 0
    let m := if n = 0 ∧ 4096 ≤ h.errs.length then
        match h.errs with
        | [] => h.errs
        | e :: l => h.errs.erase (l.foldl (fun (m : Nat × Nat) e => if e.2 < m.2 then e else m) e).1
      else h.errs
    { h with errs := m.set k (n + 1) }

/-- A corrected error at address a (R490). -/
def Dev.hbmSingle (a master access : Nat) (d : Dev) : Dev := ((d.inc E.HbmCorrected).reportBy Src.hbmCorrected a master access).chargeRow a

/-- The pool and index of the buffer that holds an address (R496). -/
def bufferAt (a : Nat) : Option Nat :=
  let in' (base size n pool : Nat) : Option Nat := if base ≤ a ∧ a < base + size * n then some (pool * 2 ^ 20 + (a - base) / size) else none
  (in' 0x40000000 256 1048576 0).or ((in' 0x50000000 2048 262144 1).or ((in' 0x70000000 10240 65536 2).or (in' 0x98000000 65536 8192 3)))

/-- A spilled frame is lost to an error in its memory (R491); which of the spilled frames lies there the spec leaves open. -/
def Dev.spillHit (d : Dev) : Dev :=
  let all := d.net.queues.flatMap fun q => (q.2.filter fun e => e.part == 2).map fun e => (q.1, e)
  if all.isEmpty then d
  else
    let (n, d) := d.free 32
    match all[n % all.length]? with
    | some (r, e) => (((d.setQueue r ((d.queue r).filter (· != e))).add E.SpillLost 1).report Src.spillLost r).settle e.frame
    | none => d

/-- An uncorrected error at address a, found by a master (R491). -/
def Dev.hbmDouble (a master access : Nat) (d : Dev) : Dev :=
  let d := (d.inc E.HbmUncorrected).reportBy Src.hbmUncorrected a master access
  match hbmRegion a with
  | 2 => d.deepLost ((a - 0x20000000) / 128)
  | 3 => match bufferAt a with
    | some b => d.modHbm fun h => { h with bufs := h.bufs.map fun (e : Nat × PoolBuf) => if e.1 = b then (e.1, { e.2 with poisoned := true }) else e }
    | none => d
  | 5 => d.spillHit
  | _ => d

/-- HBM_PATROL_READ (R490): paused while throttled (R558); a read below the last one begins a new pass, whose row counts start again. -/
def Dev.patrol (a : Nat) (ecc : EccResult) (d : Dev) : Dev :=
  if !d.hbmUp || d.get E.ThrottleLevel != 0 then d
  else
    let d := d.modHbm fun h => { h with patrolAt := a, errs := if a < h.patrolAt then [] else h.errs }
    match ecc with
    | .clean => d
    | .corrected => d.hbmSingle a 0x39 0
    | .uncorrected => d.hbmDouble a 0x39 0

/-! ### Deep work (R384, R387, R491) -/

/-- The paddock reads the primary bucket of a key with an ECC result (R490, R491). -/
def Dev.bucketRead (key : Nat) (ecc : EccResult) (d : Dev) : Dev :=
  let a := 0x20000000 + deepPrimary key * 128
  match ecc with
  | .clean => d
  | .corrected => d.hbmSingle a 0x38 0
  | .uncorrected => d.hbmDouble a 0x38 0

/-- DEEP_SEARCH_COMPLETE: every key is searched. The ECC result is of the primary bucket of the first: with an uncorrected error it is a miss,
whose alternate is not read, and the bucket is lost (R491). -/
def Dev.deepSearchDone (n : Nat) (ecc : EccResult) (d : Dev) : Dev :=
  d.deepGuard n 1 fun d =>
    let s := d.slot n
    let first := (s.keys.head?.map (·.2)).getD 0
    let found := s.keys.map fun (q : Nat × Nat) =>
      if ecc = .uncorrected ∧ deepPrimary q.2 = deepPrimary first then (q.1, (none : Option Nat), false)
      else
        let r := d.deepFind q.2
        (q.1, r.1.map fun e => d.net.deep.getD e 0, r.2)
    let d := (d.bucketRead first ecc).add E.DeepHits (found.filter fun r => r.2.1.isSome).length
    d.slotDone n fun s => { s with hits := found.map fun (r : Nat × Option Nat × Bool) => (r.1, r.2.1), alt := found.any fun r => r.2.2 }

/-- What a master's deep insert, delete or read does. The data of a write is the 31 bytes of DeepInsert, or the 21 of DeepDelete above bit
256. -/
def Dev.deepAccess (n : Nat) (d : Dev) : Dev :=
  let s := d.slot n
  if s.kind = 5 then
    let v := ((d.deepFind s.data).1.map fun e => d.deepEntry e).getD 0
    d.slotDone n fun s => { s with data := v }
  else if 2 ^ 256 ≤ s.data then
    let d := match (d.deepFind s.accessKey).1 with
      | some e => d.deepClear e
      | none => d
    d.slotDone n id
  else
    let key := s.accessKey
    if (d.deepFind key).1.isSome then d.slotDone n fun s => { s with status := Status.duplicate }
    else match d.deepInsert key (s.data % 2 ^ 80) with
      | (true, d) => d.slotDone n id
      | (false, d) => d.slotDone n fun s => { s with status := Status.full }

/-- DEEP_ACCESS_COMPLETE: an uncorrected error of the primary bucket answers DATA_ERROR (R40). -/
def Dev.deepAccessDone (n : Nat) (ecc : EccResult) (d : Dev) : Dev :=
  d.deepGuard n (if (d.slot n).kind = 5 then 5 else 4) fun d =>
    let d := d.bucketRead (d.slot n).accessKey ecc
    if ecc = .uncorrected then d.slotDone n fun s => { s with status := Status.dataError } else d.deepAccess n

/-- HBM_ROW_REPAIR (R493): a row that reached RowRepairThreshold in this pass is soft-repaired and becomes pending. -/
def Dev.rowRepair (pc bank row : Nat) (d : Dev) : Dev :=
  let b := pc * 32 + bank
  let k := b * 2 ^ 14 + row
  if d.hbmUp && decide (d.get E.RowRepairThreshold ≤ d.hbm.errs.getD k 0) then
    let d := d.modHbm fun h => { h with errs := h.errs.erase k }
    let d := d.softRepair b row
    let l := d.repairPending
    d.cond (!l.contains (b, row)) (Dev.setDom E.HbmRepairPending (pendingBytes (l ++ [(b, row)])))
  else d

/-- BUFFER_CELL_PATROL (R492): a failing cell is replaced while one of 1,024 spares is left; class U once when none is. -/
def Dev.cellPatrol (cell : Nat) (bad : Bool) (d : Dev) : Dev :=
  if !bad then d
  else if d.get E.BufferCellsReplaced < 1024 then d.inc E.BufferCellsReplaced
  else d.cond (!d.hbm.noSpare) fun d => (d.modHbm fun h => { h with noSpare := true }).reportBy Src.bufferSparesExhausted cell 0x39 0

/-- LANE_EYE_MARGIN_UPDATE (R495): the row of a lane of a port. -/
def Dev.laneMargin (lane h v : Nat) (d : Dev) : Dev := d.setRow T.LaneEyeMargin lane (h % 65536 * 65536 + v % 65536)

/-! ### The commands -/

/-- DEEP_SEARCH_COMPLETE (R384). -/
def execDeepSearchComplete (x n : Nat) (ecc : EccResult) (s : State) : Host.Outcome State Fault Refusal := s.live x (Dev.deepSearchDone n ecc)
/-- DEEP_ACCESS_COMPLETE (R384). -/
def execDeepAccessComplete (x : Nat) (acc : SlotRead) (s : State) : Host.Outcome State Fault Refusal := s.live x (Dev.deepAccessDone acc.slot acc.ecc)

/-- HBM_TRAINING_DONE (R483). -/
def execHbmTrainingDone (x : Nat) (results : List Nat) (failing : Option Nat) (stored : Bool) (timeUs : Nat) (s : State) :
    Host.Outcome State Fault Refusal := s.live x (Dev.trainingEnd results failing stored timeUs)
/-- HBM_TRAIN_SESSION_TIMEOUT (R486). -/
def execHbmTrainSessionTimeout (x : Nat) (s : State) : Host.Outcome State Fault Refusal := s.live x Dev.sessionTimeout
/-- HBM_RETRAIN_SLICE (R489). -/
def execHbmRetrainSlice (x pc rdEye wrEye : Nat) (rdStep wrStep : Int) (s : State) : Host.Outcome State Fault Refusal :=
  s.live x (Dev.retrainSlice pc rdEye wrEye rdStep wrStep)
/-- HBM_REFRESH (R487). -/
def execHbmRefresh (x pc bank : Nat) (postpone : Bool) (s : State) : Host.Outcome State Fault Refusal := s.live x (Dev.refresh pc bank postpone)
/-- HBM_TEMP_READ (R487). -/
def execHbmTempRead (x : Nat) (t0 t1 : Int) (s : State) : Host.Outcome State Fault Refusal := s.live x (Dev.tempRead t0 t1)
/-- HBM_SELF_REFRESH_ENTRY (R488). -/
def execHbmSelfRefreshEntry (x pc : Nat) (s : State) : Host.Outcome State Fault Refusal := s.live x (Dev.selfRefresh pc)
/-- HBM_SELF_REFRESH_WAKE (R488). -/
def execHbmSelfRefreshWake (x pc : Nat) (s : State) : Host.Outcome State Fault Refusal := s.live x (Dev.selfWake pc)
/-- HBM_PATROL_READ (R490). -/
def execHbmPatrolRead (x addr : Nat) (ecc : EccResult) (s : State) : Host.Outcome State Fault Refusal := s.live x (Dev.patrol addr ecc)
/-- HBM_ROW_REPAIR (R493). -/
def execHbmRowRepair (x pc bank row : Nat) (s : State) : Host.Outcome State Fault Refusal := s.live x (Dev.rowRepair pc bank row)
/-- BUFFER_CELL_PATROL (R492). -/
def execBufferCellPatrol (x cell : Nat) (bad : Bool) (s : State) : Host.Outcome State Fault Refusal := s.live x (Dev.cellPatrol cell bad)
/-- LANE_EYE_MARGIN_UPDATE (R495). -/
def execLaneEyeMarginUpdate (x lane hMui vMv : Nat) (s : State) : Host.Outcome State Fault Refusal := s.live x (Dev.laneMargin lane hMui vMv)

end Sys2Proof.Machine
end

