-- ==== Sys2Proof/Machine/Pair.lean ====
section
/-!
DEFINITION. The redundant pair (R395 to R412): ownership of the shared set, the heartbeat and its check, the takeover, the mirror's sending
side and a resync. Receiving tether frames is in Sys2Proof/Machine/TetherFrames.lean.
-/
namespace Sys2Proof.Machine

/-! ### Ownership (R406 to R408, R412) -/

/-- OWN_REQ takes a level. -/
def Dev.ownReqSet (b : Bool) (d : Dev) : Dev :=
  if d.pair.ownReq = b then d else (d.modPair fun p => { p with ownReq := b }).emit (.pin d.now "OWN_REQ" b)

/-- The balls of every shared OUTPUT line follow the ownership. -/
def Dev.sharedLines (d : Dev) : Dev :=
  d.each ((List.range 56).filter fun l => d.isOutput l && Row.YardLines.shared (d.yrow l) == 1) fun l d => d.driveLine l d.outTime

/-- The process ports of the shared set. -/
def Dev.sharedPorts (d : Dev) : List Nat := (List.range 8).filter fun pp => Row.PpConfig.shared (d.ppRow pp) == 1

/-- The balls of every shared port follow the ownership. -/
def Dev.sharedShow (d : Dev) : Dev := d.sharedLines.each d.sharedPorts Dev.ppShow

/-- Transfers in progress on the shared ports are abandoned (R408). -/
def Dev.abandonShared (d : Dev) : Dev := d.each d.sharedPorts fun pp d =>
  d.modYard fun y => { y with busy := y.busy.erase pp, shift := y.shift.erase pp }

/-- The member stops driving: shared lines at high impedance, transfers abandoned, words evaluated for the ports not installed (R407, R408). -/
def Dev.ownLose (st : Nat) (d : Dev) : Dev :=
  let d := (d.put E.OwnState st).abandonShared
  let shared := d.sharedPorts
  let d := d.modYard fun y => { y with next := y.next.filter fun (e : Nat × NextWord) => !shared.contains (e.1 / 64) }
  let d := d.each ((List.range 56).filter fun l => Row.YardLines.shared (d.yrow l) == 1) fun l d => d.setLine l { d.line l with active := false }
  d.sharedLines.ppStates

/-- Role B yields while OWN_GNT is high (R407). -/
def Dev.ownYield (d : Dev) : Dev :=
  let st := d.get E.OwnState
  if d.pair.ownGnt && d.get E.PairRole == 2 && (st == 1 || st == 2) then (d.ownLose 3).modPair fun p => { p with yieldX := d.now }
  else d

/-- NOT_OWNER enters CLAIMING (R407): OWN_REQ high; the settling time runs while OWN_GNT is low. -/
def Dev.ownEnterClaim (takeover : Bool) (d : Dev) : Dev :=
  if d.get E.OwnState = 0 then
    let d := (d.put E.OwnState 1).modPair fun p => { p with claimX := d.now, viaTakeover := takeover, release := false }
    (d.ownReqSet true).ownYield
  else d

/-- Word w of a shared port is seeded from its mirrored state (R412). -/
def Dev.seedWord (pp w : Nat) (m : Nat × Nat × Nat × Nat) (d : Dev) : Dev :=
  let i := pp * 64 + w
  let miss := if m.2.2.2 = 2 ∨ m.2.2.2 = 3 then Row.SetpointLimits.staleTicks (d.limits i) + 1 else m.2.2.1
  d.installWord i { out := m.1, tgt := m.2.1, miss, st := wordState miss (Row.SetpointLimits.staleTicks (d.limits i)) m.1 (Row.SetpointLimits.safe (d.limits i)), forced := false }

/-- A shared port of a member that becomes OWNER through a takeover (R412). -/
def Dev.seedPort (pp : Nat) (d : Dev) : Dev :=
  let fresh := (d.pair.words.get? pp).filter fun m => decide (d.get E.LastTakeoverTick ≤ m.tick + d.get E.MirrorMaxAgeTicks)
  match fresh with
  | some m => d.each ((List.range 64).zip m.words) fun e d => d.seedWord pp e.1 e.2
  | none => ((d.portWordsInit pp).inc E.TakeoverStale).report Src.takeoverStale pp

/-- OWN_SETTLE_EXPIRY: OWN_GNT has been low for OwnSettleNs while CLAIMING (R407). -/
def Dev.ownSettle (d : Dev) : Dev :=
  if d.get E.OwnState = 1 ∧ !d.pair.ownGnt ∧ d.pair.claimX + 8 * d.get E.OwnSettleNs ≤ d.now then
    let d := (((d.put E.OwnState 2).inc E.OwnChanges).pairEvent 6 0).ppStates
    let d := d.cond d.pair.viaTakeover fun d =>
      d.each (d.sharedPorts.filter fun pp => Row.PpConfig.enable (d.ppRow pp) == 1) Dev.seedPort
    (d.modPair fun p => { p with viaTakeover := false }).sharedLines
  else d

/-- YIELD_COMPLETE: 200 ns after yielding (R407). -/
def Dev.yieldComplete (d : Dev) : Dev :=
  if d.get E.OwnState = 3 ∧ d.pair.yieldX + 1600 ≤ d.now then
    (((d.put E.OwnState 0).inc E.OwnYields).pairEvent 7 0).ownReqSet false
  else d

/-- The mate's claim rises (R407): role B yields; no member drives the shared set meanwhile. -/
def Dev.gntHigh (d : Dev) : Dev :=
  let d := (d.modPair fun p => { p with ownGnt := true }).ownYield
  d.cond d.owner fun d => d.abandonShared.sharedShow

/-- The mate's claim falls: the settling time of a claiming member starts again; an OWNER drives its lines. -/
def Dev.gntLow (d : Dev) : Dev :=
  let d := d.modPair fun p => { p with ownGnt := false, claimX := d.now }
  d.cond d.owner Dev.sharedShow

/-- OwnClaim (R407): 1 only. -/
def Dev.ownClaim (v : Nat) (d : Dev) : Nat × Dev := if v = 1 then (Status.ok, d.ownEnterClaim false) else (Status.invalidValue, d)

/-- OwnRelease (R407): 1 only; it takes effect at the next boundary. -/
def Dev.ownRelease (v : Nat) (d : Dev) : Nat × Dev :=
  if v = 1 then (Status.ok, d.modPair fun p => { p with release := d.get E.OwnState == 1 || d.get E.OwnState == 2 }) else (Status.invalidValue, d)

/-- A written release is taken at a boundary. -/
def Dev.ownReleaseDuty (d : Dev) : Dev :=
  let st := d.get E.OwnState
  if d.pair.release && (st == 1 || st == 2) then
    ((d.ownLose 0).pairEvent 7 0).ownReqSet false |>.modPair fun p => { p with release := false }
  else d.modPair fun p => { p with release := false }

/-- OwnStartClaim at the first boundary after PairEnable (R407). -/
def Dev.ownStartDuty (d : Dev) : Dev :=
  if d.getB E.PairEnable && !d.pair.startDone then
    let d := d.modPair fun p => { p with startDone := true }
    d.cond (d.getB E.OwnStartClaim) (Dev.ownEnterClaim false)
  else d

/-- OWN_REQ falls and the shared outputs go to high impedance, as on entry to stabled mode (R406, R555). -/
def Dev.ownDrop (d : Dev) : Dev := (d.cond (d.get E.OwnState != 0) (Dev.ownLose 0)).ownReqSet false

/-! ### The mirror (R403, R405) -/

/-- The RECOVERY record of function n with state st (R398). -/
def recoveryRecord (n : Nat) (st : RecSt) : Bytes :=
  tetherRec 3 (toBE 2 n ++ toBE 1 (st.takeAny.toNat * 128) ++ [0] ++ toBE 2 st.seq ++ [0, 0] ++ toBE 16 st.history)

/-- The SERVO record at a boundary (R398): each domain's state, lock, rate and time at the boundary. -/
def Dev.servoRecord (d : Dev) : Bytes :=
  let dom (i : Nat) : Bytes := toBE 1 (d.get (E.DomainState i)) ++ toBE 1 (d.get (E.Locked i)) ++ [0, 0] ++ toBE 8 (d.get (E.RateWord i)) ++
    toBE 12 (toTimex (d.domainTime i d.time.boundX))
  tetherRec 6 (dom 0 ++ dom 1)

/-- Whether function n is marked in MirrorRecoveryMask. -/
def Dev.recMarked (d : Dev) (n : Nat) : Bool := bit (d.row T.MirrorRecoveryMask n) 0

/-- At a boundary: SERVO, and the RECOVERY records of at most 512 marked functions that changed, oldest first (R403). -/
def Dev.mirrorDuty (d : Dev) : Dev :=
  if !d.mirroring then d
  else
    let d := d.cond (d.getB E.MirrorServo) fun d => d.mirror d.servoRecord
    let dirty := d.pair.recDirty.filter d.recMarked
    let d := d.each (dirty.take 512) fun n d => d.mirror (recoveryRecord n (d.net.recs.getD n {}))
    d.modPair fun p => { p with recDirty := dirty.drop 512 }

/-- MirrorResync (R405): every learned L2 entry and every marked function's state is sent again. -/
def Dev.mirrorResync (v : Nat) (d : Dev) : Nat × Dev :=
  if v ≠ 1 ∨ d.get E.MateState ≠ 1 then (Status.invalidValue, d)
  else
    let d := d.put E.MirrorState 1
    let d := d.upto 8 fun pl d => d.each (d.l2Learned pl) fun (e : Nat × Nat) d =>
      d.mirror (tetherRec 2 (toBE 1 pl ++ [1] ++ toBE 2 (Row.L2Rows.fid e.2) ++ toBE 6 (Row.L2Rows.mac e.2) ++ toBE 2 (l2Dest e.2) ++ toBE 4 0))
    (Status.ok, d.each (d.net.recs.filter fun e => d.recMarked e.1) fun (e : Nat × RecSt) d => d.mirror (recoveryRecord e.1 e.2))

/-- MIRROR_RESYNC_DONE (R405): SYNCED, unless something was lost meanwhile. -/
def Dev.resyncDone (d : Dev) : Dev := if d.get E.MirrorState = 1 ∧ d.pair.sendQ = [] then d.put E.MirrorState 2 else d

/-! ### Heartbeat (R400 to R402) -/

/-- The HEARTBEAT record (R398). -/
def Dev.heartbeatRecord (d : Dev) : Bytes :=
  let st := (d.get E.MateState == 1).toNat * 128 + d.pair.ownReq.toNat * 64 + d.owner.toNat * 32 + (d.getB E.TakeoverArmed).toNat * 16 +
    d.yardSafe.toNat * 8 + d.get E.MirrorState * 2
  let dom := d.get (E.DomainState 0) * 64 + d.get (E.Locked 0) * 32 + d.get (E.DomainState 1) * 8 + d.get (E.Locked 1) * 4 + d.get E.OutputDomain * 2
  tetherRec 1 (toBE 1 st ++ [0] ++ toBE 2 (d.get E.NodeId) ++ toBE 8 (d.get E.UniqueId) ++
    toBE 12 (toTimex ((d.time.boundT : Int) * 65536)) ++ toBE 1 dom ++ [0, 0, 0])

/-- HEARTBEAT_SEND: PAIR_HB_OUT toggles and a frame goes out whose first record is HEARTBEAT, records that wait behind it (R400). -/
def Dev.heartbeatSend (d : Dev) : Dev :=
  if !d.getB E.PairEnable then d
  else
    let out := !d.pair.hbOut
    let d := (d.modPair fun p => { p with hbOut := out }).emit (.pin d.now "PAIR_HB_OUT" out)
    let hb := d.heartbeatRecord
    let more := if d.tetherReady then fitRecords 254 (8984 - hb.length) d.pair.sendQ else []
    ((d.modPair fun p => { p with sendQ := p.sendQ.drop more.length }).tetherPdu (hb :: more)).tetherFlush (d.pair.sendQ.length + 1)

/-- The paths that a member has: PAIR_HB_IN and its tether ports (R401). -/
def Dev.paths (d : Dev) : List Nat := [0, 1] ++ (if d.get E.TetherPortB < 96 then [2] else [])

/-- A path delivered a heartbeat in the tick in progress. -/
def Dev.pathAlive (path : Nat) (d : Dev) : Dev :=
  d.modPair fun p => { p with alive := if p.alive.contains path then p.alive else path :: p.alive }

/-- The mate is ALIVE (R401, R402, R405, R411): an assumed node is given up, the mirror is SYNCED anew. -/
def Dev.mateAlive (d : Dev) : Dev :=
  if d.get E.MateState = 1 then d
  else (((d.put E.MateState 1).pairEvent 1 0).put E.AssumedNodeId 0).put E.MirrorState 2

/-- HEARTBEAT_CHECK at a boundary: the tick just ended on each path (R401). -/
def Dev.heartbeatCheck (d : Dev) : Dev :=
  if !d.getB E.PairEnable then d
  else
    let alive := d.pair.alive.filter d.paths.contains
    let mate := d.get E.MateState == 1
    let silent (p : PairSt) (k : Nat) : Nat := if alive.contains k || !mate then 0 else p.silent.getD k 0 + 1
    let d := d.modPair fun p => { p with
      silent := [(0, silent p 0), (1, silent p 1), (2, silent p 2)]
      flagged := p.flagged.filter fun k => !alive.contains k
      miss := if alive.isEmpty then p.miss + 1 else 0
      alive := [] }
    let d := d.put E.HbPaths (alive.foldl (fun m k => setBit m k true) 0)
    d.cond (!alive.isEmpty && !d.pair.badRole) Dev.mateAlive

/-- PATH_SILENT (R402): a path silent for HbMissLimit ticks while the mate is ALIVE, once. -/
def Dev.pathSilent (k : Nat) (d : Dev) : Dev :=
  if d.get E.MateState = 1 ∧ d.paths.contains k ∧ !d.pair.flagged.contains k ∧ d.get E.HbMissLimit ≤ d.pair.silent.getD k 0 then
    let d := (d.modPair fun p => { p with flagged := k :: p.flagged }).inc (if k = 0 then E.HbMissSideband else E.HbMissTether)
    (d.pairEvent 3 (2 ^ k)).report Src.pairPathSilent (2 ^ k)
  else d

/-! ### Takeover (R409 to R411) -/

/-- The member disarms. -/
def Dev.disarm (d : Dev) : Dev := d.putB E.TakeoverArmed false

/-- TakeoverArm (R409). -/
def Dev.takeoverArm (v : Nat) (d : Dev) : Nat × Dev :=
  if v = 0 then (Status.ok, d.disarm)
  else if v = 1 ∧ d.getB E.PairEnable ∧ d.get E.MateState = 1 then (Status.ok, d.putB E.TakeoverArmed true)
  else (Status.invalidValue, d)

/-- A write of PortEnable (R112, R121 to R123): the port leaves or takes DISABLED, and so do the ports that its mode absorbs. -/
def Dev.portEnable (p : Nat) (b : Bool) (d : Dev) : Dev :=
  let d := d.putB (E.PortEnable p) b
  let d := if d.portHeld p then d.cond (d.get (E.PortState p) != 0) (Dev.portDisable p) else d.portRelease p
  d.absorbUpdate

/-- The takeover plan is executed at boundary n (R411); a write of true is refused on an absorbed port (R115). -/
def Dev.takeover (d : Dev) : Dev :=
  let plan := d.dom E.TakeoverPlan
  let flags := beAt plan 0 1
  let n := d.tickNow
  let d := d.cond (bit flags 5) fun d =>
    d.each (d.pair.shadow.filter fun e => d.recMarked e.1 && (d.net.recs.getD e.1 {}).takeAny) fun (e : Nat × RecSt) d =>
      { d with net := { d.net with recs := d.net.recs.set e.1 { e.2 with last := d.net.bounds } } }
  let ports := beAt plan 8 8 + beAt plan 16 8 * 2 ^ 64
  let d := d.each ((List.range 96).filter (bit ports)) fun p d => d.cond (!d.absorbed p) fun d => (d.portEnable p true).store E.Modified 1
  let d := d.cond (bit flags 6) fun d => d.put E.AssumedNodeId (d.get E.MateNodeId)
  let d := d.cond (bit flags 7) (Dev.ownEnterClaim true)
  let d := ((d.inc E.Takeovers).store E.LastTakeoverTick n).disarm
  (d.pairEvent 5 0).report Src.takeover (n % 2 ^ 32)

/-- MATE_LOST (R401, R402, R411): MISS_COUNT has reached HbMissLimit of an ALIVE mate; an armed member takes over. -/
def Dev.mateLost (d : Dev) : Dev :=
  if d.get E.MateState = 1 ∧ d.get E.HbMissLimit ≤ d.pair.miss then
    let d := ((d.put E.MateState 2).put E.MirrorState 0).pairEvent 2 0
    let d := d.report Src.mateLost 0
    d.cond (d.getB E.TakeoverArmed) Dev.takeover
  else d

/-- A HEARTBEAT that carries the member's own role (R402). -/
def Dev.roleConflict (d : Dev) : Dev :=
  if d.pair.badRole then d
  else
    let d := (d.modPair fun p => { p with badRole := true, miss := 0 }).disarm
    ((((d.put E.MateState 0).put E.MirrorState 0).pairEvent 4 0)).report Src.roleConflict 0

/-- PairEnable is written (R395, R405, R409): a pair that ends disarms; the mate starts UNKNOWN and the tether anew. -/
def Dev.pairSwitch (b : Bool) (d : Dev) : Dev :=
  if d.getB E.PairEnable = b then d
  else
    let d := d.putB E.PairEnable b
    let d := d.modPair fun p => { p with
      sendQ := [], high := none, window := 0, applied := none, held := [], alive := [], silent := [], flagged := [], miss := 0, badRole := false
      startDone := false }
    ((d.put E.MateState 0).put E.MirrorState 0).cond (!b) fun d => d.disarm.put E.AssumedNodeId 0

/-- The pair's part of the last duty of a boundary (R19, R400, R401, R407). -/
def Dev.pairDuty (d : Dev) : Dev := ((d.ownReleaseDuty.ownStartDuty).mirrorDuty).heartbeatSend.heartbeatCheck

/-! ### The commands -/

/-- MATE_LOST (R401). -/
def execMateLost (x : Nat) (s : State) : Host.Outcome State Fault Refusal := s.live x Dev.mateLost
/-- PATH_SILENT (R402). -/
def execPathSilent (x path : Nat) (s : State) : Host.Outcome State Fault Refusal := s.live x (Dev.pathSilent path)
/-- MIRROR_RESYNC_DONE (R405). -/
def execMirrorResyncDone (x : Nat) (s : State) : Host.Outcome State Fault Refusal := s.live x Dev.resyncDone
/-- OWN_GNT_HIGH (R407). -/
def execOwnGntHigh (x : Nat) (s : State) : Host.Outcome State Fault Refusal := s.live x Dev.gntHigh
/-- OWN_GNT_LOW (R407). -/
def execOwnGntLow (x : Nat) (s : State) : Host.Outcome State Fault Refusal := s.live x Dev.gntLow
/-- OWN_SETTLE_EXPIRY (R407). -/
def execOwnSettleExpiry (x : Nat) (s : State) : Host.Outcome State Fault Refusal := s.live x Dev.ownSettle
/-- YIELD_COMPLETE (R407). -/
def execYieldComplete (x : Nat) (s : State) : Host.Outcome State Fault Refusal := s.live x Dev.yieldComplete
/-- PAIR_HB_IN_TOGGLE (R401). -/
def execPairHbInToggle (x : Nat) (s : State) : Host.Outcome State Fault Refusal := s.live x (Dev.pathAlive 0)

end Sys2Proof.Machine
end

