-- ==== Sys2Proof/Machine/Resets.lean ====
section
/-!
DEFINITION. Resets: of the host function (R431, R441 to R446), of the management cores, of a tick-core pair (R436, R460), and the start of
the device itself (R436, R531, R542, R543, R557), with what each leaves standing.
-/
namespace Sys2Proof.Machine

/-! ### The host function (R431) -/

/-- A sweep of set s is skipped (R509): counted, carried by its next record; the first after a sweep that was not skipped raises class T where
`fault`. -/
def Dev.sweepSkip (s : Nat) (fault : Bool) (d : Dev) : Dev :=
  let d := d.inc (E.SweepSkipped s)
  let first := !d.tele.skipping.contains s
  let d := { d with tele := { d.tele with
    skips := d.tele.skips.set s (min (2 ^ 32 - 1) (d.tele.skips.getD s 0 + 1))
    skipping := if first then s :: d.tele.skipping else d.tele.skipping } }
  d.cond (fault && first) (Dev.reportBy Src.sweepSkipped s 0x3A 0)

/-- The dumps of sets of TARGET 1 that an FLR ends: their sweeps are skipped (R513). -/
def Dev.dumpsEnd (d : Dev) : Dev :=
  let ends (k : Dump) : Bool := Row.SweepSets.target (d.row T.SweepSets k.set) == 1
  let sets := (d.tele.dumps.filter ends).map (·.set)
  d.each sets (fun s d => (d.sweepSkip s true).put (E.SweepState s) 0) |> fun d => { d with tele := { d.tele with dumps := d.tele.dumps.filter fun k => !sets.contains k.set } }

/-- A reset of the host function as an FLR makes it (R431): MSI-X, rings, interrupt causes and HB_SCRATCH take their reset values, a window
response is lost (R68), doorbells 32 to 63 clear (R444), and master 0x10 is reset. DMA_QUIESCE, the doorbell mask and the time latch stand. -/
def Dev.hostFlr (d : Dev) : Dev :=
  let d := d.modHost fun h => { h with
    scratch := 0, rings := [], cause := 0, vecs := [], pba := 0, due := [], hold := [], latchHi := [], half := [], d3 := false, bar2 := 35
    dbPend := h.dbPend % 2 ^ 32 }
  let d := d.modAccess fun a => { a with window := { a.window with done := false, ready := false, discard := a.window.discard || a.window.busy } }
  let d := { d with wd := { d.wd with hostArmed := false } }
  (d.dumpsEnd.masterReset 0x10).inc E.HostResets

/-- A conventional reset (R430, R431): as FLR, with the subsystem IDs taken from the dictionary; the link retrains. -/
def Dev.hostConventional (d : Dev) : Dev :=
  let d := d.hostFlr
  (d.modHost fun h => { h with subsys := d.get E.SubsystemId * 2 ^ 16 + d.get E.SubsystemVendorId, linked := false }).put E.LinkStatus 0

/-! ### The cores (R436, R460) -/

/-- The tick-core masters of pair k (R14). -/
def pairMasters (k : Nat) : List Nat := [0x08 + 2 * k, 0x09 + 2 * k]

/-- MGMT_RESET (R436): M0 to M3 are reset and restart from the active bank; doorbells 0 to 31 clear (R444); the watchdog is armed as
FirmwareState enters 2 (R533). -/
def Dev.mgmtReset (d : Dev) : Dev :=
  let d := d.each [1, 2, 3, 4] Dev.masterReset
  let d := d.modHost fun h => { h with dbPend := h.dbPend / 2 ^ 32 * 2 ^ 32 }
  let d := { d with wd := { d.wd with expired := none } }
  if d.get E.ActiveBank = 0xFF then d
  else ({ d with wd := { d.wd with mgmtArmed := true, mgmtKick := d.now } }).put E.FirmwareState 2

/-- Steps 1 to 4 of R460 for pair k: the loop words it has not completed are discarded, so its loops overrun at their close (R365); the
pair restarts, its watchdog unarmed (R534), and its epochs increment. -/
def Dev.pairReset (k : Nat) (d : Dev) : Dev :=
  let d := d.modYard fun y => { y with loopWords := y.loopWords.filter fun (e : Nat × Nat) => e.1 / 512 != k }
  let d := { d with wd := { d.wd with tickArmed := d.wd.tickArmed.filter (· != k), tickCount := d.wd.tickCount.erase k } }
  d.each (pairMasters k) Dev.masterReset

/-- TICK_CORE_RESET (R436). -/
def Dev.tickCoreReset (d : Dev) : Dev := d.upto 4 Dev.pairReset

/-- TICK_CORE_MISMATCH (R460). -/
def Dev.tickMismatch (k : Nat) (d : Dev) : Dev := ((d.pairReset k).inc (E.TickCoreMismatches k)).report Src.tickCoreMismatch k

/-! ### The device -/

/-- Every output of the main domains goes to high impedance (R542, R555). -/
def Dev.outputsOff (d : Dev) : Dev :=
  let d := d.each ((List.range 56).filter d.isOutput) fun l d => d.emit (.yard d.now l 2)
  (d.ownReqSet false).modYard fun y => { y with busy := [], shift := [] }

/-- FAULT_N at high impedance, when the rails are lost (R531, R542). -/
def Dev.faultNLoose (d : Dev) : Dev :=
  ({ d with faults := { d.faults with nLow := false, nWait := false } }).cond d.faults.nLow fun d => d.emit (.pin d.now "FAULT_N" true)

/-- A request for stabled mode, honoured from T0 + 1 ms on: the yard goes safe with cause 3 (R555 step 1). -/
def Dev.stableBegin (d : Dev) : Dev :=
  if d.power.stabling.isNone ∧ d.power.t0 + 8000000 ≤ d.now then
    ({ d with power := { d.power with stabling := some d.now } }).yardSafeEnter 3
  else d

/-- Entries held in fuses, or read from them, that no start changes (R471, R472). -/
def fusedKey (k : Nat) : Bool := k / 256 == E.KeySlotStatus 0 / 256 || k == E.RollbackLevel

/-- Entries of the fault collector's state (R531). -/
def collectorKey (k : Nat) : Bool :=
  [E.FaultNState, E.FaultNAssertions, E.FaultClassSeen, E.FaultLogCount, E.ResetsSuppressed, E.ReactionsSkipped, E.PortShutLow,
    E.PortShutHigh].contains k || k / 256 == E.ClassCounts 0 / 256

/-- Entries that the always-on domain keeps while its rail is valid (R556, R557). -/
def aonKey (k : Nat) : Bool := [E.AonCmpMv 0 / 256, E.AonCmpState 0 / 256].contains (k / 256) || k == E.StabledEntries

/-- The time entries 0x2000 to 0x21FF, kept over stabled mode (R555). -/
def timeKey (k : Nat) : Bool := decide (0x200000 ≤ k) && decide (k < 0x220000)

/-- The TABLE of a row's key. -/
def rowTable (k : Nat) : Nat := k / 2 ^ 20

/-- The dictionary with which the device starts: defaults but for what is kept (R41, R531, R557); no soft repair
of HBM is in force (R493). -/
def Dev.startDict (d : Dev) (cold wake : Bool) : Dict :=
  let keepS (k : Nat) : Bool := fusedKey k || (!cold && (collectorKey k || aonKey k)) || (wake && timeKey k)
  let keepR (t : Nat) : Bool := t == T.HbmRepairs || (!cold && (t == T.FaultCounts || t == T.FaultLog)) || (wake && timeKey (t * 256))
  { scal := d.dict.scal.filter fun (e : Nat × Nat) => keepS e.1
    rows := (d.dict.rows.filter fun (e : Nat × Nat) => keepR (rowTable e.1)).map fun (e : Nat × Nat) =>
      if rowTable e.1 = T.HbmRepairs then (e.1, setFld e.2 31 16 0) else e
    doms := d.dict.doms.filter fun (e : Nat × Bytes) => wake && timeKey e.1 }

/-- Sequence numbers of the collector's sources, kept with its state. -/
def collectorSeqs (m : FMap Nat) : FMap Nat := m.filter fun (e : Nat × Nat) => e.1 / 2 ^ 16 == T.FaultCounts || e.1 / 2 ^ 16 == T.FaultLog

/-- The first boundary at or after now becomes the next one (R93). -/
def Dev.boundaryFirst (d : Dev) : Dev :=
  { d with time := { d.time with nextB := firstBoundary d.period (d.get E.TickPhase) d.outTime } }

/-- The start of the device (R543) with its straps and whether it is in factory test mode or had TEST_MODE ignored (R538); `wake` after
stabled mode, `cause` as WakeCause. Cold (cause 0) it loses the fault collector's state too. -/
def Dev.startUp (straps : Straps) (testMode : Nat) (wake : Bool) (cause : Nat) (d : Dev) : Dev :=
  let cold := !wake && cause == 0
  let n : Dev := {
    now := d.now, frees := d.frees, out := d.out
    dict := d.startDict cold wake
    seqs := if cold then [] else collectorSeqs d.seqs
    recent := if cold then [] else d.recent.filter fun r => r.2.1 == T.FaultLog
    time := if wake then { d.time with tickRun := false, tick := 0, prevTick := 0, acq := 0, twoStep := [], syncs := [], ptp := [], relays := [] } else {}
    access := { nonces := d.access.nonces, nextSid := d.access.nextSid }
    faults := if cold then {} else d.faults
    power := { straps, t0 := d.now, cmpRun := if cold then [] else d.power.cmpRun, flfEnergy := d.power.flfEnergy, reqPin := d.power.reqPin
               wakeN := d.power.wakeN, waking := wake, stableNext := wake && d.power.stableNext }
    hbm := { bankUsed := d.hbm.bankUsed, exhausted := d.hbm.exhausted } }
  let n := ((n.store E.BootSource straps.bootSrc.toNat).store E.TestModeState testMode).store E.WakeCause cause
  let n := n.cond (straps.cascMaster) (Dev.store E.CascadeRole 1)
  (n.cond wake fun n => (n.ppsArm 0).ppsArm 1).boundaryFirst

/-- DEVICE_RESET (R436): as from the last supply becoming valid, the always-on domain, the raw counter and the fault collector going on. -/
def Dev.deviceReset (d : Dev) : Dev := d.outputsOff.startUp d.power.straps (d.get E.TestModeState) false 5

end Sys2Proof.Machine
end

