-- ==== Sys2Proof/Machine/Faults.lean ====
section
/-!
DEFINITION. The fault collector (chapter 18): counting, first-error capture, log, reactions, FAULT_N, and the watchdogs.
Mechanisms report faults with `Dev.report`; FAULT_RAISE takes what they reported (log 14).
-/
namespace Sys2Proof.Machine

/-! ### Collecting -/

/-- The rank of a class in the capture's choice: X, U, T, S, P, H, C (R529). -/
def captureRank (cls : Nat) : Nat := [6, 1, 0, 2, 5, 3, 4].getD cls 6

/-- Whether a fault comes before another in the capture's choice (R529). -/
def captureBefore (a b : Reported) : Bool :=
  let ra := captureRank ((classOf a.rep.source).getD 0)
  let rb := captureRank ((classOf b.rep.source).getD 0)
  decide (ra < rb) || (ra == rb && decide (a.rep.source < b.rep.source))

/-- The fault the capture takes among a group of the same instant, each with CAPTURE set (R529). -/
def captureChoice : List Reported → Option Reported
  | [] => none
  | r :: l => match captureChoice l with
    | none => some r
    | some b => some (if captureBefore b r then b else r)

/-- A fault set among others in ascending source number, after those of its own source. -/
def sourceInsert (r : Reported) : List Reported → List Reported
  | [] => [r]
  | a :: l => if r.rep.source < a.rep.source then r :: a :: l else a :: sourceInsert r l

/-- A group of faults in ascending source number (R531). -/
def bySource (l : List Reported) : List Reported := l.foldl (fun m r => sourceInsert r m) []

/-- Counting and CLASS_SEEN (R528 step 1). -/
def Dev.faultCount (r : Reported) (d : Dev) : Dev :=
  let cls := (classOf r.rep.source).getD 0
  let d := d.addRow T.FaultCounts r.rep.source 63 0 1
  let d := (d.inc (E.ClassCounts cls)).cond (cls == 4) (Dev.inc E.HalterInterventions)
  d.put E.FaultClassSeen (setBit (d.get E.FaultClassSeen) cls true)

/-- The pair that RESET 2 of a source resets (R526). -/
def resetPair (r : FaultReport) : Nat := if r.source = Src.loopOverrun then r.addr / 8 else r.addr

/-- Whether a RESET reaction of the source is suppressed: its last three acted within 60 s of raw time (R528). -/
def Dev.resetSuppressed (d : Dev) (src : Nat) : Bool :=
  match (d.faults.resets.filter fun e => e.1 == src).take 3 with
  | [a, _, c] => decide (a.2 - c.2 ≤ 60 * 8000000000)
  | _ => false

/-- The port that PORT_SHUT would shut, where it is not a tether port (R527). -/
def Dev.shutTarget (d : Dev) (r : FaultReport) : Option Nat := if d.isTether r.addr then none else some r.addr

/-- The REACTIONS byte of the log row (R531). -/
def Dev.reactionsOf (d : Dev) (r : FaultReport) : Nat :=
  let f := d.row T.FaultReactions r.source
  let reset := Row.FaultReactions.reset f != 0
  let sup := reset && d.resetSuppressed r.source
  (Row.FaultReactions.faultN f) * 128 + (Row.FaultReactions.yardSafe f) * 64 +
    (bit f 59 && (d.shutTarget r).isSome).toNat * 32 + (Row.FaultReactions.irq f) * 16 + (reset && !sup).toNat * 8 + sup.toNat * 4

/-- The log row of a fault, unless its source has written 16 rows in this tick (R531). Answers the fault's SOURCE_SEQ. -/
def Dev.faultLog (captured : Bool) (r : Reported) (d : Dev) : Nat × Dev :=
  let src := r.rep.source
  let (n, d) := d.nextSeq (srcKey T.FaultCounts src)
  let d := if d.faults.logTick = d.tickNow then d
    else { d with faults := { d.faults with logTick := d.tickNow, logged := [] } }
  let k := d.faults.logged.getD src 0
  if k < 16 then
    let lost := d.faults.lost.contains src
    let reac := d.reactionsOf r.rep
    let d := d.ringPush T.FaultLog 1024 E.FaultLogCount (srcKey T.FaultLog 0) 239 fun _ _ =>
      n * 2 ^ 240 + r.acq.toNat * 2 ^ 239 + lost.toNat * 2 ^ 238 + (classOf src).getD 0 * 2 ^ 235 + r.rep.access % 4 * 2 ^ 233 +
        captured.toNat * 2 ^ 232 + r.rep.master % 256 * 2 ^ 224 + src * 2 ^ 208 + reac * 2 ^ 200 +
        r.rep.addr % 2 ^ 64 * 2 ^ 96 + r.time
    let d := { d with faults := { d.faults with logged := d.faults.logged.set src (k + 1), lost := d.faults.lost.filter (· != src) } }
    (n, d.traceFault src ((classOf src).getD 0) r.rep.master r.rep.addr)
  else
    (n, { d with faults := { d.faults with lost := if d.faults.lost.contains src then d.faults.lost else src :: d.faults.lost } })

/-- The 32 bytes of FaultCapture (R539), and HB_FLT_INFO (R438). -/
def Capture.info (c : Capture) : Nat :=
  c.valid.toNat * 2 ^ 31 + c.more.toNat * 2 ^ 30 + c.cls * 2 ^ 27 + c.access * 2 ^ 25 + c.master * 2 ^ 16 + c.source

/-- First-error capture of one group (R529): the chosen fault fills an empty capture, which raises vector 1 (R454); any other
sets MORE. -/
def Dev.faultCapture (chosen : Option Reported) (n : Nat) (r : Reported) (d : Dev) : Dev :=
  let c := d.faults.cap
  if Row.FaultReactions.capture (d.row T.FaultReactions r.rep.source) = 0 then d
  else if chosen = some r ∧ !c.valid then
    let cls := (classOf r.rep.source).getD 0
    let cap : Capture := ⟨true, c.more, cls, r.rep.access, r.rep.master, r.rep.source, r.rep.addr, r.time, n⟩
    ({ d with faults := { d.faults with cap } }).irqCause 1
  else { d with faults := { d.faults with cap := { c with more := true } } }

/-! ### FAULT_N (R532) -/

/-- A fault with the FAULT_N reaction: drives the line low, which raises vector 1 (R454), starts a new minimum width and cancels a waiting release. -/
def Dev.faultNAssert (d : Dev) : Dev :=
  let d := d.cond (!d.faults.nLow) fun d => ((d.inc E.FaultNAssertions).emit (.pin d.now "FAULT_N" false)).irqCause 1
  let d := { d with faults := { d.faults with nLow := true, nEnd := d.after (1000 * d.get E.FaultNMinWidthUs), nWait := false } }
  d.put E.FaultNState 1

/-- FAULT_N is released. -/
def Dev.faultNFree (d : Dev) : Dev :=
  let d := { d with faults := { d.faults with nLow := false, nWait := false } }
  (d.put E.FaultNState 0).emit (.pin d.now "FAULT_N" true)

/-- A release is written: now where the width has ended, else it waits for its end. -/
def Dev.faultNRelease (d : Dev) : Dev :=
  if !d.faults.nLow then d
  else if d.faults.nEnd ≤ d.now then d.faultNFree
  else { d with faults := { d.faults with nWait := true } }

/-- The minimum width ends: a waiting release takes effect, else FAULT_N is held. -/
def Dev.faultNWidthEnd (d : Dev) : Dev :=
  if d.faults.nLow ∧ d.faults.nEnd ≤ d.now then
    if d.faults.nWait then d.faultNFree else d.put E.FaultNState 2
  else d

/-! ### Reactions (R526 to R528) -/

/-- A port shut (R527): held DISABLED with the flush of R123 and marked; a tether port is never shut. -/
def Dev.portShut (r : FaultReport) (d : Dev) : Dev :=
  match d.shutTarget r with
  | none => d.inc E.ReactionsSkipped
  | some p =>
    let (k, b) := if p < 64 then (E.PortShutLow, p) else (E.PortShutHigh, p - 64)
    (d.put k (setBit (d.get k) b true)).portDisable p

/-- IRQ: HB_IRQ_CAUSE bit 1 and the fault interrupt of M0 to M3. -/
def Dev.faultIrq (d : Dev) : Dev := (d.irqCause 1).emit (.interrupt d.now 1 "fault")

/-- RESET of a fault, unless suppressed (R526, R528). -/
def Dev.faultReset (r : FaultReport) (d : Dev) : Dev :=
  let k := Row.FaultReactions.reset (d.row T.FaultReactions r.source)
  if k = 0 then d
  else if d.resetSuppressed r.source then d.inc E.ResetsSuppressed
  else
    let d := { d with faults := { d.faults with resets := (r.source, d.now) :: d.faults.resets } }
    match k with
    | 1 => d.mgmtReset
    | 2 => d.pairReset (resetPair r)
    | 3 => d.hostFlr
    | 4 => d.deviceReset
    | _ => d

/-- FAULT_N, YARD_SAFE and PORT_SHUT of one fault (R528 step 3). -/
def Dev.faultReact (r : Reported) (d : Dev) : Dev :=
  let f := d.row T.FaultReactions r.rep.source
  let d := d.cond (bit f 61) Dev.faultNAssert
  let d := d.cond (bit f 60) (Dev.yardSafeEnter 2)
  d.cond (bit f 59) (Dev.portShut r.rep)

/-- The collector takes a group of faults of one instant, in the order of R528. -/
def Dev.faultCollect (l : List Reported) (d : Dev) : Dev :=
  let l := bySource l
  let d := d.each l Dev.faultCount
  let can := l.filter fun r => Row.FaultReactions.capture (d.row T.FaultReactions r.rep.source) == 1
  let chosen := if d.faults.cap.valid then none else captureChoice can
  let d := d.each l fun r d =>
    let (n, d) := d.faultLog (chosen == some r) r
    d.faultCapture chosen n r
  let d := d.each l Dev.faultReact
  let d := d.each l fun r d => d.cond (bit (d.row T.FaultReactions r.rep.source) 62) Dev.faultIrq
  d.each l fun r d => d.faultReset r.rep

/-- The reported faults of the earliest clock, and the rest (R529, R531). -/
def firstGroup (l : List Reported) : List Reported × List Reported :=
  match l with
  | [] => ([], [])
  | r :: _ =>
    let c := l.foldl (fun m r => min m (coreClock r.x)) (coreClock r.x)
    (l.filter fun r => coreClock r.x == c, l.filter fun r => coreClock r.x != c)

/-- FAULT_RAISE (R528): a fault presented from outside the modelled mechanisms, or the earliest group that they reported. -/
def Dev.faultRaise (rep : Option FaultReport) (d : Dev) : Dev :=
  match rep with
  | some r => if (classOf r.source).isSome then d.faultCollect [{ rep := r, x := d.now, time := d.stamp, acq := d.acqNow }] else d
  | none =>
    let (g, rest) := firstGroup d.faults.reported
    ({ d with faults := { d.faults with reported := rest } }).faultCollect g

/-- CAP_REARM and CaptureRearm (R529). -/
def Dev.captureRearm (d : Dev) : Dev :=
  { d with faults := { d.faults with cap := { d.faults.cap with valid := false, more := false } } }

/-- FaultClassClear (R539). -/
def Dev.classClear (v : Nat) (d : Dev) : Dev :=
  d.put E.FaultClassSeen ((List.range 7).foldl (fun m k => if bit v k then setBit m k false else m) (d.get E.FaultClassSeen))

/-- PortShutClear (R527): the port restarts from DOWN. -/
def Dev.portShutClear (p : Nat) (d : Dev) : Dev :=
  let (k, b) := if p < 64 then (E.PortShutLow, p) else (E.PortShutHigh, p - 64)
  if bit (d.get k) b then (d.put k (setBit (d.get k) b false)).portRelease p else d

/-! ### Watchdogs (R533 to R536) -/

/-- WdMgmtKick (R533): only M0 to M3 restart the count; another master's kick counts in HalterRefusals (R540). -/
def Dev.mgmtKick (master : Nat) (d : Dev) : Dev :=
  if 1 ≤ master ∧ master ≤ 4 then { d with wd := { d.wd with mgmtKick := d.now } } else d.inc E.HalterRefusals

/-- The management watchdog expires (R533): M0 to M3 stop, FirmwareState reads 3, source 0x0902. -/
def Dev.mgmtExpiry (d : Dev) : Dev :=
  if d.wd.mgmtArmed && decide (d.wd.mgmtKick + 8000000 * d.get E.WdMgmtMs ≤ d.now) then
    let d := { d with wd := { d.wd with mgmtArmed := false, expired := some d.now } }
    ((d.put E.FirmwareState 3).inc E.WdMgmtExpiries).report Src.managementWatchdog 0
  else d

/-- 10 ms after the expiry (R533): MGMT_RESET, where WdMgmtRestart and WdRestartLimit allow it. -/
def Dev.mgmtRestart (d : Dev) : Dev :=
  match d.wd.expired with
  | some t =>
    let recent := d.wd.restarts.filter fun r => decide (d.now < r + 3600 * 8000000000)
    if t + 80000000 ≤ d.now ∧ d.getB E.WdMgmtRestart ∧ recent.length < d.get E.WdRestartLimit then
      ({ d with wd := { d.wd with expired := none, restarts := d.now :: recent } }).mgmtReset
    else d
  | none => d

/-- WdTickKick of pair k (R534): the pair's own masters arm or restart its count. -/
def Dev.tickKick (k master : Nat) (d : Dev) : Dev :=
  if (pairMasters k).contains master then
    { d with wd := { d.wd with tickArmed := if d.wd.tickArmed.contains k then d.wd.tickArmed else k :: d.wd.tickArmed,
                               tickCount := d.wd.tickCount.set k 0 } }
  else d.inc E.HalterRefusals

/-- The tick-core watchdog of pair k expires after WdTickTicks boundaries (R534): the pair is restarted, source 0x0903. -/
def Dev.tickExpiry (k : Nat) (d : Dev) : Dev :=
  let lim := d.get (E.WdTickTicks k)
  if d.wd.tickArmed.contains k ∧ lim ≠ 0 ∧ lim ≤ d.wd.tickCount.getD k 0 then
    ((d.inc (E.WdTickExpiries k)).pairReset k).report Src.tickCoreWatchdog k
  else d

/-- A BAR0 access of the host arms or restarts the host watchdog (R535). -/
def Dev.hostKick (d : Dev) : Dev := { d with wd := { d.wd with hostArmed := true, hostCount := 0 } }

/-- The host watchdog expires after HostWdTicks boundaries (R535): source 0x0904 once, disarmed. -/
def Dev.hostExpiry (d : Dev) : Dev :=
  let lim := d.get E.HostWdTicks
  if d.wd.hostArmed ∧ lim ≠ 0 ∧ lim ≤ d.wd.hostCount then
    (({ d with wd := { d.wd with hostArmed := false } }).inc E.HostWdExpiries).report Src.hostWatchdog 0
  else d

/-- One boundary counts on every armed watchdog (R534, R535). -/
def Dev.watchdogTick (d : Dev) : Dev :=
  { d with wd := { d.wd with
      tickCount := d.wd.tickArmed.foldl (fun m k => m.set k (m.getD k 0 + 1)) d.wd.tickCount
      hostCount := d.wd.hostCount + 1 } }

/-! ### The commands -/

/-- FAULT_RAISE (R528). -/
def execFaultRaise (x : Nat) (rep : Option FaultReport) (s : State) : Host.Outcome State Fault Refusal := s.live x (Dev.faultRaise rep)

/-- FAULT_N_WIDTH_END (R532). -/
def execFaultNWidthEnd (x : Nat) (s : State) : Host.Outcome State Fault Refusal := s.aon x Dev.faultNWidthEnd

/-- An access of master m is ended by the interconnect (R530): a dictionary operation (opcode, index, sub) answers DATA_ERROR, another read
returns zero, another write is discarded; source 0x0A04 with the target address. -/
def Dev.busTimeout (m addr : Nat) (write : Bool) (op : Option (Nat × Nat × Nat)) (d : Dev) : Dev :=
  let d := match op with
    | some (o, idx, sub) => d.emit (.response d.now ⟨m, 0⟩ o Status.dataError idx sub 0 [])
    | none => d.cond (!write) (Dev.emit (.value d.now m 0))
  d.reportBy Src.internalBusTimeout addr m write.toNat

/-- INTERNAL_BUS_TIMEOUT (R530). -/
def execInternalBusTimeout (x m addr : Nat) (access : BusAccess) (s : State) : Host.Outcome State Fault Refusal :=
  s.live x (Dev.busTimeout m addr access.write access.op)

/-- MGMT_WATCHDOG_EXPIRY (R533). -/
def execMgmtWatchdogExpiry (x : Nat) (s : State) : Host.Outcome State Fault Refusal := s.live x Dev.mgmtExpiry

/-- MGMT_WATCHDOG_RESTART (R533). -/
def execMgmtWatchdogRestart (x : Nat) (s : State) : Host.Outcome State Fault Refusal := s.live x Dev.mgmtRestart

/-- TICK_CORE_WATCHDOG_EXPIRY (R534). -/
def execTickCoreWatchdogExpiry (x k : Nat) (s : State) : Host.Outcome State Fault Refusal := s.live x (Dev.tickExpiry k)

/-- HOST_WATCHDOG_EXPIRY (R535). -/
def execHostWatchdogExpiry (x : Nat) (s : State) : Host.Outcome State Fault Refusal := s.live x Dev.hostExpiry

/-- TICK_CORE_MISMATCH (R460). -/
def execTickCoreMismatch (x k : Nat) (s : State) : Host.Outcome State Fault Refusal := s.live x (Dev.tickMismatch k)

end Sys2Proof.Machine
end

