-- ==== Sys2Proof/Machine/Power.lean ====
section
/-!
DEFINITION. Power, shed and stabled mode, the always-on domain, thermal limits and core voltage (chapter 19). Reading the dictionary
image and storing it are in Sys2Proof/Machine/Boot.lean.
-/
namespace Sys2Proof.Machine

/-! ### Supplies (R542, R543, R567) -/

/-- The straps: the first two samples, 10 us apart, that agree (R567); with no such pair the last one read. -/
def agreedStraps : List Straps → Straps
  | a :: b :: l => if a = b then b else agreedStraps (b :: l)
  | [a] => a
  | [] => { bootSrc := 0, testMode := false, cascMaster := false }

/-- TestModeState by R538: TEST_MODE counts only where FACTORY_LOCK is intact. -/
def testModeOf (s : Straps) (lock : Bool) : Nat := if s.testMode then (if lock then 2 else 1) else 0

/-! ### The stagger (R551) -/

/-- Parts of one kind come up `gap` apart from capture x on, in order. Each but the first is delayed where it would have come up sooner; the spec
does not say when a part asks for its power (a free value). -/
def Dev.staggerEach (gap : Nat) : Nat → List PowerPart → Dev → Dev
  | _, [], d => d
  | x, [p], d => d.emit (.rise x p)
  | x, p :: l, d =>
    let (sooner, d) := (d.emit (.rise x p)).free 1
    (d.cond (sooner == 1) (Dev.inc E.StaggerDelays)).staggerEach gap (x + gap) l

/-- The stagger of a wake: core domains 10 us apart, lane groups of eight 200 us apart with the field lanes first, stack 1 of HBM at the end of
stack 0's initialisation, within 2 ms. -/
def Dev.stagger (coreX laneX : Nat) (core lanes hbm : List PowerPart) (d : Dev) : Dev :=
  let d := (d.staggerEach 80000 coreX core).staggerEach 1600000 laneX lanes
  let (ends, d) := d.free 24
  d.staggerEach (min 16000000 ends) laneX hbm

/-- The stagger of a start from T0 (R543): the core domains from 0.5 ms on, lanes and HBM from 1 ms. -/
def Dev.startStagger (d : Dev) : Dev :=
  d.stagger (d.now + 4000000) (d.now + 8000000) ((List.range 11).map .core) ((List.range 4).map .fieldLanes ++ (List.range 8).map .trunkLanes)
    ((List.range 2).map .hbm)

/-- The stagger of a shed exit (R554): PL1 to PL7 with their lanes; HBM initialises only where its content was not retained. -/
def Dev.shedStagger (d : Dev) : Dev :=
  d.stagger d.now d.now ((List.range' 4 7).map .core) ((List.range 4).map .fieldLanes ++ (List.range' 1 7).map .trunkLanes)
    (if d.hbm.keep then [] else (List.range 2).map .hbm)

/-- AON_WAKE_N is released 1 ms after the last removable rail is valid (R557). -/
def Dev.wakeEnd (d : Dev) : Dev :=
  ({ d with power := { d.power with wakeN := false } }).emit (.pin (d.now + 8000000) "AON_WAKE_N" true)

/-- SUPPLY_VALID: T0 of a device whose rails were lost, or of one that wakes from stabled mode (R543, R557). -/
def Dev.supplyValid (samples : List Straps) (factoryLock : Bool) (d : Dev) : Dev :=
  let s := agreedStraps samples
  if d.power.phase = .off then (d.startUp s (testModeOf s factoryLock) false 0).startStagger
  else if d.power.phase = .stabled ∧ d.power.awaiting then (d.startUp s (testModeOf s factoryLock) true (d.get E.WakeCause)).startStagger.wakeEnd
  else d

/-- Power is lost within 20 ms of a RollbackCommit: the level lies between the old one and the one asked for (R472), a free value. -/
def Dev.fuseLoss (d : Dev) : Dev :=
  match d.fw.blown with
  | some (old, x) =>
    if d.now < x + 160000000 then
      let (v, d) := d.free 8
      d.store E.RollbackLevel (old + v % (d.get E.RollbackLevel + 1 - old))
    else d
  | none => d

/-- RAIL_LOSS (R542): every output at high impedance until the next T0; a loss of the always-on rail also resets the raw counter. -/
def Dev.railLoss (aon : Bool) (d : Dev) : Dev :=
  let d := d.outputsOff.faultNLoose.fuseLoss
  let d := { d with power := { d.power with phase := .off, forwarding := false, stabling := none, awaiting := false, waking := false } }
  if aon then { d with now := 0, time := {} } else d

/-! ### Shed mode (R552 to R554) -/

/-- Pipeline pl's learned L2 entries are gone (R554). -/
def Dev.l2ForgetLearned (pl : Nat) (d : Dev) : Dev := d.each (d.l2Learned pl) fun e d => d.l2Put pl e.1 0

/-- Entry to shed mode with its cause (R552). -/
def Dev.shedEnter (cause : Nat) (d : Dev) : Dev :=
  let d := (d.put E.ShedCause cause).put E.PowerMode 1
  let d := { d with power := { d.power with cool := none, redirect := true } }
  let d := d.each ((List.range 96).filter fun p => !shedKeeps p) Dev.portDisable
  d.hbmRetain

/-- ShedRequest (R552, R554). Answers a status of R45. -/
def Dev.shedRequest (d : Dev) : Nat × Dev := if d.get E.PowerMode = 1 then (Status.invalidValue, d) else (Status.ok, d.shedEnter 1)

/-- Leaving shed mode begins with its stagger (R554). -/
def Dev.shedLeave (d : Dev) : Dev := (d.put E.PowerMode 2).shedStagger

/-- ShedExit (R554). -/
def Dev.shedExit (d : Dev) : Nat × Dev := if d.get E.PowerMode = 1 then (Status.ok, d.shedLeave) else (Status.invalidValue, d)

/-- SHED_AUTO_EXIT: 10 s with every sensor 10 degrees below the threshold after a thermal entry (R554). -/
def Dev.shedAutoExit (d : Dev) : Dev :=
  match d.power.cool with
  | some t =>
    if d.get E.PowerMode = 1 ∧ d.get E.ShedCause = 2 ∧ d.getB E.ShedAutoExit ∧ t + 10 * 8000000000 ≤ d.now then d.shedLeave else d
  | none => d

/-- SHED_RESTORE_DONE: the restore ends, the held ports restart from DOWN, learned entries of PL1 to PL7 start empty; `checks` is the outcome of
HBM's checks (R554), a free value (log 158). -/
def Dev.shedRestoreDone (d : Dev) : Dev :=
  if d.get E.PowerMode = 2 then
    let d := (d.put E.PowerMode 0).put E.ShedCause 0
    let d := d.each (List.range' 1 7) Dev.l2ForgetLearned
    let (checks, d) := d.free 1
    let d := d.hbmResume (checks == 1)
    d.each ((List.range 96).filter fun p => !shedKeeps p) Dev.portRelease
  else d

/-! ### Stabled mode (R555 to R557) -/

/-- AON_STABLE_REQ_N has been low for 1 ms (R555). In a wake from stabled mode the request waits until the wake has reached forwarding (R557). -/
def Dev.reqLow (d : Dev) : Dev :=
  let d := { d with power := { d.power with reqPin := false } }
  if d.power.waking then { d with power := { d.power with stableNext := true } }
  else if d.power.alive then d.stableBegin else d

/-- Every setpoint word of an enabled port is SAFE (R555 step 2). -/
def Dev.allWordsSafe (d : Dev) : Bool :=
  (List.range 8).all fun pp => !d.ppActive pp || (List.range 64).all fun w =>
    Row.SetpointWordState.state (d.row T.SetpointWordState (pp * 64 + w)) == 3

/-- Every process-port transfer stops (R555 step 3). -/
def Dev.ppStopAll (d : Dev) : Dev := d.modYard fun y => { y with busy := [], shift := [], next := [] }

/-- STABLED_ENTRY (R555 steps 2 to 5): the words are SAFE or the ramp limit has passed. -/
def Dev.stabledEntry (d : Dev) : Dev :=
  match d.power.stabling with
  | some t =>
    if d.allWordsSafe || decide (t + 8000000 * d.get E.StabledRampLimitMs ≤ d.now) then
      let d := (d.ppStopAll.ownDrop).ppsStop
      let d := d.upto 2 fun i d => (d.put (E.DomainState i) 2).clearLocked i
      let d := d.upto 96 fun p d => d.cond (d.get (E.PortState p) == 4 || d.get (E.PortState p) == 5) (Dev.portTimeDown p)
      let d := d.inc E.StabledEntries
      let d := d.outputsOff
      { d with time := { d.time with stableX := d.now }
               power := { d.power with phase := .stabled, forwarding := false, stabling := none, awaiting := false, waking := false } }
    else d
  | none => d

/-- The capture at which the always-on domain reads time: in stabled mode the raw counter advances in steps of 40 (R74). -/
def Dev.aonX (d : Dev) : Nat :=
  if d.power.phase = .stabled then d.time.stableX + (d.now - d.time.stableX) / 320 * 320 else d.now

/-- AON_COMPARATOR_SAMPLE (R556): 2 mV resolution, 0 to 1,800 mV; hysteresis on the way back. -/
def Dev.comparator (c mv : Nat) (d : Dev) : Dev :=
  let r := d.row T.AonComparators c
  if Row.AonComparators.valid r = 0 then d else
  let v := min 1800 (mv / 2 * 2)
  let lo := Row.AonComparators.lowMv r
  let hi := Row.AonComparators.highMv r
  let h := Row.AonComparators.hystMv r
  let st := d.get (E.AonCmpState c)
  let st' := if v < lo then 1 else if hi < v then 2
    else if st = 1 then (if lo + h ≤ v then 0 else 1)
    else if st = 2 then (if v + h ≤ hi then 0 else 2) else 0
  let run := if st' = 0 then 0 else d.power.cmpRun.getD c 0 + 1
  let d := (d.put (E.AonCmpMv c) v).put (E.AonCmpState c) st'
  { d with power := { d.power with cmpRun := d.power.cmpRun.set c run } }

/-- TIME_ALARM_FIRE (R556): a valid alarm whose time output time has reached. -/
def Dev.alarmFire (a : Nat) (d : Dev) : Dev :=
  let r := d.row T.TimeAlarms a
  if Row.TimeAlarms.valid r = 1 ∧ Row.TimeAlarms.fired r = 0 ∧ (fromTimex (r % 2 ^ 96) : Int) ≤ d.time.out.at d.aonX then
    d.setRowFld T.TimeAlarms a 125 125 1
  else d

/-- LINK_ENERGY_DETECT (R556): energy on field lane `lane` has lasted `us` microseconds. -/
def Dev.linkEnergy (lane us : Nat) (d : Dev) : Dev :=
  { d with power := { d.power with flfEnergy := d.power.flfEnergy.set lane (if d.get E.LinkEnergyUs ≤ us then 1 else 0) } }

/-- Whether wake cause c of R557 is present and enabled. -/
def Dev.wakePresent (d : Dev) (c : Nat) : Bool :=
  match c with
  | 1 => d.power.reqPin && d.getB E.WakeOnReqRelease
  | 2 => (List.range 4).any fun i =>
      let r := d.row T.AonComparators i
      Row.AonComparators.valid r == 1 && Row.AonComparators.wakeEn r == 1 && d.get (E.AonCmpState i) != 0 &&
        decide (Row.AonComparators.samples r ≤ d.power.cmpRun.getD i 0)
  | 3 => (List.range 4).any fun i =>
      let r := d.row T.TimeAlarms i
      Row.TimeAlarms.valid r == 1 && Row.TimeAlarms.wakeEn r == 1 && Row.TimeAlarms.fired r == 1
  | 4 => (List.range 4).any fun i => bit (d.get E.LinkEnergyWake) i && d.power.flfEnergy.getD i 0 == 1
  | 5 => true
  | _ => false

/-- WAKE (R557): an enabled cause in stabled mode drives AON_WAKE_N; the device starts when its rails are valid. -/
def Dev.wake (c : Nat) (d : Dev) : Dev :=
  if d.power.phase = .stabled ∧ d.power.awaiting = false ∧ d.wakePresent c then
    let d := { d with power := { d.power with awaiting := true, wakeN := true, waking := true } }
    (d.store E.WakeCause c).emit (.pin d.now "AON_WAKE_N" false)
  else d

/-! ### Thermal limits (R558, R559) -/

/-- The next throttle level: each is entered above its value and left 3 degrees below it. -/
def throttleLevel (cur : Nat) (thr tj : Int) : Nat :=
  if tj > thr + 3 ∨ (cur = 2 ∧ tj > thr) then 2
  else if tj > thr ∨ (1 ≤ cur ∧ tj > thr - 3) then 1 else 0

/-- The hottest of a list of sensors: its number and reading. -/
def hottest (l : List Int) : Nat × Int :=
  ((List.range l.length).zip l).foldl (fun m e => if e.2 > m.2 then e else m) (0, l.headD 0)

/-- THERMAL_SAMPLE: the sixteen die sensors are read (R558); Tj at TripTempC raises ThermalTrip and enters shed mode (R559). -/
def Dev.thermalSample (temps : List Int) (d : Dev) : Dev :=
  let t := temps.take 16
  let (sensor, tj) := hottest t
  let d := d.each ((List.range 16).zip t) fun (i, v) d => d.put (E.SensorTempC i) (enc 32 v)
  let d := d.cond (decide (sgn 32 (d.get E.MaxTempC) < tj)) (Dev.put E.MaxTempC (enc 32 tj))
  let thr := sgn 32 (d.get E.ThrottleThresholdC)
  let cur := d.get E.ThrottleLevel
  let lvl := throttleLevel cur thr tj
  let d := d.put E.ThrottleLevel lvl
  let d := d.cond (cur == 0 && lvl != 0) fun d => (d.inc E.ThrottleEntries).report Src.thermalThrottle sensor
  let cool := (t ++ [sgn 32 (d.get (E.HbmStackTempC 0)), sgn 32 (d.get (E.HbmStackTempC 1))]).all fun v => decide (v ≤ thr - 10)
  let d := { d with power := { d.power with cool := if !cool then none else some (d.power.cool.getD d.now) } }
  let trip := decide (tj ≥ sgn 32 (d.get E.TripTempC)) && decide (d.power.tj < sgn 32 (d.get E.TripTempC))
  let d := { d with power := { d.power with tj } }
  d.cond trip fun d =>
    let d := d.report Src.thermalTrip sensor
    d.cond (d.get E.PowerMode != 1) (Dev.shedEnter 2)

/-! ### Core voltage (R560) -/

/-- The target: the override where it is set, else AvsFusedMv and the corrections, rounded up to 5 mV and clamped. -/
def Dev.avsTarget (corr : Int) (d : Dev) : Nat :=
  let o := d.get E.AvsOverrideMv
  if o ≠ 0 then o else (clampInt (-((-((d.get E.AvsFusedMv : Int) + corr)) / 5) * 5) 680 820).toNat

/-- The requests from the last one to the target, each at most 5 mV from the one before; the first request of all is the target
itself (log 15). -/
def avsSteps (last target : Nat) : List Nat :=
  if last = 0 then [target]
  else if last < target then (List.range (cdiv (target - last) 5)).map fun i => min target (last + 5 * (i + 1))
  else (List.range (cdiv (last - target) 5)).map fun i => max target (last - 5 * (i + 1))

/-- A transaction round on the AVSBus: the steps to the target, 100 us apart, or an error that leaves the last request standing. -/
def Dev.avsRequest (target measured : Nat) (ok : Bool) (d : Dev) : Dev :=
  if !d.getB E.AvsEnable then d
  else if ok then
    let l := avsSteps (d.get E.AvsTargetMv) target
    let d := d.each ((List.range l.length).zip l) fun (i, mv) d => d.emit (.avs (d.now + 800000 * i) mv)
    let d := { d with power := { d.power with avsFailed := none } }
    (d.put E.AvsTargetMv target).put E.AvsMeasuredMv measured
  else ({ d with power := { d.power with avsFailed := some target } }).inc E.AvsErrors

/-- AVS_RETRY: a failed transaction is tried again. -/
def Dev.avsRetry (measured : Nat) (ok : Bool) (d : Dev) : Dev :=
  match d.power.avsFailed with
  | some t => d.avsRequest t measured ok
  | none => d

/-! ### The commands -/

/-- SUPPLY_VALID (R543). After a loss of the rails the TAP too starts from its reset (R585: IEEE 1149.1). -/
def execSupplyValid (x : Nat) (samples : List Straps) (lock : Bool) (s : State) : Host.Outcome State Fault Refusal :=
  let d := s.dev.at x (Dev.supplyValid samples lock)
  .next { s with dev := if s.dev.power.phase = .off then d.setTap {} else d }

/-- RAIL_LOSS (R542): the one command after which the raw counter may have restarted (R73). -/
def execRailLoss (x : Nat) (aon : Bool) (s : State) : Host.Outcome State Fault Refusal :=
  .next { s with dev := ((s.dev.setNow (max s.dev.now x)).railLoss aon).setTap s.dev.tap }

/-- SHED_AUTO_EXIT (R554). -/
def execShedAutoExit (x : Nat) (s : State) : Host.Outcome State Fault Refusal := s.live x Dev.shedAutoExit

/-- SHED_RESTORE_DONE (R554). -/
def execShedRestoreDone (x : Nat) (s : State) : Host.Outcome State Fault Refusal := s.live x Dev.shedRestoreDone

/-- STABLE_REQ_PIN (R555): AON_STABLE_REQ_N has been low for 1 ms. -/
def execStableReqPin (x : Nat) (s : State) : Host.Outcome State Fault Refusal :=
  s.aon x Dev.reqLow

/-- STABLED_ENTRY (R555). -/
def execStabledEntry (x : Nat) (s : State) : Host.Outcome State Fault Refusal := s.live x Dev.stabledEntry

/-- AON_COMPARATOR_SAMPLE (R556). -/
def execAonComparatorSample (x c mv : Nat) (s : State) : Host.Outcome State Fault Refusal :=
  s.aon x fun d => if d.power.phase = .off then d else d.comparator c mv

/-- TIME_ALARM_FIRE (R556). -/
def execTimeAlarmFire (x a : Nat) (s : State) : Host.Outcome State Fault Refusal :=
  s.aon x fun d => if d.power.phase = .off then d else d.alarmFire a

/-- LINK_ENERGY_DETECT (R556, R557). -/
def execLinkEnergyDetect (x lane us : Nat) (s : State) : Host.Outcome State Fault Refusal :=
  s.aon x fun d => if d.power.phase = .off then d else d.linkEnergy lane us

/-- STABLE_REQ_RELEASE (R557): AON_STABLE_REQ_N has been high for 1 ms. -/
def execStableReqRelease (x : Nat) (s : State) : Host.Outcome State Fault Refusal :=
  s.aon x fun d => { d with power := { d.power with reqPin := true } }

/-- WAKE (R557). -/
def execWake (x c : Nat) (s : State) : Host.Outcome State Fault Refusal := s.aon x (Dev.wake c)

/-- THERMAL_SAMPLE (R558, R559). -/
def execThermalSample (x : Nat) (temps : List Int) (s : State) : Host.Outcome State Fault Refusal := s.live x (Dev.thermalSample temps)

/-- AVS_UPDATE (R560). -/
def execAvsUpdate (x : Nat) (corr : Int) (measured : Nat) (ok : Bool) (s : State) : Host.Outcome State Fault Refusal :=
  s.live x fun d => d.avsRequest (d.avsTarget corr) measured ok

/-- AVS_RETRY (R560). -/
def execAvsRetry (x measured : Nat) (ok : Bool) (s : State) : Host.Outcome State Fault Refusal := s.live x (Dev.avsRetry measured ok)

end Sys2Proof.Machine
end

