-- ==== Sys2Proof/Machine/Firmware.lean ====
section
/-!
DEFINITION. Firmware banks, the checks of an image, start and swap, keys and the rollback level (R459 to R478).
-/
namespace Sys2Proof.Machine

/-- Change the firmware state. -/
def Dev.modFw (g : FwSt → FwSt) (d : Dev) : Dev := { d with fw := g d.fw }

/-! ### The checks of an image (R468 to R470) -/

/-- A section of an image: TARGET, OFFSET, LOAD and LENGTH (R469). -/
structure Section where
  target : Nat
  off    : Nat
  load   : Nat
  len    : Nat
  deriving DecidableEq, Repr

/-- The sections of an image. -/
def sectionsOf (b : Bytes) : List Section :=
  (List.range (beAt b 20 2)).map fun i =>
    let o := 80 + 16 * i
    { target := beAt b o 1, off := beAt b (o + 4) 4, load := beAt b (o + 8) 4, len := beAt b (o + 12) 4 }

/-- Whether every byte of a part of an image is zero. -/
def zeros (b : Bytes) (off n : Nat) : Bool := beAt b off n == 0

/-- Check 2: MAGIC, FORMAT, HEADER_LEN and the reserved fields, unused section entries among them. -/
def headOk (b : Bytes) : Bool :=
  decide (512 ≤ b.length) && beAt b 0 4 == 0x4A544657 && beAt b 4 2 == 1 && beAt b 6 2 == 512 && decide (beAt b 15 1 < 2) && zeros b 28 4 &&
    zeros b 336 80 && (List.range 16).all fun i =>
      if i < beAt b 20 2 then zeros b (81 + 16 * i) 3 else zeros b (80 + 16 * i) 16

/-- Check 3: BODY_LEN, SECTION_COUNT and sections within the body. -/
def bodyOk (b : Bytes) : Bool :=
  let n := beAt b 16 4
  let c := beAt b 20 2
  n % 64 == 0 && decide (64 ≤ n) && decide (n ≤ 16776704) && decide (512 + n ≤ b.length) && decide (1 ≤ c) && decide (c ≤ 16) &&
    (sectionsOf b).all fun s => decide (s.off + s.len ≤ n)

/-- The regions that a TARGET names: 0 the management region, 1 + k the half of tick-core pair k. -/
def regionsOf (target : Nat) : List Nat :=
  if target = 1 then [0] else if target = 2 then [1, 2, 3, 4] else if 3 ≤ target ∧ target ≤ 6 then [target - 2] else []

/-- Check 8: every section fits its target, and none overlaps another there. -/
def fitsOk (b : Bytes) : Bool :=
  let l := sectionsOf b
  l.all (fun s => !(regionsOf s.target).isEmpty && decide (s.load + s.len ≤ if s.target = 1 then 8388608 else 262144)) &&
    (List.range l.length).all fun i => (List.range i).all fun j =>
      match l[i]?, l[j]? with
      | some s, some t =>
        !((regionsOf s.target).any (regionsOf t.target).contains) || decide (s.load + s.len ≤ t.load) || decide (t.load + t.len ≤ s.load)
      | _, _ => true

/-- The result of the checks of R470, as LoadStatus; an image that could not be read is none. -/
def Dev.imageCheck (d : Dev) : Option Bytes → Nat
  | none => 10
  | some b =>
    let body := slice b 512 (beAt b 16 4)
    let slot := beAt b 14 1
    if !headOk b then 2
    else if !bodyOk b then 3
    else if 4 ≤ slot ∨ d.get (E.KeySlotStatus slot) ≠ 1 then 4
    else if beAt b 12 2 < d.get E.RollbackLevel then 5
    else if !Config.ecdsaVerify (d.dom (E.KeySlotPublic slot)) (Config.sha384 (b.take 416)) (slice b 416 96) then 6
    else if Config.sha384 body != slice b 32 48 then 7
    else if !fitsOk b then 8
    else if d.get E.DictionaryVersion < beAt b 24 4 then 9
    else 1

/-- What the header of an image says. -/
def bankHdr (b : Bytes) : BankHdr :=
  { keySlot := beAt b 14 1, rollback := beAt b 12 2, handoff := beAt b 22 2, version := beAt b 8 4 }

/-! ### Banks (R473, R474) -/

/-- A bank has been checked: its state, its LoadStatus and what its header says. -/
def Dev.bankChecked (bank : Nat) (img : Option Bytes) (d : Dev) : Dev :=
  let st := d.imageCheck img
  let d := (d.put (E.LoadStatus bank) st).put (E.BankState bank) (if st = 1 then 1 else 2)
  match st, img with
  | 1, some b =>
    let h := bankHdr b
    ((d.put (E.BankVersion bank) h.version).put (E.BankRollbackLevel bank) h.rollback).modFw fun f => { f with banks := f.banks.set bank h }
  | _, _ =>
    ((d.put (E.BankVersion bank) 0).put (E.BankRollbackLevel bank) 0).modFw fun f => { f with banks := f.banks.erase bank }

/-- Whether a bulk write of firmware bank i is open (R473). -/
def Dev.bankOpen (d : Dev) (i : Nat) : Bool := d.access.bulks.any fun b => b.key == E.FirmwareBank i

/-- Whether a bank may not be written: it is running, on trial or not. -/
def Dev.bankBusy (d : Dev) (bank : Nat) : Bool := d.get E.ActiveBank == bank

/-- The last byte of a bank's image has arrived: it goes to flash and is checked (R474). -/
def Dev.bankWrite (bank : Nat) (b : Bytes) (d : Dev) : Nat × Dev :=
  if d.bankBusy bank then (Status.busy, d)
  else
    let d := d.emit (.flash d.now (if bank = 0 then "firmware bank 0" else "firmware bank 1") b)
    let d := d.bankChecked bank (some b)
    (if d.get (E.BankState bank) = 1 then Status.ok else Status.invalidValue, d)

/-- A boot state copy (R546). -/
def bootCopy (seq confirmed : Nat) (trial : Option Nat) : Bytes :=
  let b := toBE 4 0x4A544253 ++ toBE 4 seq ++ toBE 1 confirmed ++ toBE 1 (trial.getD 0xFF) ++ toBE 2 0
  b ++ toBE 4 (crc32c 0xFFFFFFFF b)

/-- Write the other boot state copy with the next SEQ. -/
def Dev.bootWrite (d : Dev) : Dev :=
  let n := (d.fw.bootSeq + 1) % 2 ^ 32
  let trial := if d.fw.trial then some (d.get E.ActiveBank) else none
  (d.modFw fun f => { f with bootSeq := n }).emit (.flash d.now "boot state" (bootCopy n (d.get E.ConfirmedBank) trial))

/-! ### The start (R473, R543) -/

/-- The cores run an image; the handoff block of an earlier one is gone. -/
def Dev.coresStart (bank : Nat) (h : BankHdr) (d : Dev) : Dev :=
  let d := d.modFw fun f => { f with running := some h, standby := none }
  let d := ((d.put E.ActiveBank bank).put E.FirmwareVersion h.version).put E.FirmwareState 2
  { d with wd := { d.wd with mgmtArmed := true, mgmtKick := d.now, expired := none } }

/-- A bank of which the flash holds nothing is EMPTY. -/
def Dev.bankRead (bank : Nat) (img : Option Bytes) (d : Dev) : Dev :=
  match img with
  | some [] => d
  | i => d.bankChecked bank i

/-- FIRMWARE_LOAD: the banks have been read (R473, R476). With BOOT_SRC 0b11 or an unusable flash none is (R544, R545); the
dictionary image comes first (R543). -/
def Dev.firmwareLoad (bank0 bank1 : Option Bytes) (boot : Option BootState) (d : Dev) : Dev :=
  if d.get E.BootSource = 3 ∨ d.get E.FirmwareState ≠ 0 ∨ !d.power.loaded then d
  else
    let usable := d.get E.FlashBytes != 0
    let bs := boot.getD { seq := 0, confirmed := 0, trial := none }
    let conf := if bs.confirmed = 1 then 1 else 0
    let d := ((d.put E.FirmwareState 1).put E.ConfirmedBank conf).modFw fun f => { f with bootSeq := bs.seq, trial := false }
    let d := d.cond bs.trial.isSome fun d => (d.inc E.TrialReverts).bootWrite
    let d := d.cond usable fun d => (d.bankRead 0 bank0).bankRead 1 bank1
    let d := ((d.store E.HandoffBytes 0).setDom E.HandoffBlock [])
    match d.fw.banks.get? conf, d.fw.banks.get? (1 - conf) with
    | some h, _ => d.coresStart conf h
    | none, some h => d.coresStart (1 - conf) h
    | none, none => (d.put E.FirmwareState 0).report Src.noFirmwareLoadable 0

/-! ### A swap (R475, R476) -/

/-- The standby bank: the one that does not run; with none running, the confirmed one where it is VALID, else the other. -/
def Dev.standbyBank (d : Dev) : Nat :=
  match d.get E.ActiveBank with
  | 0 => 1
  | 1 => 0
  | _ => if d.get (E.BankState (d.get E.ConfirmedBank)) = 1 then d.get E.ConfirmedBank else 1 - d.get E.ConfirmedBank

/-- SwapPrepare (R475 step 1). -/
def Dev.swapPrepare (v : Nat) (d : Dev) : Nat × Dev :=
  if v ≠ 1 ∨ d.get (E.BankState d.standbyBank) ≠ 1 ∨ d.bankOpen d.standbyBank then (Status.invalidValue, d)
  else (Status.ok, (d.modFw fun f => { f with standby := none }).put E.SwapState 1)

/-- SWAP_PREPARE_DONE: the standby image is loaded and checked again; the load ends the handoff block of an earlier swap (R478). -/
def Dev.swapPrepared (img : Bytes) (d : Dev) : Dev :=
  if d.get E.SwapState ≠ 1 then d
  else
    let bank := d.standbyBank
    let d := ((d.store E.HandoffBytes 0).setDom E.HandoffBlock []).bankChecked bank (some img)
    if d.get (E.BankState bank) = 1 then (d.modFw fun f => { f with standby := some (bankHdr img) }).put E.SwapState 2
    else d.put E.SwapState 6

/-- Whether firmware runs (R477). -/
def Dev.fwRunning (d : Dev) : Bool := d.get E.FirmwareState == 2

/-- SwapRequest (R475 step 2). -/
def Dev.swapRequest (m : Nat) (d : Dev) : Nat × Dev :=
  let fmt (h : Option BankHdr) : Nat := (h.map (·.handoff)).getD 0
  if d.get E.SwapState ≠ 2 ∨ m < d.tickNow + 2 ∨ (d.fwRunning && (fmt d.fw.standby == 0 || fmt d.fw.standby != fmt d.fw.running)) then
    (Status.invalidValue, d)
  else (Status.ok, (d.modFw fun f => { f with swapTick := m, asked := false, ready := false }).put E.SwapState 3)

/-- SWAP_HANDOFF_INTERRUPT: the boundary of tick m - 1 (R475 step 3). -/
def Dev.swapHandoff (d : Dev) : Dev :=
  if d.get E.SwapState = 3 ∧ !d.fw.asked ∧ d.fw.swapTick ≤ d.tickNow + 1 then
    (d.modFw fun f => { f with asked := true }).each ([1, 2, 3, 4] ++ (List.range 8).map (· + 8)) fun m d => d.emit (.interrupt d.now m "handoff")
  else d

/-- HandoffReady by a management core; `block` is what firmware has written where the command says so (R475 step 3). -/
def Dev.handoffReady (master v : Nat) (block : Option Bytes) (d : Dev) : Nat × Dev :=
  if !(1 ≤ master ∧ master ≤ 4) then (Status.privDenied, d)
  else if v ≠ 1 then (Status.invalidValue, d)
  else
    let d := match block with
      | some b => (d.setDom E.HandoffBlock (b.take 1048576)).store E.HandoffBytes (min b.length 1048576)
      | none => d
    (Status.ok, d.modFw fun f => { f with ready := f.ready || f.asked })

/-- SWAP_EXECUTE: the boundary of tick m (R475 step 4). A swap resets the masters of both kinds of core. -/
def Dev.swapExecute (d : Dev) : Dev :=
  if d.get E.SwapState ≠ 3 ∨ d.tickNow < d.fw.swapTick then d
  else match d.fw.ready || !d.fwRunning, d.fw.standby with
    | true, some h =>
      let bank := d.standbyBank
      let d := (d.each [1, 2, 3, 4] Dev.masterReset).upto 4 Dev.pairReset
      let d := d.modAccess fun a => { a with replies := a.replies.filter fun r => !isFirmware r.who.master }
      let d := (d.coresStart bank h).modFw fun f => { f with trial := true, asked := false, ready := false }
      ((d.inc E.Swaps).put E.SwapState 4).bootWrite
    | _, _ => ((d.modFw fun f => { f with asked := false, ready := false }).inc E.SwapsAbandoned).put E.SwapState 5

/-- BankConfirm (R476). -/
def Dev.bankConfirm (v : Nat) (d : Dev) : Nat × Dev :=
  if v ≠ 1 ∨ !d.fw.trial then (Status.invalidValue, d)
  else (Status.ok, ((d.put E.ConfirmedBank (d.get E.ActiveBank)).modFw fun f => { f with trial := false }).bootWrite)

/-! ### Keys, the rollback level and suspended loops -/

/-- KeyRevoke (R471). -/
def Dev.keyRevoke (slot : Nat) (d : Dev) : Nat × Dev :=
  let others := (List.range 4).any fun k => k != slot && d.get (E.KeySlotStatus k) == 1
  let signs := (d.fw.banks.get? (d.get E.ConfirmedBank)).map (·.keySlot) == some slot
  if 4 ≤ slot ∨ !others ∨ signs then (Status.invalidValue, d) else (Status.ok, d.put (E.KeySlotStatus slot) 2)

/-- RollbackCommit (R472): the fuses blow within 20 ms; until then a loss of power may leave fewer blown (Dev.fuseLoss). -/
def Dev.rollbackCommit (level : Nat) (d : Dev) : Nat × Dev :=
  match d.fw.banks.get? (d.get E.ConfirmedBank) with
  | some h =>
    let old := d.get E.RollbackLevel
    if level ≤ old ∨ h.rollback < level then (Status.invalidValue, d)
    else (Status.ok, (d.modFw fun f => { f with blown := some (old, d.now) }).put E.RollbackLevel level)
  | none => (Status.invalidValue, d)

/-- LoopResume of a pair (R467): a suspension ends at the coming boundary. -/
def Dev.loopResume (k v : Nat) (d : Dev) : Nat × Dev :=
  if v ≠ 1 then (Status.invalidValue, d) else (Status.ok, d.modYard fun y => { y with resume := k :: y.resume.filter (· != k) })

/-! ### The commands -/

/-- FIRMWARE_LOAD (R473). -/
def execFirmwareLoad (x : Nat) (bank0 bank1 : Option Bytes) (boot : Option BootState) (s : State) : Host.Outcome State Fault Refusal :=
  s.live x (Dev.firmwareLoad bank0 bank1 boot)
/-- SWAP_PREPARE_DONE (R475). -/
def execSwapPrepareDone (x : Nat) (image : Bytes) (s : State) : Host.Outcome State Fault Refusal := s.live x (Dev.swapPrepared image)
/-- SWAP_HANDOFF_INTERRUPT (R475). -/
def execSwapHandoffInterrupt (x : Nat) (s : State) : Host.Outcome State Fault Refusal := s.live x Dev.swapHandoff
/-- SWAP_EXECUTE (R475). -/
def execSwapExecute (x : Nat) (s : State) : Host.Outcome State Fault Refusal := s.live x Dev.swapExecute

end Sys2Proof.Machine
end

