-- ==== Sys2Proof/Machine/Pools.lean ====
section
/-!
DEFINITION. The buffer pools (R496 to R504): PoolCommand and its result.
-/
namespace Sys2Proof.Machine

/-- Buffer size, number of buffers and base of a pool (R496). -/
def poolShape (p : Nat) : Nat × Nat × Nat :=
  [(256, 1048576, 0x40000000), (2048, 262144, 0x50000000), (10240, 65536, 0x70000000), (65536, 8192, 0x98000000)].getD p (0, 0, 0)

/-- The address of buffer POOL * 2^20 + INDEX. -/
def bufAddr (b : Nat) : Nat := (poolShape (b / 2 ^ 20)).2.2 + b % 2 ^ 20 * (poolShape (b / 2 ^ 20)).1

/-- GEN of a buffer. -/
def Dev.bufGen (d : Dev) (b : Nat) : Nat := d.hbm.gens.getD b 0

/-- The handle of a buffer (R496). -/
def Dev.bufHandle (d : Dev) (b : Nat) : Nat := b / 2 ^ 20 * 2 ^ 30 + d.bufGen b * 2 ^ 24 + b % 2 ^ 20

/-- The buffer that a handle names, by its POOL and INDEX. -/
def handleBuf (h : Nat) : Option Nat :=
  let p := h / 2 ^ 30 % 4
  let i := h % 2 ^ 20
  if fld h 23 20 = 0 ∧ i < (poolShape p).2.1 then some (p * 2 ^ 20 + i) else none

/-- The owners of a set as master IDs. -/
def ownersOf (mask : Nat) : List Nat := (List.range 64).filter (bit mask)

/-- Whether a buffer is shared. -/
def PoolBuf.shared (b : PoolBuf) : Bool := decide (1 < (ownersOf b.owners).length)

/-- PoolFree, PoolLow and SharedSetsInUse follow the buffers. -/
def Dev.poolNote (d : Dev) : Dev :=
  let d := d.upto 4 fun p d =>
    let n := (poolShape p).2.1 - (d.hbm.bufs.between (p * 2 ^ 20) ((p + 1) * 2 ^ 20)).length
    (d.store (E.PoolFree p) n).store (E.PoolLow p) (min n (d.get (E.PoolLow p)))
  d.store E.SharedSetsInUse (d.hbm.bufs.filter fun e => e.2.shared).length

/-- The buffers of pool p whose last owner is m (R498). -/
def Dev.holding (d : Dev) (m p : Nat) : Nat := ((d.hbm.bufs.between (p * 2 ^ 20) ((p + 1) * 2 ^ 20)).filter fun e => e.2.last == m).length

/-- The quota of master m in pool p (R504). -/
def Dev.quota (d : Dev) (m p : Nat) : Nat := fld (d.row T.PoolQuotas m) (32 * p + 31) (32 * p)

/-- The lowest number from i on that a rising list of keys does not hold. -/
def lowestFree (i : Nat) : List Nat → Nat
  | [] => i
  | k :: l => if k = i then lowestFree (i + 1) l else i

/-- The free buffer of pool p with the lowest index. -/
def Dev.freeBuf (d : Dev) (p : Nat) : Option Nat :=
  let b := lowestFree (p * 2 ^ 20) ((d.hbm.bufs.between (p * 2 ^ 20) ((p + 1) * 2 ^ 20)).map (·.1))
  if b - p * 2 ^ 20 < (poolShape p).2.1 then some b else none

/-- The 24 bytes of PoolResult (R497). -/
def poolResult (status reason last flags handle addr owners : Nat) : Nat :=
  status * 2 ^ 184 + reason * 2 ^ 176 + last * 2 ^ 168 + flags * 2 ^ 160 + handle * 2 ^ 128 + addr * 2 ^ 64 + owners

/-- The result for a buffer as it stands. -/
def Dev.bufResult (d : Dev) (status reason b : Nat) : Nat :=
  match d.hbm.bufs.get? b with
  | some v => poolResult status reason v.last (v.poisoned.toNat * 128 + v.shared.toNat * 64) (d.bufHandle b) (bufAddr b) v.owners
  | none => poolResult status reason 0 0 (d.bufHandle b) (bufAddr b) 0

/-- STATUS of a REASON (R497). -/
def reasonStatus (r : Nat) : Nat :=
  match r with
  | 0 => Status.ok
  | 2 | 3 | 4 => Status.full
  | 9 => Status.busy
  | 10 => Status.unavailable
  | _ => Status.invalidValue

/-- What a pool command comes to: its REASON, the buffer it is about, and the state after it. -/
structure PoolOut where
  reason : Nat
  buf    : Option Nat
  dev    : Dev

/-- Put a buffer's state. -/
def Dev.setBuf (b : Nat) (v : PoolBuf) (d : Dev) : Dev := d.modHbm fun h => { h with bufs := h.bufs.set b v }

/-- A buffer becomes free; its GEN increments (R496, R500). -/
def Dev.bufFree (b : Nat) (d : Dev) : Dev :=
  d.modHbm fun h => { h with bufs := h.bufs.erase b, gens := h.gens.set b ((h.gens.getD b 0 + 1) % 64) }

/-- The pools that an ALLOC tries: the smallest that fits, with FALLBACK each larger one too (R498). -/
def allocPools (size : Nat) (fallback : Bool) : List Nat :=
  match (List.range 4).find? fun p => decide (size ≤ (poolShape p).1) with
  | some p => if fallback then List.range' p (4 - p) else [p]
  | none => []

/-- ALLOC (R498, R501). -/
def Dev.poolAlloc (m flags size : Nat) (d : Dev) : PoolOut :=
  if !d.hbmUp then ⟨10, none, d⟩
  else if size = 0 ∨ 65536 < size then ⟨1, none, d⟩
  else
    let why (p : Nat) : Nat := if (d.freeBuf p).isNone then 2 else if d.quota m p ≤ d.holding m p then 3 else 0
    let l := allocPools size (bit flags 0)
    match l.find? fun p => why p == 0 with
    | none => ⟨why (l.headD 0), none, d⟩
    | some p =>
      match d.freeBuf p with
      | none => ⟨2, none, d⟩
      | some b =>
        let d := d.setBuf b { owners := 2 ^ m, last := m }
        ⟨0, some b, d.cond (bit flags 1) (Dev.hbmStore (bufAddr b) (List.replicate (poolShape p).1 0))⟩

/-- The allocated buffer that a current handle names, else REASON 5; 6 where the buffer is free and `double` (R500). -/
def Dev.named (d : Dev) (h : Nat) (double : Bool) : Nat × Option (Nat × PoolBuf) :=
  match handleBuf h with
  | none => (5, none)
  | some b => match d.hbm.bufs.get? b with
    | none => (if double then 6 else 5, none)
    | some v => if d.bufGen b = fld h 29 24 then (0, some (b, v)) else (5, none)

/-- FREE (R500). -/
def Dev.poolFree (m h : Nat) (d : Dev) : PoolOut :=
  match d.named h true with
  | (_, some (b, v)) =>
    if !bit v.owners m then ⟨7, some b, d⟩
    else if v.last ≠ m then ⟨8, some b, d⟩
    else if v.shared then ⟨9, some b, d⟩
    else ⟨0, some b, d.bufFree b⟩
  | (r, none) => ⟨r, handleBuf h, d⟩

/-- SHARE (R499). -/
def Dev.poolShare (m h owners : Nat) (d : Dev) : PoolOut :=
  match d.named h false with
  | (_, some (b, v)) =>
    let v' := { v with owners }
    let others := (d.hbm.bufs.filter fun e => e.1 != b && e.2.shared).length
    if !bit v.owners m then ⟨7, some b, d⟩
    else if v.last ≠ m then ⟨8, some b, d⟩
    else if (ownersOf owners).any fun k => !listedMasters.contains k then ⟨11, some b, d⟩
    else if !bit owners m then ⟨7, some b, d⟩
    else if v'.shared && decide (16384 ≤ others) then ⟨4, some b, d⟩
    else ⟨0, some b, d.setBuf b v'⟩
  | (r, none) => ⟨r, none, d⟩

/-- RELEASE (R499): the last owner has nothing to release. -/
def Dev.poolRelease (m h : Nat) (d : Dev) : PoolOut :=
  match d.named h false with
  | (_, some (b, v)) =>
    if !bit v.owners m || v.last == m then ⟨7, some b, d⟩
    else ⟨0, some b, d.setBuf b { v with owners := setBit v.owners m false }⟩
  | (r, none) => ⟨r, none, d⟩

/-- QUERY (R497). -/
def Dev.poolQuery (h : Nat) (d : Dev) : PoolOut :=
  match d.named h false with
  | (_, some (b, _)) => ⟨0, some b, d⟩
  | (r, none) => ⟨r, none, d⟩

/-- One buffer when master m is reclaimed (R501). -/
def Dev.reclaimOne (m : Nat) (e : Nat × PoolBuf) (d : Dev) : Dev :=
  if !bit e.2.owners m then d
  else
    let left := setBit e.2.owners m false
    match ownersOf left with
    | [] => d.bufFree e.1
    | o :: _ => d.setBuf e.1 { e.2 with owners := left, last := if e.2.last = m then o else e.2.last }

/-- RECLAIM (R501): by masters 0x10 and 0x01 to 0x04. -/
def Dev.poolReclaim (m target : Nat) (d : Dev) : PoolOut :=
  if m = 0x10 ∨ (1 ≤ m ∧ m ≤ 4) then ⟨0, none, d.each d.hbm.bufs (Dev.reclaimOne target)⟩ else ⟨7, none, d⟩

/-- The outcome of a command: counters, a fault for a misused handle, the result of its master, and the trace (R497, R500, R515). -/
def poolEnd (r : Requester) (op handle : Nat) (o : PoolOut) : Dev :=
  let d := o.dev.poolNote
  let st := reasonStatus o.reason
  let res := match o.buf with
    | some b => d.bufResult st o.reason b
    | none => poolResult st o.reason 0 0 handle 0 0
  let d := d.modHbm fun h => { h with poolRes := h.poolRes.set r.master res }
  let d := d.cond (o.reason == 2 || o.reason == 3 || o.reason == 4) (Dev.inc E.PoolRefusals)
  let addr := ((handleBuf handle).map bufAddr).getD 0
  let d := d.cond (o.reason == 5) fun d => (d.inc E.PoolStaleHandles).reportBy Src.poolMisuse addr r.master 1
  let d := d.cond (o.reason == 6) fun d => (d.inc E.PoolDoubleFrees).reportBy Src.poolMisuse addr r.master 1
  let (priv, d) := d.tracePriv r
  d.trace { kind := 7, master := r.master, priv, status := st, idx := 0x7860, row := (o.buf.getD handle) % 2 ^ 20, len := 16,
            detail := op * 2 ^ 24 + o.reason * 2 ^ 16 }

/-- A pool command of a requester (R497): OP, FLAGS, SIZE or HANDLE, OWNERS or master. -/
def Dev.poolCommand (r : Requester) (op flags arg owners : Nat) (d : Dev) : Dev :=
  let m := r.master
  match op with
  | 1 => poolEnd r 1 0 (d.poolAlloc m flags arg)
  | 2 => poolEnd r 2 arg (d.poolFree m arg)
  | 3 => poolEnd r 3 arg (d.poolShare m arg owners)
  | 4 => poolEnd r 4 arg (d.poolRelease m arg)
  | 5 => poolEnd r 5 arg (d.poolQuery arg)
  | 6 => poolEnd r 6 0 (d.poolReclaim m owners)
  | _ => d

/-- The 16 bytes of PoolCommand as a number (R497): refused for a reserved bit; the pool's outcome is in PoolResult. -/
def poolCommandOk (v : Nat) : Bool :=
  let op := fld v 127 120
  decide (1 ≤ op) && decide (op ≤ 6) && fld v 119 112 / 4 == 0 && fld v 111 96 == 0 &&
    (op == 3 || (if op = 6 then fld v 55 0 == 0 else fld v 63 0 == 0))

/-- A write of PoolCommand. Answers a status. -/
def Dev.poolWrite (r : Requester) (v : Nat) (d : Dev) : Nat × Dev :=
  if !poolCommandOk v then (Status.invalidValue, d)
  else
    let op := fld v 127 120
    (Status.ok, d.poolCommand r op (fld v 119 112) (fld v 95 64) (if op = 6 then fld v 63 56 else fld v 63 0))

end Sys2Proof.Machine
end

