-- ==== Sys2Proof/Machine/DictRead.lean ====
section
/-!
DEFINITION. Reading the object dictionary (R11, R31 to R35, R590): which entries exist, who may reach them, the values computed at a read,
and rows and bytes as operations carry them.
-/
namespace Sys2Proof.Machine

/-- An operation record (R43). -/
structure Op where
  opcode : Nat
  idx    : Nat
  sub    : Nat
  ty     : Nat := 0
  data   : Bytes := []
  deriving DecidableEq, Repr

/-! ### What exists (R11, R33, R34, R42) -/

/-- What an index:sub names. -/
inductive Place where
  /-- A value that is always RO: its type, value and required privilege. -/
  | fixed (ty : Ty) (v priv : Nat)
  /-- A scalar, STR or DOMAIN entry. -/
  | entry (e : EntrySpec)
  /-- A TABLE, through its sub-index 0. -/
  | table (e : EntrySpec) (t : TableSpec)
  deriving DecidableEq, Repr

/-- The sizes of the types 0x01 to 0x0F (R32, R34). -/
def typeSizes : List Nat := [1, 1, 2, 4, 8, 4, 8, 12, 8, 6, 4, 16, 0, 0, 0]

/-- The index of row layout n; the spec names only its range (log 10). -/
def layoutIndex (n : Nat) : Nat := 0x40 + (Config.layoutSalt + n) % 192

/-- The row layout that an index of the area describes. -/
def layoutAt (idx : Nat) : Option (Nat × List (Nat × Nat)) := rowLayouts[(idx - 0x40 + (192 - Config.layoutSalt % 192)) % 192]?

/-- The place of a fixed number, or a missing sub-index. -/
def fixedAt (priv : Nat) (l : List (Ty × Nat)) (sub : Nat) : Except Nat Place :=
  match (((Ty.u8, l.length) :: l)[sub]? : Option (Ty × Nat)) with
  | some (ty, v) => .ok (.fixed ty v priv)
  | none => .error Status.noSubindex

/-- The entries at an index. -/
def specsAt (idx : Nat) : List EntrySpec :=
  (specsNear idx).filter fun e => decide (e.idx ≤ idx) && (idx - e.idx) % e.step == 0 && decide ((idx - e.idx) / e.step < e.n)

/-- Whether row t's valid field is set in a row. -/
def TableSpec.validRow (s : TableSpec) (r : Nat) : Bool :=
  match s.valid with
  | some b => bit r b
  | none => true

/-- The rows of TABLE t whose reset value has their valid field set. -/
def validAtReset (t : Nat) : List Nat := if t = T.Vlans then [1] else []

/-- RowsInUse (R33): rows whose valid field is set, or rows written; what the device computes at a read counts as it stands, and a TABLE of all
pipelines or pairs counts the rows that it reads. -/
def Dev.rowsInUse (d : Dev) (s : TableSpec) (t : Nat) : Nat :=
  if t = T.Subscriptions then d.access.subs.length
  else if t = T.Sessions then d.access.sessions.length
  else if t = T.SweepCatalog then catalog.length
  else if t = T.PaddockSlots then d.slotsUsed.length
  else
    let (t', i) := (rowsOf t 0).headD (t, 0)
    let l := d.dict.rows.between (t' * 2 ^ 20 + i) (t' * 2 ^ 20 + i + s.cap)
    let fresh := (validAtReset t).filter fun j => (d.dict.rows.get? (t' * 2 ^ 20 + j)).isNone
    (l.filter fun e => s.validRow e.2).length + fresh.length

/-- What index:sub names, or NO_ENTRY or NO_SUBINDEX (R36 steps 1 and 2). -/
def Dev.locate (d : Dev) (idx sub : Nat) : Except Nat Place :=
  if idx = 0 then .error Status.noEntry
  else if idx < 0x10 then fixedAt 4 [(.u16, typeSizes.getD (idx - 1) 0)] sub
  else if idx < 0x100 then
    match if idx < 0x40 then none else layoutAt idx with
    | some (_, l) => fixedAt 4 (l.map fun f => (Ty.u32, f.1 * 2 ^ 16 + f.2)) sub
    | none => .error Status.noEntry
  else match tableOf idx with
    | some t => match specOf idx 0 with
      | some e =>
        if sub = 0 then .ok (.table e t)
        else fixedAt e.priv [(.u16, t.bits), (.u32, t.cap), (.u32, d.rowsInUse t idx), (.u16, layoutIndex t.layout)] sub
      | none => .error Status.noEntry
    | none => match specsAt idx with
      | [] => .error Status.noEntry
      | e :: l => match specOf idx sub with
        | some s => .ok (.entry s)
        | none =>
          if sub = 0 then
            .ok (.fixed .u8 ((e :: l).map fun s => s.subHi + 1 - s.subLo).sum ((e :: l).foldl (fun m s => max m s.priv) 0))
          else .error Status.noSubindex

/-- The key of index:sub. -/
def entryKey (idx sub : Nat) : Nat := idx * 256 + sub

/-! ### Privilege (R13, R35, R56, R467, R475) -/

/-- The privilege a place requires of a requester; entries that every requester of a group may reach are so marked here. -/
def Place.priv (p : Place) : Nat :=
  match p with
  | .fixed _ _ q => q
  | .entry e => e.priv
  | .table e _ => e.priv

/-- Whether NodeName, which P4 may read (R35). -/
def openToP4 (idx sub : Nat) : Bool := entryKey idx sub == E.NodeName

/-- Whether the host may write an entry that firmware owns (R385, R467). -/
def openToHost (idx sub : Nat) : Bool := entryKey idx sub == E.PaddockComplete || idx == E.LoopResume 0 / 256

/-- The operations of a session of a read-only key slot (R56). -/
def readOnlyOps : List Nat := [0x01, 0x03, 0x04, 0x06, 0x08, 0x09, 0x0B, 0x0D]

/-- Whether a Prosta requester's session belongs to a read-only slot (R56). -/
def Dev.sessionReadOnly (d : Dev) (r : Requester) : Bool :=
  r.master == 0x20 && (match d.session? r.session with
    | some s => d.getB (E.KeySlotReadOnly s.slot)
    | none => false)

/-- Whether a requester may use an operation on a place (R36 step 3); the device's own engines have every privilege, and a master that never
appears has none (R15). What P4 may read, every lower number may (R13, R69). -/
def Dev.mayUse (d : Dev) (r : Requester) (opcode idx sub : Nat) (p : Place) : Bool :=
  let reads := opcode == 0x01 || opcode == 0x03 || opcode == 0x04 || opcode == 0x06
  let opened := reads && (openToP4 idx sub || (decide (idx < 0x200) && decide (0 < idx)))
  d.served r.master && (!d.sessionReadOnly r || readOnlyOps.contains opcode) &&
    (match d.privOf r with
      | none => true
      | some 4 => opened || (reads && p.priv == 4)
      | some q => opened || decide (q ≤ p.priv) || (r.master == 0x10 && openToHost idx sub))

/-! ### Values computed at a read -/

/-- The active value of a scalar entry as a read finds it. -/
def Dev.scalNow (d : Dev) (k : Nat) : Nat :=
  if k = E.RawCount then rawOf d.now
  else if k = E.DomainTime 0 then toTimex (d.domainTime 0 d.now)
  else if k = E.DomainTime 1 then toTimex (d.domainTime 1 d.now)
  else if k = E.OutputTime then d.stamp
  else if k = E.TickNumber then d.tickNow
  else if k = E.HbmBytes then (if d.hbmUp then d.get k else 0)
  else if k = E.ReservedCells then d.minSum
  else if k = E.FreeCells then d.freeCells
  else if k = E.FreeShared then d.freeShared
  else if k = E.InFlightCells then d.inFlightCells
  else if k = E.QueuedCells then d.queuedCells
  else if k = E.ResidueCells then d.residueCells
  else if k = E.ReleasingCells then d.net.releasing
  else if k = E.ResidueInUse then d.net.residue.length
  else if k = E.SpillQueues then d.spillSet
  else if k = E.SpillCells then d.spillCells
  else if k % 256 = 5 ∧ E.WeavePosition 0 ≤ k ∧ k ≤ E.WeavePosition 95 then d.weavePos ((k - E.WeavePosition 0) / 256)
  else if E.LaunchSlotsInUse 0 ≤ k ∧ k ≤ E.LaunchSlotsInUse 7 then d.slotsInUse (k - E.LaunchSlotsInUse 0)
  else if k = E.SweepBanksInUse then (d.tele.dumps.map (·.bank)).eraseDups.length
  else if k = E.SweepWordsSelected then d.sweepWords
  else if k = E.FecMode ((k / 256 - 0x1000) / 16) ∧ (k / 256 - 0x1000) / 16 < 96 then
    fecOf (d.get (E.PortMode ((k / 256 - 0x1000) / 16))) (d.get k)
  else if k = E.BankState 0 ∧ d.bankOpen 0 then 3
  else if k = E.BankState 1 ∧ d.bankOpen 1 then 3
  else d.get k

/-- The six levels of BufferSnapshot, taken in one clock (R281). -/
def Dev.bufferSnapshot (d : Dev) : Bytes :=
  ((List.range 6).map fun i => toBE 4 (d.scalNow (0x400003 + i))).flatten

/-- The EmRows row of the queried key with HIT set by any copy's search (R198, R199); a row with VALID 0 where it is absent. -/
def Dev.emQuery (d : Dev) : Nat :=
  let key := fromBE (d.dom E.EmQueryKey)
  match d.emAt 0 key with
  | some i =>
    let hit := (List.range 4).any fun c => bit (d.row (T.EmRows c) i) 254
    setBit (d.row (T.EmRows 0) i) 254 hit
  | none => 0

/-- A read of EmQueryResult clears HIT in every copy (R198). -/
def Dev.emQueryClear (d : Dev) : Dev :=
  match d.emAt 0 (fromBE (d.dom E.EmQueryKey)) with
  | some i => d.upto 4 fun c d => d.setRowFld (T.EmRows c) i 254 254 0
  | none => d

/-- The FaultCapture bytes (R538). -/
def Dev.captureBytes (d : Dev) : Bytes :=
  let c := d.faults.cap
  toBE 4 c.info ++ toBE 4 c.seq ++ toBE 8 c.addr ++ toBE 12 c.time ++ [0, 0, 0, 0]

/-- The value of a STR or DOMAIN as master m reads it (R486, R497: PoolResult and HbmTrainResult are the reading master's own). -/
def Dev.domNow (d : Dev) (k m : Nat) : Bytes :=
  if k = E.BufferSnapshot then d.bufferSnapshot
  else if k / 256 = E.L2QueryResult 0 / 256 then
    let q := d.dom E.L2QueryKey
    let pl := k - E.L2QueryResult 0
    toBE 11 (((d.l2At pl (beAt q 0 2) (beAt q 2 6)).map fun i => d.row (T.L2Rows pl) i).getD 0)
  else if k = E.EmQueryResult then toBE 32 d.emQuery
  else if k = E.FaultCapture then d.captureBytes
  else if k = E.PoolResult then toBE 24 (d.hbm.poolRes.getD m 0)
  else if k = E.HbmTrainResult then toBE 16 (d.hbm.results.getD m 0)
  else d.dom k

/-- A bucket's level in whole bytes, rounded down, as the 32 bits of an I32 (R317). -/
def bucketBytes (v : Int) : Nat := enc 32 (v / 64000000)

/-- Row i of PaddockSlots (R394). -/
def Dev.slotRow (d : Dev) (i : Nat) : Nat :=
  let s := d.slot i
  if s.state = 0 then s.gen * 2 ^ 54
  else s.state * 2 ^ 62 + s.kind * 2 ^ 58 + s.gen * 2 ^ 54 + s.src % 1024 * 2 ^ 44 + s.src / 1024 * 2 ^ 43 +
    min ((d.now - s.x) / 8) (2 ^ 32 - 1)

/-- Row i of Sessions. -/
def Dev.sessionRow (d : Dev) (i : Nat) : Nat :=
  match d.access.sessions[i]? with
  | some s => 2 ^ 191 + s.id % 2 ^ 32 * 2 ^ 128 + s.slot * 2 ^ 120 + (d.now - s.last) / 8000000000 % 2 ^ 32 * 2 ^ 64 + s.high % 2 ^ 64
  | none => 0

/-- Row i of Subscriptions. -/
def Dev.subRow (d : Dev) (i : Nat) : Nat :=
  match d.access.subs[i]? with
  | some s => 2 ^ 127 + s.who.master * 2 ^ 96 + s.who.session % 2 ^ 32 * 2 ^ 64 + s.idx * 2 ^ 48 + s.sub * 2 ^ 40 + s.lost % 2 ^ 32
  | none => 0

/-- Row i of QueueState (R283). -/
def Dev.queueStateRow (d : Dev) (i : Nat) : Nat :=
  d.occ i * 2 ^ 109 + Row.QueueState.highWater (d.row T.QueueState i) * 2 ^ 90 + (d.spilling i).toNat * 2 ^ 89 +
    (if d.spilling i then d.tailPart i else 0) * 2 ^ 70 + d.hbmPart i * 2 ^ 43 + d.framesOn i * 2 ^ 24

/-- Row i of TABLE t as a read finds it. -/
def Dev.rowNow (d : Dev) (t i : Nat) : Nat :=
  if t = T.QueueState then d.queueStateRow i
  else if t = T.ShaperTokens then
    let b := if i < 1536 then d.bucket i (d.row T.QueueShapers i) else d.bucket (portBucket (i - 1536)) (d.row T.PortShapers (i - 1536))
    bucketBytes b.c * 2 ^ 32 + bucketBytes b.p
  else if t = T.PaddockSlots then d.slotRow i
  else if t = T.Sessions then d.sessionRow i
  else if t = T.Subscriptions then d.subRow i
  else if t = T.SweepCatalog then catalog.getD i 0
  else d.row t i

/-- Row i of TABLE t for a requester; a TABLE of all pipelines or pairs reads as PL0's or pair 0's (R172). -/
def Dev.rowRead (d : Dev) (t i : Nat) : Nat :=
  match rowsOf t i with
  | [] => 0
  | e :: _ => d.rowNow e.1 e.2

/-- Whether the storage of a row shows an uncorrected error (R40, R209). -/
def Dev.rowBad (d : Dev) (t i : Nat) : Bool := ((rowsOf t i).take 1).any d.net.bad.contains

/-- Rows first to first + n - 1 as bytes, each padded to whole bytes (R33). -/
def Dev.rowsRead (d : Dev) (t bits first n : Nat) : Bytes :=
  (List.range n).flatMap fun j => toBE (cdiv bits 8) (d.rowRead t (first + j))

/-- Bytes off to off + len - 1 of a TABLE's rows. -/
def Dev.tableBytes (d : Dev) (t bits off len : Nat) : Bytes :=
  let w := cdiv bits 8
  slice (d.rowsRead t bits (off / w) (cdiv (off % w + len) w)) (off % w) len

/-- Whether one of the rows first to first + n - 1 shows an uncorrected error. -/
def Dev.rowsBad (d : Dev) (t first n : Nat) : Bool := (List.range n).any fun j => d.rowBad t (first + j)

/-! ### What a read does (R12) -/

/-- An entry's value as bytes for master m. -/
def Dev.valueNow (d : Dev) (e : EntrySpec) (k m : Nat) : Bytes :=
  if e.ty.bytes = 0 then d.domNow k m else toBE e.ty.bytes (d.scalNow k)

/-- What a read of an entry changes: an RC entry becomes 0, with one event where it was not (R12, R61); FreeCellsLow starts again from the
free cells (R281); EmQueryResult clears HIT. -/
def Dev.readEffect (e : EntrySpec) (k : Nat) (d : Dev) : Dev :=
  if k = E.FreeCellsLow then d.store k d.freeCells
  else if k = E.EmQueryResult then d.emQueryClear
  else if e.acc = .rc then d.put k 0
  else d

end Sys2Proof.Machine
end

