-- ==== Sys2Proof/Machine/Image.lean ====
section
/-!
DEFINITION. The dictionary image (R547): building the image of a store (R550), and taking an image apart.
-/
namespace Sys2Proof.Machine

/-! ### Storing (R550) -/

/-- Bytes padded with zeros to a multiple of 4. -/
def pad4 (b : Bytes) : Bytes := b ++ List.replicate ((4 - b.length % 4) % 4) 0

/-- A record of an image (R547). -/
def imageRecord (idx sub ty first : Nat) (data : Bytes) : Bytes :=
  toBE 2 idx ++ toBE 1 sub ++ toBE 1 ty ++ toBE 4 data.length ++ toBE 4 first ++ pad4 data

/-- Whether an image keeps an entry: its access code is RW or RWT, or it is one of the two HBM records (R550). -/
def EntrySpec.stored (e : EntrySpec) (k : Nat) : Bool :=
  e.acc == .rw || e.acc == .rwt || k == E.HbmTrainingStore || k == E.HbmRepairPending

/-- The record of a scalar entry that differs from its default. -/
def scalRecord (e : Nat × Nat) : Option Bytes :=
  match specOf (e.1 / 256) (e.1 % 256) with
  | some s => if s.stored e.1 && e.2 != defaultOf e.1 then some (imageRecord (e.1 / 256) (e.1 % 256) s.ty.code 0 (toBE s.ty.bytes e.2)) else none
  | none => none

/-- The record of a STR or DOMAIN that differs from its default; a session key is encrypted under the device key with nonce n (R72, R547). -/
def domRecord (n : Nat) (e : Nat × Bytes) : Option Bytes :=
  match specOf (e.1 / 256) (e.1 % 256) with
  | some s =>
    let rec' (b : Bytes) : Bytes := imageRecord (e.1 / 256) (e.1 % 256) s.ty.code 0 b
    if e.2 = defaultDom e.1 then none
    else if e.1 / 256 = E.SessionKey 0 / 256 then
      let nonce := (Config.drbg n).take 12
      some (rec' (nonce ++ Config.gcmSeal Config.deviceKey nonce [] e.2))
    else if s.stored e.1 then some (rec' e.2) else none
  | none => none

/-- The record of a row of an RW or RWT TABLE that differs from its default. -/
def rowRecord (e : Nat × Nat) : Option Bytes :=
  let t := e.1 / 2 ^ 20
  let i := e.1 % 2 ^ 20
  match specOf t 0, tableOf t with
  | some s, some ts => if s.stored (t * 256) && e.2 != defaultRow t i then some (imageRecord t 0 0x0F i (toBE (cdiv ts.bits 8) e.2)) else none
  | _, _ => none

/-- Add a record at its place: rising index, sub-index and row. -/
def recordAt (k : Nat) (r : Option Bytes) (m : FMap Bytes) : FMap Bytes :=
  match r with
  | some b => m.set k b
  | none => m

/-- The records of a store, in rising order of index, sub-index and row. -/
def Dev.storeRecords (d : Dev) : FMap Bytes :=
  let place (k : Nat) : Nat := k / 256 * 2 ^ 28 + k % 256 * 2 ^ 20
  let m : FMap Bytes := d.dict.scal.foldl (fun m (e : Nat × Nat) => recordAt (place e.1) (scalRecord e) m) []
  let m := d.dict.doms.foldl (fun m (e : Nat × Bytes) => recordAt (place e.1) (domRecord (d.access.nonces + e.1 % 256) e) m) m
  d.dict.rows.foldl (fun m (e : Nat × Nat) => recordAt (e.1 / 2 ^ 20 * 2 ^ 28 + e.1 % 2 ^ 20) (rowRecord e) m) m

/-- Whether a stored image holds keys. -/
def Dev.storesKeys (d : Dev) : Bool :=
  d.dict.doms.any fun (e : Nat × Bytes) => e.1 / 256 == E.SessionKey 0 / 256 && (domRecord 0 e).isSome

/-- The image that a store writes (R547, R550). -/
def Dev.storeImage (d : Dev) : Bytes :=
  let recs := d.storeRecords
  let body := recs.flatMap fun (e : Nat × Bytes) => e.2
  let keys := d.storesKeys
  let head := toBE 4 0x4A544449 ++ toBE 2 1 ++ toBE 2 64 ++ toBE 4 (d.get E.ImageVersion) ++ toBE 4 (d.get E.DictionaryVersion) ++
    toBE 8 (d.power.newestSeq + 1) ++ toBE 8 (if keys then d.get E.UniqueId else 0) ++ toBE 4 recs.length ++ toBE 4 body.length ++
    toBE 4 keys.toNat ++ toBE 4 0 ++ toBE 12 d.stamp
  head ++ toBE 4 (crc32c 0xFFFFFFFF head) ++ body ++ toBE 4 (crc32c 0xFFFFFFFF body)

/-- Change power. -/
def Dev.modPower (g : Power → Power) (d : Dev) : Dev := { d with power := g d.power }

/-- The slot a store writes: the one that does not hold the newest valid image. -/
def Dev.storeSlot (d : Dev) : Nat := if d.power.newest = 0 then 1 else 0

/-- StoreImage (R550): refused with BUSY while a store runs. -/
def Dev.storeStart (d : Dev) : Nat × Dev :=
  if d.power.storing then (Status.busy, d)
  else
    let img := d.storeImage
    let d := (d.modPower fun p => { p with storing := true }).put E.StoreStatus 1
    (Status.ok, ((d.modAccess fun a => { a with nonces := a.nonces + 9 }).store E.Modified 0).emit
      (.flash d.now (if d.storeSlot = 0 then "dictionary slot A" else "dictionary slot B") img))

/-- STORE_COMPLETE: the store has ended; the image written is then the newest, or a flash error leaves the older one (R550). -/
def Dev.storeComplete (ok : Bool) (d : Dev) : Dev :=
  if !d.power.storing then d
  else
    let slot := d.storeSlot
    let d := d.modPower fun p =>
      if ok then { p with storing := false, newest := slot, newestSeq := p.newestSeq + 1 } else { p with storing := false }
    d.put E.StoreStatus (if ok then 2 else 3)

/-! ### Taking an image apart (R547) -/

/-- A record of an image: index, sub-index, type, FIRST and data. -/
structure ImageRec where
  idx   : Nat
  sub   : Nat
  ty    : Nat
  first : Nat
  data  : Bytes
  deriving DecidableEq, Repr

/-- The records of a body, or none where one does not end within it; fuel is the number of bytes. -/
def imageRecs : Nat → Bytes → Option (List ImageRec)
  | 0, b => if b.isEmpty then some [] else none
  | fuel + 1, b =>
    if b.isEmpty then some []
    else
      let len := beAt b 4 4
      let size := 12 + (len + 3) / 4 * 4
      if b.length < size then none
      else (imageRecs fuel (b.drop size)).map fun l =>
        { idx := beAt b 0 2, sub := beAt b 2 1, ty := beAt b 3 1, first := beAt b 8 4, data := slice b 12 len } :: l

/-- BODY_LEN of an image. -/
def imageBodyLen (b : Bytes) : Nat := beAt b 36 4

/-- Its body. -/
def imageBody (b : Bytes) : Bytes := slice b 64 (imageBodyLen b)

/-- SEQUENCE of an image. -/
def imageSeq (b : Bytes) : Nat := beAt b 16 8

end Sys2Proof.Machine
end

