-- ==== Sys2Proof/Machine/DictActions.lean ====
section
/-!
DEFINITION. What a write does beyond storing its value, entry by entry. A write here has passed steps 1 to 6 of R36; what an action answers is
the status of step 7. `boot` marks the boot sequencer's writes: RWT entries take effect at once and ports do not yet start (R548).
-/
namespace Sys2Proof.Machine

/-- An action that always succeeds. -/
def acted (d : Dev) : Option (Nat × Dev) := some (Status.ok, d)

/-! ### Time (chapter 03) -/

/-- Change the pending servo writes of domain i. -/
def Dev.modPend (i : Nat) (g : ServoPend → ServoPend) (d : Dev) : Dev :=
  let s := d.domainSt i
  d.setDomainSt i { s with pend := g s.pend }

/-- SetTime (R80, R82, R85): refused unless the domain is in ACQUIRE, or returns to it at the coming boundary. -/
def Dev.setTime (i t : Nat) (d : Dev) : Nat × Dev :=
  if d.get (E.DomainState i) ≠ 0 ∧ !(d.domainSt i).pend.reacquire then (Status.invalidValue, d)
  else (Status.ok, d.modPend i fun p => { p with setTime := some (fromTimex t : Int), written := true })

/-- RateWord (R80, R82). -/
def Dev.rateWrite (i : Nat) (w : Int) (d : Dev) : Nat × Dev :=
  if w < -281474976710 ∨ 281474976710 < w then (Status.invalidValue, d)
  else (Status.ok, d.modPend i fun p => { p with rate := some w, written := true })

/-- The ticks of an interval of ns (R105): 0 disables. -/
def Dev.intervalTicks (d : Dev) (ns : Nat) : Nat := if ns = 0 then 0 else max 1 (rdiv ns d.period)

/-- The role of port p in domain i. -/
def Dev.roleOf (d : Dev) (i p : Nat) : Nat := d.get (if i = 0 then E.RoleA p else E.RoleB p)

/-- The values of preset v (R105): DomainNumber, MajorSdoId, Transport, DelayMechanism, MasterMode, OneStep, and the Sync, Delay_Req and
peer delay intervals in ns. -/
def presetValues (v : Nat) : List Nat × Nat × Nat × Nat :=
  match v with
  | 1 => ([0, 0, 7, 1, 0, 0], 1000000000, 1000000000, 0)
  | 2 => ([0, 1, 1, 2, 1, 0], 125000000, 0, 1000000000)
  | _ => ([24, 0, 1, 2, 1, 1], 1000000, 0, 125000000)

/-- ProfilePreset of domain i (R105), with a note of the ports whose interval it sets. What it sets is no write to an entry that the other domain's
preset has set (log 147). -/
def Dev.preset (i v : Nat) (d : Dev) : Dev :=
  let (l, sync, dreq, pd) := presetValues v
  let d := d.each ((List.range 6).zip l) fun e d => d.put (E.DomainNumber i + e.1) e.2
  let d := (d.put (E.SyncIntervalTicks i) (d.intervalTicks sync)).put (E.DelayReqIntervalTicks i) (d.intervalTicks dreq)
  let ports := (List.range 96).filter fun p => d.roleOf i p != 0
  let d := d.each ports fun p d => d.put (E.PdelayIntervalTicks p) (d.intervalTicks pd)
  (d.setDomainSt i { d.domainSt i with pdelayOf := ports }).put (E.ProfilePreset i) v

/-- A write to an entry that a preset of domain i set: ProfilePreset reads 0 (R105). -/
def Dev.presetGone (i : Nat) (d : Dev) : Dev := d.cond (d.get (E.ProfilePreset i) != 0) (Dev.put (E.ProfilePreset i) 0)

/-- Writes of chapter 03 that act. -/
def Dev.timeAct (k v : Nat) (d : Dev) : Option (Nat × Dev) :=
  let i := (k - E.DomainState 0) / 256
  let p := (k / 256 - E.RoleA 0 / 256)
  if E.DomainState 0 ≤ k ∧ i < 2 then
    if k = E.SetTime i then some (d.setTime i v)
    else if k = E.RateWord i then some (d.rateWrite i (sgn 64 v))
    else if k = E.PhaseAdjust i then acted (d.modPend i fun q => { q with phase := q.phase + sgn 64 v, written := true })
    else if k = E.Reacquire i then acted (d.modPend i fun q => { q with reacquire := true })
    else if k = E.Locked i then
      let lost := d.getB k && v == 0
      acted ((d.put k v).cond lost fun d => (d.ppsHold).report Src.domainLockLost i)
    else if k = E.ProfilePreset i then acted (d.preset i v)
    else if E.DomainNumber i ≤ k ∧ k ≤ E.DelayReqIntervalTicks i then acted ((d.put k v).presetGone i)
    else none
  else if p < 96 ∧ k = E.PdelayIntervalTicks p then
    acted ((d.put k v).upto 2 fun i d => d.cond ((d.domainSt i).pdelayOf.contains p) (Dev.presetGone i))
  else if k = E.OutSource 0 ∨ k = E.OutOffset 0 then acted (((d.put k v).ppsArm 0).ppsHold)
  else if k = E.OutSource 1 ∨ k = E.OutOffset 1 then acted (((d.put k v).ppsArm 1).ppsHold)
  else if k = E.OutGate 0 ∨ k = E.OutGate 1 then acted (d.put k v).ppsHold
  else if k = E.OutputDomain then acted { d with time := { d.time with outDom := some v } }
  else if k = E.OutputReacquire then
    acted (({ d with time := { d.time with outReacq := true } }).report Src.outputReacquire (d.get E.OutputDomain))
  else if k = E.PllRefSelect then acted (d.put k v).pllSelect
  else none

/-! ### Ports, tables, queues (chapters 04, 06, 08, 09, 14) -/

/-- HIGH_WATER of row i takes its OCC (R283). -/
def Dev.highWaterClear (i : Nat) (d : Dev) : Dev := d.setRowFld T.QueueState i 108 90 (d.occ i)

/-- The rows of a TABLE that are stored, by row number. -/
def Dev.storedRows (d : Dev) (t : Nat) : List Nat := (d.dict.rows.between (t * 2 ^ 20) ((t + 1) * 2 ^ 20)).map (·.1 % 2 ^ 20)

/-- A port entry whose write restarts an enabled port from DOWN (R123). -/
def restartsPort (p k : Nat) : Bool :=
  k == E.PortMode p || k == E.Medium p || k == E.FecMode p || k == E.AnEnable p || k == E.AnAdvertise p

/-- Writes of the port and table chapters that act. -/
def Dev.netAct (boot : Bool) (k v : Nat) (d : Dev) : Option (Nat × Dev) :=
  let p := (k / 256 - 0x1000) / 16
  if 0x1000 ≤ k / 256 ∧ p < 96 ∧ !boot then
    if k = E.PortEnable p then acted (d.portEnable p (v == 1))
    else if restartsPort p k then acted ((d.put k v).cond (d.getB (E.PortEnable p)) (Dev.portRestart p)).absorbUpdate
    else if k = E.PreemptEnable p ∨ k = E.VerifyDisable p then acted ((d.put k v).verifyWrite p)
    else none
  else if k = E.QueueHighWaterClear then acted (d.each (if v = 0xFFFF then d.storedRows T.QueueState else [v]) Dev.highWaterClear)
  else if k = E.StreamUnblock then acted (d.each (if v = 0xFFFFFFFF then d.storedRows T.StreamBlocked else [v]) Dev.unblock)
  else if k = E.GateUnlatch then acted (d.each (if v = 0xFFFFFFFF then d.storedRows T.GateLatched else [v]) Dev.unlatch)
  else if k = E.HistogramClear then acted { d with net := { d.net with histReset := v :: d.net.histReset } }
  else if k = E.DelayBinBase then acted { d.put k v with net := { d.net with delayReset := true } }
  else if k = E.PuntRateKbps then
    let t := d.puntTokens
    acted ((d.modHost fun h => { h with tokens := t, tokenX := d.now }).put k v)
  else none

/-! ### Sessions (R54, R71) -/

/-- A session ends: its subscriptions, its queue and its open transfers with it (R41, R54, R60). -/
def Dev.sessionDrop (sid : Nat) (d : Dev) : Dev :=
  let who : Requester := ⟨0x20, sid⟩
  d.modAccess fun a => { a with
    sessions := a.sessions.filter fun s => s.id != sid
    subs := a.subs.filter fun s => s.who != who
    queues := a.queues.filter fun q => q.who != who
    bulks := a.bulks.filter fun b => b.who != who
    bulkLost := a.bulkLost.filter fun e => e.1 != who }

/-- The sessions of a key slot end. -/
def Dev.slotSessionsDrop (slot : Nat) (d : Dev) : Dev :=
  d.each ((d.access.sessions.filter fun s => s.slot == slot).map (·.id)) Dev.sessionDrop

/-! ### The rest of the device (chapters 02, 11, 13, 15, 16, 18, 19) -/

/-- After a write of BwWindowTicks no window counts as complete and VALID of every port reads 0 (R520). -/
def Dev.bwRestart (d : Dev) : Dev :=
  let d := { d with tele := { d.tele with bwTime := none } }
  d.upto 96 fun p => Dev.setRowFld T.PortBandwidth p 23 23 0

/-- Writes by which the device is run that act. `block` is a handoff block handed over with HandoffReady. -/
def Dev.sysAct (r : Requester) (block : Option Bytes) (k v : Nat) (d : Dev) : Option (Nat × Dev) :=
  let j := k % 256 - 1
  if k = E.StoreImage then some d.storeStart
  else if k = E.KeySlotEnable j then acted ((d.put k v).slotSessionsDrop j)
  else if k = E.YardSafeRequest then some (d.yardSafeRequest v)
  else if k = E.YardSafeRelease then some (d.yardSafeRelease v)
  else if k = E.YardEventFlush then some (d.eventFlush v)
  else if k = E.PairEnable then acted (d.pairSwitch (v == 1))
  else if k = E.MirrorResync then some (d.mirrorResync v)
  else if k = E.TakeoverArm then some (d.takeoverArm v)
  else if k = E.OwnClaim then some (d.ownClaim v)
  else if k = E.OwnRelease then some (d.ownRelease v)
  else if k = E.BankConfirm then some (d.bankConfirm v)
  else if k = E.SwapPrepare then some (d.swapPrepare v)
  else if k = E.SwapRequest then some (d.swapRequest v)
  else if k = E.HandoffReady then some (d.handoffReady r.master v block)
  else if k = E.KeyRevoke then some (d.keyRevoke v)
  else if k = E.RollbackCommit then some (d.rollbackCommit v)
  else if k = E.LoopResume j then some (d.loopResume j v)
  else if k = E.HbmRetrain then some (d.hbmRetrain v)
  else if k = E.HbmOffline then some (d.hbmOffline v)
  else if k = E.FaultNRelease then acted d.faultNRelease
  else if k = E.FaultClassClear then acted (d.classClear v)
  else if k = E.CaptureRearm then acted d.captureRearm
  else if k = E.PortShutClear then acted (d.portShutClear v)
  else if k = E.WdMgmtKick then acted (d.mgmtKick r.master)
  else if k = E.WdTickKick j then acted (d.tickKick j r.master)
  else if k = E.ShedRequest then some d.shedRequest
  else if k = E.ShedExit then some d.shedExit
  else if k = E.StabledRequest then acted d.stableBegin
  else if k = E.BwWindowTicks then acted ((d.put k v).bwRestart)
  else none

/-- A LoopOwner write waits for the boundary (R343). -/
def Dev.waitAct (boot : Bool) (k v : Nat) (d : Dev) : Option (Nat × Dev) :=
  if k / 256 = E.LoopOwner 0 / 256 ∧ !boot then acted (d.entryWait k v) else none

/-- The effect of a scalar write. -/
def Dev.scalAct (r : Requester) (boot : Bool) (block : Option Bytes) (k v : Nat) (d : Dev) : Nat × Dev :=
  ((d.timeAct k v).or ((d.netAct boot k v).or ((d.waitAct boot k v).or (d.sysAct r block k v)))).getD (Status.ok, d.put k v)

/-! ### STR and DOMAIN writes -/

/-- A table write through update slots: none, its response waits; the boot sequencer's takes effect at once. -/
def Dev.tableUpdate (boot : Bool) (u : Update) (d : Dev) : Option Nat × Dev :=
  if boot then (some Status.ok, d.updateWhole { u with ticket := none })
  else if u.left.isEmpty then (some Status.ok, d)
  else (none, d.updateQueue u)

/-- L2Flush (R189, R213, R215): each masked pipeline visits its rows in update slots, and the response returns with the last of them. -/
def Dev.l2Flush (boot : Bool) (tk : Option (Nat × Nat)) (v : Nat) (d : Dev) : Option Nat × Dev :=
  let mode := fld v 23 22
  let pls := maskPls (fld v 31 24)
  if mode = 3 ∨ fld v 21 20 ≠ 0 ∨ bit v 7 then (some Status.invalidValue, d)
  else if d.getB E.L2FlushBusy then (some Status.busy, d)
  else (d.cond (!boot && !pls.isEmpty) (Dev.putB E.L2FlushBusy true)).tableUpdate boot
    { ticket := tk, op := .flush mode (fld v 6 0) (fld v 19 8), left := pls.map fun pl => (pl, 262144) }

/-- L2Insert (R189, R215). -/
def Dev.l2Insert (boot : Bool) (tk : Option (Nat × Nat)) (n : Nat) (d : Dev) : Option Nat × Dev :=
  let row := n % 2 ^ 88
  let pls := maskPls (fld n 111 104)
  let resv := ((tableOf (T.L2Rows 0)).map (·.resv)).getD 0
  let fid := Row.L2Rows.fid row
  let mac := Row.L2Rows.mac row
  let v := d.drained
  let dup (pl : Nat) : Bool := match v.l2At pl fid mac with
    | some i => Row.L2Rows.static (v.row (T.L2Rows pl) i) == 1
    | none => false
  if fld n 103 88 ≠ 0 ∨ (row &&& resv) ≠ 0 ∨ Row.L2Rows.valid row = 0 ∨ destRefused (l2Dest row) then (some Status.invalidValue, d)
  else if Row.L2Rows.static row = 0 ∧ pls.any dup then (some Status.duplicate, d)
  else if pls.any fun pl => (v.l2Place pl fid mac).isNone then (some Status.full, d)
  else d.tableUpdate boot { ticket := tk, op := .l2Insert row, left := pls.map fun pl => (pl, 1) }

/-- L2Delete (R189, R215). -/
def Dev.l2Delete (boot : Bool) (tk : Option (Nat × Nat)) (b : Bytes) (d : Dev) : Option Nat × Dev :=
  let fid := beAt b 1 2
  if 4095 < fid then (some Status.invalidValue, d)
  else d.tableUpdate boot { ticket := tk, op := .l2Delete fid (beAt b 3 6), left := (maskPls (beAt b 0 1)).map fun pl => (pl, 1) }

/-- EmInsert (R197, R199): the row is KEY and the 80 bits below it. -/
def Dev.emInsert (boot : Bool) (tk : Option (Nat × Nat)) (n : Nat) (d : Dev) : Option Nat × Dev :=
  let row := 2 ^ 255 + n % 2 ^ 240
  let resv := ((tableOf (T.EmRows 0)).map (·.resv)).getD 0
  let v := d.drained
  if (row &&& resv) ≠ 0 ∨ !emKeyOk (Row.EmRows.key row) then (some Status.invalidValue, d)
  else if (v.emAt 0 (Row.EmRows.key row)).isSome then (some Status.duplicate, d)
  else match v.emPlan row with
    | none => (some Status.full, d.inc E.EmRefused)
    | some l => d.tableUpdate boot { ticket := tk, op := .em l, left := (List.range 8).map fun pl => (pl, l.length) }

/-- EmDelete (R199). -/
def Dev.emDelete (boot : Bool) (tk : Option (Nat × Nat)) (key : Nat) (d : Dev) : Option Nat × Dev :=
  if !emKeyOk key then (some Status.invalidValue, d)
  else match d.drained.emAt 0 key with
    | some i => d.tableUpdate boot { ticket := tk, op := .em [.put i 0], left := (List.range 8).map fun pl => (pl, 1) }
    | none => (some Status.ok, d)

/-- Whether a deep key with its PIPE byte may stand (R206): an L2 key of a pipeline, or an exact-match key with PIPE 0. -/
def deepKeyOk (n : Nat) : Bool :=
  let pipe := n / 2 ^ 160
  let key := n % 2 ^ 160
  if fld key 159 156 = 7 then decide (pipe ≤ 7) && fld key 155 60 == 0 else pipe == 0 && emKeyOk key

/-- Whether the RESULT of an entry for a deep key may stand (R178, R198, R207). -/
def deepResultOk (n result : Nat) : Bool :=
  if fld n 159 156 = 7 then !destRefused (fld result 79 64) && fld result 61 0 == 0 else fld result 30 0 == 0

/-- A master's work on the deep table: DeepInsert, DeepDelete and DeepQueryResult are paddock operations (R377, R381). -/
def Dev.deepWrite (who : Requester) (tk : Option (Nat × Nat)) (kind key data : Nat) (d : Dev) : Option Nat × Dev :=
  if !deepKeyOk key then (some Status.invalidValue, d)
  else if !d.hbmUp then (some Status.unavailable, d)
  else (none, d.paddockRequest kind who data tk)

/-- Whether the data of HbmTrainCommand name the op of a command that carries comparison results; without one they are free values. -/
def Dev.trainWrite (r : Requester) (fails : Option (Nat × Nat)) (cmd : Nat) (d : Dev) : Nat × Dev :=
  match fails with
  | some (fb, bits) => d.trainCommand r.master (fld cmd 191 184) cmd fb bits
  | none =>
    let (fb, d1) := d.free 32
    let (bits, d1) := d1.free 40
    let (st, d2) := d1.trainCommand r.master (fld cmd 191 184) cmd fb bits
    if st = Status.ok then (st, d2) else (st, d)

/-- The effect of writing a whole STR or DOMAIN: a status, or none where the response waits. -/
def Dev.domAct (r : Requester) (boot : Bool) (tk : Option (Nat × Nat)) (fails : Option (Nat × Nat)) (k : Nat) (b : Bytes) (d : Dev) :
    Option Nat × Dev :=
  let now (q : Nat × Dev) : Option Nat × Dev := (some q.1, q.2)
  let n := fromBE b
  if k / 256 = E.SessionKey 0 / 256 then (some Status.ok, (d.setDom k b).slotSessionsDrop (k - E.SessionKey 0))
  else if k = E.L2Insert then d.l2Insert boot tk n
  else if k = E.L2Delete then d.l2Delete boot tk b
  else if k = E.EmInsert then d.emInsert boot tk n
  else if k = E.EmDelete then d.emDelete boot tk n
  else if k = E.DeepInsert then
    if deepResultOk (n / 2 ^ 80) (n % 2 ^ 80) then d.deepWrite r tk 4 (n / 2 ^ 80) n else (some Status.invalidValue, d)
  else if k = E.DeepDelete then d.deepWrite r tk 4 n (2 ^ 256 + n)
  else if k = E.PaddockComplete then now (d.paddockComplete n)
  else if k = E.CascadeSend then now (d.cascSend b)
  else if k = E.FirmwareBank 0 then now (d.bankWrite 0 b)
  else if k = E.FirmwareBank 1 then now (d.bankWrite 1 b)
  else if k = E.YardEventPush then
    if beAt b 1 3 ≠ 0 then (some Status.invalidValue, d) else now (d.eventPush (beAt b 0 1) (beAt b 4 8) (beAt b 12 4) (beAt b 16 4))
  else if k = E.HbmTrainCommand then now (d.trainWrite r fails n)
  else if k = E.PoolCommand then now (d.poolWrite r n)
  else if k / 256 = E.TemplateImage 0 / 256 ∧ !boot then (some Status.ok, d.modYard fun y => { y with pendDoms := y.pendDoms.set k b })
  else (some Status.ok, d.setDom k b)

/-! ### Row writes -/

/-- The COST of a binding row (R223). -/
def Dev.withCost (d : Dev) (r : Nat) : Nat := if Row.Bindings.valid r = 1 then setFld r 108 103 (d.programCost r) else r

/-- Rows of a stage whose programs hold word i, each with the COST of what it names now. -/
def Staged.recost (d : Dev) (i : Nat) (s : Staged) : Staged :=
  { s with rows := s.rows.map fun e => if e.1 / 2 ^ 20 = T.Bindings ∧ bindingCovers e.2 i then (e.1, d.withCost e.2) else e }

/-- A write of a program word: the bindings that hold it, active or staged, keep the COST of what they name (R223). -/
def Dev.recost (i : Nat) (d : Dev) : Dev :=
  let d := d.each ((bindingRows d.dict.rows).filter fun e => bindingCovers e.2 i) fun (e : Nat × Nat) d => d.setRow T.Bindings e.1 (d.withCost e.2)
  d.modCommit fun c => { c with stage := c.stage.recost d i, batches := c.batches.map fun b => { b with st := b.st.recost d i } }

/-- The TABLEs whose rows wait for the boundary (R242, R343). -/
def waitsBoundary (t : Nat) : Bool :=
  [T.YardLines, T.Generators, T.StartGroups, T.PpConfig, T.SampleGroups, T.TemplateFills].contains t

/-- A row that waited comes into force (R343). -/
def Dev.boundaryInstall (t i v : Nat) (d : Dev) : Dev :=
  if t = T.YardLines then d.lineInstall i v
  else if t = T.PpConfig then d.ppInstall i v
  else d.setRow t i v

/-- A written SweepSets row (R513, R514): a set made valid, or stopped by an error, starts with SweepHead 0. -/
def Dev.sweepInstall (i v : Nat) (d : Dev) : Dev :=
  let was := Row.SweepSets.valid (d.row T.SweepSets i) == 1
  let stopped := d.get (E.SweepState i) == 2
  let d := d.rewrite T.SweepSets i v
  if Row.SweepSets.valid v = 0 then d
  else if !was then ((d.put (E.SweepHead i) 0).put (E.SweepTail i) 0).cond stopped (Dev.put (E.SweepState i) 0)
  else if stopped then (d.put (E.SweepHead i) 0).put (E.SweepState i) 0
  else d

/-- One row of a TABLE that neither stages nor waits is written. -/
def Dev.rowAct (t i v : Nat) (d : Dev) : Dev :=
  if t = T.ProgramStore then (d.rewrite t i v).recost i
  else if t = T.RecoveryFunctions then (d.rewrite t i v).recReset i
  else if t = T.Samplers then
    let d := d.rewrite t i v
    { d with net := { d.net with offers := d.net.offers.filter fun (e : Nat × Nat) => e.1 / 8 != i } }
  else if t = T.FaultReactions then
    let d := d.rewrite t i v
    { d with faults := { d.faults with resets := d.faults.resets.filter fun e => e.1 != i } }
  else if t = T.SweepSets then d.sweepInstall i v
  else d.rewrite t i v

/-- The update that a row write makes (R165, R211); of a staged row only the slots are left to use. -/
def rowUpdate (tk : Option (Nat × Nat)) (staged : Bool) (t i v : Nat) : Update :=
  { ticket := tk, op := if staged then .staged else .row t i v, left := rowSlots t i }

/-- Rows of TABLE t as (row, value) queue for the update slots that they take; a record without one that takes any is done at once. -/
def Dev.rowsQueue (tk : Option (Nat × Nat)) (staged : Bool) (t : Nat) (l : List (Nat × Nat)) (d : Dev) : Option Nat × Dev :=
  if l.all fun e => (rowSlots t e.1).isEmpty then (some Status.ok, d)
  else (none, d.each l fun e d => d.updateQueue (rowUpdate tk staged t e.1 e.2))

/-- The effect of a record's rows of TABLE t as (row, value), staged rows apart: a status, or none where the response waits for update slots. -/
def Dev.rowsAct (boot : Bool) (tk : Option (Nat × Nat)) (t : Nat) (l : List (Nat × Nat)) (d : Dev) : Option Nat × Dev :=
  let stages := (Put.row t 0 0).stages
  if boot then
    (some Status.ok, d.each l fun e d =>
      let v := rowNorm t e.2
      if stages then d.each (rowsOf t e.1) fun (q : Nat × Nat) d => d.rowCommit (q.1 * 2 ^ 20 + q.2) (if t = T.Bindings then d.withCost v else v)
      else if !(rowSlots t e.1).isEmpty then d.updateWhole (rowUpdate none false t e.1 v)
      else if waitsBoundary t then d.boundaryInstall t e.1 v
      else d.rowAct t e.1 v)
  else if waitsBoundary t then (some Status.ok, d.each l fun e d => d.rowWait t e.1 (rowNorm t e.2))
  else if l.all fun e => (rowSlots t e.1).isEmpty then (some Status.ok, d.each l fun e d => d.rowAct t e.1 (rowNorm t e.2))
  else d.rowsQueue tk false t l

end Sys2Proof.Machine
end

