-- ==== Sys2Proof/Machine/DictWrite.lean ====
section
/-!
DEFINITION. Writing the object dictionary (R36, R38, R46, R47, R589): what a record would write, the checks on it, and its effect.
-/
namespace Sys2Proof.Machine

/-! ### What a record writes (R36 steps 1 to 6) -/

/-- A refusal: its status, and whether it counts in HalterRefusals (R36, R462). -/
structure Refused where
  status : Nat
  halter : Bool := false
  deriving DecidableEq, Repr

/-- Whether a write may change an entry: its access code, or the boot sequencer's writes of the two HBM records (R550). -/
def EntrySpec.writable (e : EntrySpec) (boot : Bool) (k : Nat) : Bool :=
  e.acc == .rw || e.acc == .rwt || e.acc == .wo || (boot && (k == E.HbmTrainingStore || k == E.HbmRepairPending))

/-- The place a requester may use with an operation, or the failure of steps 1 to 3. -/
def Dev.reach (d : Dev) (r : Requester) (o : Op) : Except Nat Place :=
  match d.locate o.idx o.sub with
  | .error e => .error e
  | .ok p => if d.mayUse r o.opcode o.idx o.sub p then .ok p else .error Status.privDenied

/-- The length a DOMAIN must have to pass step 5. -/
def EntrySpec.lenOk (e : EntrySpec) (n : Nat) : Bool :=
  if e.ty.bytes ≠ 0 then n == e.ty.bytes
  else match e.chk with
    | .fixedLen k => n == k
    | _ => true

/-- The value that a whole entry takes from bytes. -/
def entryPut (e : EntrySpec) (k : Nat) (b : Bytes) : Put := if e.ty.bytes = 0 then .dom k b else .scal k (fromBE b)

/-- Whether a Put passes the tests of step 6 on itself. -/
def putValid (p : Put) : Bool :=
  match p with
  | .scal k v => ((specOf (k / 256) (k % 256)).map fun e => scalValid e k v).getD false
  | .row t i v => ((tableOf t).map fun s => decide (v < 2 ^ s.bits)).getD false && rowValid t i v
  | .dom k b => ((specOf (k / 256) (k % 256)).map fun e => domValid e k b).getD false

/-- Rows of w bytes each, from row `first` of TABLE t. -/
def rowPuts (t w first : Nat) (b : Bytes) : List Put :=
  (List.range (b.length / w)).map fun j => .row t (first + j) (beAt b (j * w) w)

/-- The rows of a record in the order in which they are applied: rising, but for row 2i + 1 of a wide pair, which comes before row 2i (R159). -/
def wideOrder (v0 : Dev) : List Put → List Put
  | .row t i a :: .row t' j b :: l =>
    let wide := (t == T.AssocRows || t == T.AssocRowsAll) && i % 2 == 0 && v0.getB (E.BankWide (i % 8192 / 256))
    if t = t' ∧ j = i + 1 ∧ wide then .row t' j b :: .row t i a :: wideOrder v0 l else .row t i a :: wideOrder v0 (.row t' j b :: l)
  | l => l

/-- Step 3 for a firmware master, then step 6, over the Puts of a record; v0 holds the values that it would change. -/
def Dev.putsOk (r : Requester) (v0 : Dev) (l : List Put) : Except Refused (List Put) :=
  if isFirmware r.master && l.any (putHeld v0) then .error ⟨Status.privDenied, true⟩
  else if l.all putValid then .ok l
  else .error ⟨Status.invalidValue, false⟩

/-- The Puts of a WRITE or a WRITE_ROW by steps 1 to 6 of R36, in their order. -/
def Dev.planWrite (d : Dev) (r : Requester) (boot : Bool) (v0 : Dev) (o : Op) : Except Refused (List Put) :=
  match d.reach r o with
  | .error s => .error ⟨s, false⟩
  | .ok (.fixed _ _ _) => .error ⟨Status.accessDenied, false⟩
  | .ok (.entry e) =>
    let k := entryKey o.idx o.sub
    let p := entryPut e k o.data
    let lenOk := e.lenOk o.data.length
    if o.opcode = 2 ∧ lenOk ∧ isFirmware r.master ∧ putHeld v0 p then .error ⟨Status.privDenied, true⟩
    else if !e.writable boot k then .error ⟨Status.accessDenied, false⟩
    else if o.opcode ≠ 2 ∨ o.ty ≠ e.ty.code ∨ !lenOk then .error ⟨Status.typeMismatch, false⟩
    else if putValid p then .ok [p] else .error ⟨Status.invalidValue, false⟩
  | .ok (.table e t) =>
    let w := cdiv t.bits 8
    let first := beAt o.data 0 4
    let count := beAt o.data 4 2
    let lenOk := o.data.length == 6 + count * w
    let l := wideOrder v0 (rowPuts o.idx w first (o.data.drop 6))
    let fits := decide (first + count ≤ t.cap)
    if o.opcode = 5 ∧ lenOk ∧ fits ∧ isFirmware r.master ∧ l.any (putHeld v0) then .error ⟨Status.privDenied, true⟩
    else if o.opcode ≠ 5 ∨ !e.writable boot (entryKey o.idx 0) then .error ⟨Status.accessDenied, false⟩
    else if (o.ty ≠ 0 ∧ o.ty ≠ Ty.table.code) ∨ !lenOk then .error ⟨Status.typeMismatch, false⟩
    else if fits && l.all putValid then .ok l else .error ⟨Status.invalidValue, false⟩

/-! ### Checks that relate values, and the effect (R36 step 7, R589) -/

/-- The first failure among relations of Puts, each against the state before it and the state v that the whole would leave. -/
def Dev.relations (d v : Dev) : Dev → List Put → Nat
  | _, [] => Status.ok
  | v0, p :: l => if relPut d v0 v p ≠ Status.ok then relPut d v0 v p else Dev.relations d v (v0.putView p) l

/-- The relations of one record on its own, with the ceilings of R464 and room in the stage. -/
def Dev.recordRel (r : Requester) (boot : Bool) (l : List Put) (d : Dev) : Refused :=
  let v0 := d.latest
  let v := v0.each l Dev.putView
  if isFirmware r.master && l.any (ceilingBroken v) then ⟨Status.invalidValue, true⟩
  else
    let s := Dev.relations d v v0 l
    if s ≠ Status.ok then ⟨s, false⟩
    else if !boot && !d.stageFits v l then ⟨Status.stageFull, false⟩ else ⟨Status.ok, false⟩

/-- Put values into the open stage (R323). -/
def Dev.stagePuts (l : List Put) (d : Dev) : Dev :=
  let v := d.latest.each l Dev.putView
  (d.modCommit fun c => { c with stage := l.foldl (fun s p => s.put v p) c.stage }).commitNote

/-- What a command hands over beside a record: comparison results of a training command, a handoff block. -/
structure Aside where
  fails : Option (Nat × Nat) := none
  block : Option Bytes := none
  deriving DecidableEq, Repr

/-- The rows of a list of Puts. -/
def rowsIn (l : List Put) : List (Nat × Nat) :=
  l.filterMap fun p => match p with
    | .row _ i v => some (i, v)
    | _ => none

/-- A record's Puts take effect: a status, or none where the response waits. -/
def Dev.applyPuts (r : Requester) (boot : Bool) (tk : Option (Nat × Nat)) (a : Aside) (l : List Put) (d : Dev) : Option Nat × Dev :=
  match l with
  | [] => (some Status.ok, d)
  | p :: _ =>
    if p.stages && !boot then match p with
      | .row t _ _ => (d.stagePuts l).rowsQueue tk true t (rowsIn l)
      | _ => (some Status.ok, d.stagePuts l)
    else match p with
      | .row t _ _ => d.rowsAct boot tk t (rowsIn l)
      | .dom k b => d.domAct r boot tk a.fails k b
      | .scal k v =>
        if k = E.L2Flush then d.l2Flush boot tk v
        else
          let q := d.scalAct r boot a.block k v
          (some q.1, q.2)

/-- Any entry has been written since the load (R70); a write by the boot sequencer is the load. -/
def Dev.modified (boot : Bool) (d : Dev) : Dev := d.cond (!boot) (Dev.store E.Modified 1)

/-- Whether a record writes an entry that R70 counts as a change since the load: a write of StoreImage begins a store, with which the image is
the dictionary again (R550). -/
def marksModified (l : List Put) : Bool := !(l.any (putsScal E.StoreImage))

/-- A record's effect, with its mark in Modified where it is accepted. -/
def Dev.effect (r : Requester) (boot : Bool) (tk : Option (Nat × Nat)) (a : Aside) (l : List Put) (d : Dev) : Option Nat × Dev :=
  let (s, d) := d.applyPuts r boot tk a l
  (s, d.cond ((s == none || s == some Status.ok) && marksModified l) (Dev.modified boot))

/-- A record's Puts after steps 1 to 6: relations, then the effect. An action that refuses leaves its counters. -/
def Dev.writePuts (r : Requester) (boot : Bool) (tk : Option (Nat × Nat)) (a : Aside) (l : List Put) (d : Dev) : Option Nat × Dev :=
  let f := d.recordRel r boot l
  if f.status ≠ Status.ok then (some f.status, d.cond f.halter (Dev.inc E.HalterRefusals)) else d.effect r boot tk a l

/-! ### Bulk writes (R39, R47) -/

/-- The object a record addresses. -/
def Op.key (o : Op) : Nat := entryKey o.idx o.sub

/-- Bulk writes whose gap has passed 1 s are aborted; their requesters hear of it at their next operation on the object (R47). -/
def Dev.bulkExpire (d : Dev) : Dev :=
  let late (b : Bulk) : Bool := decide (b.last + 8000000000 < d.now)
  d.modAccess fun a => { a with
    bulks := a.bulks.filter fun b => !late b
    bulkLost := a.bulkLost ++ (a.bulks.filter late).map fun b => (b.who, b.key) }

/-- Whether another requester holds the object in an open bulk write (R39). -/
def Dev.heldBy (d : Dev) (r : Requester) (k : Nat) : Bool := d.access.bulks.any fun b => b.key == k && b.who != r

/-- An open bulk write is given up. -/
def Dev.bulkDrop (r : Requester) (k : Nat) (d : Dev) : Dev :=
  d.modAccess fun a => { a with bulks := a.bulks.filter fun b => !(b.key == k && b.who == r) }

/-- Whether a bulk write of `total` bytes may begin: the length of a DOMAIN, or whole rows within the capacity. -/
def totalOk (p : Place) (total : Nat) : Nat :=
  match p with
  | .entry e =>
    if !e.lenOk total then Status.typeMismatch
    else match e.chk with
      | .lenRange lo hi => okIf (decide (lo ≤ total) && decide (total ≤ hi))
      | _ => Status.ok
  | .table _ t => okIf (total % cdiv t.bits 8 == 0 && decide (total ≤ t.cap * cdiv t.bits 8))
  | .fixed _ _ _ => Status.accessDenied

/-- The Puts of a complete bulk write. -/
def bulkPuts (p : Place) (o : Op) (b : Bytes) : List Put :=
  match p with
  | .entry e => [entryPut e o.key b]
  | .table _ t => rowPuts o.idx (cdiv t.bits 8) 0 b
  | .fixed _ _ _ => []

/-- The last part has arrived: the whole content is checked and takes effect (R39). -/
def Dev.bulkDone (r : Requester) (tk : Option (Nat × Nat)) (p : Place) (o : Op) (b : Bytes) (d : Dev) : Option Nat × Dev :=
  let l := wideOrder d.latest (bulkPuts p o b)
  match Dev.putsOk r d.latest l with
  | .error f => (some f.status, d.cond f.halter (Dev.inc E.HalterRefusals))
  | .ok l => d.writePuts r false tk {} l

/-- One part of a bulk write that may begin or go on (R47). A first part meets the checks of its length before the object's state (R36); a part
whose offset or total does not continue the transfer aborts it, with SEGMENT_ERROR for the total too (log 144). -/
def Dev.bulkPart (r : Requester) (tk : Option (Nat × Nat)) (p : Place) (o : Op) (d : Dev) : Option Nat × Dev :=
  let off := beAt o.data 0 4
  let total := beAt o.data 4 4
  let part := o.data.drop 8
  let k := o.key
  let go (got : Bytes) (d : Dev) : Option Nat × Dev :=
    let b := got ++ part
    let d := d.bulkDrop r k
    if total < b.length then (some Status.segmentError, d)
    else if b.length = total then d.bulkDone r tk p o b
    else (some Status.ok, d.modAccess fun a => { a with bulks := a.bulks ++ [{ who := r, key := k, total, got := b, last := d.now }] })
  match d.access.bulks.find? fun b => b.key == k && b.who == r with
  | some b => if off = b.got.length ∧ total = b.total then go b.got d else (some Status.segmentError, d.bulkDrop r k)
  | none =>
    if totalOk p total ≠ Status.ok then (some (totalOk p total), d)
    else if d.heldBy r k then (some Status.busy, d)
    else if off ≠ 0 then (some Status.segmentError, d)
    else if (k = E.FirmwareBank 0 ∧ d.bankBusy 0) ∨ (k = E.FirmwareBank 1 ∧ d.bankBusy 1) then (some Status.busy, d)
    else go [] d

/-- A BULK_WRITE record. -/
def Dev.bulkWrite (r : Requester) (tk : Option (Nat × Nat)) (o : Op) (d : Dev) : Option Nat × Dev :=
  match d.reach r o with
  | .error s => (some s, d)
  | .ok p =>
    let okTy (c : Nat) : Bool := (o.ty == 0 || o.ty == c) && decide (8 ≤ o.data.length)
    match p with
    | .fixed _ _ _ => (some Status.accessDenied, d)
    | .entry e =>
      if !e.writable false o.key then (some Status.accessDenied, d)
      else if e.ty ≠ .domain ∨ !okTy Ty.domain.code then (some Status.typeMismatch, d)
      else d.bulkPart r tk p o
    | .table e _ =>
      if !e.writable false (entryKey o.idx 0) then (some Status.accessDenied, d)
      else if !okTy Ty.table.code then (some Status.typeMismatch, d)
      else d.bulkPart r tk p o

/-- A WRITE or WRITE_ROW record on its own. While another requester's bulk write of the object is open it answers BUSY, a WRITE of a DOMAIN
like a row write (log 144). -/
def Dev.writeOp (r : Requester) (boot : Bool) (tk : Option (Nat × Nat)) (a : Aside) (o : Op) (d : Dev) : Option Nat × Dev :=
  match d.planWrite r boot d.latest o with
  | .error f => (some f.status, d.cond f.halter (Dev.inc E.HalterRefusals))
  | .ok l => if d.heldBy r o.key then (some Status.busy, d) else d.writePuts r boot tk a l

end Sys2Proof.Machine
end

