-- ==== Sys2Proof/Machine/DictExec.lean ====
section
/-!
DEFINITION. Executing operation records (R36 to R47): reads, subscriptions, commits, requests of one to sixteen records with and without
ATOMIC, their trace (R515) and their mirror (R404).
-/
namespace Sys2Proof.Machine

/-- What a record comes to: complete with STATUS, TYPE and data, or waiting for an answer of at most `size` bytes. -/
inductive Ans where
  | done (status ty : Nat) (data : Bytes)
  | wait (size : Nat) (part : Option (Nat × Nat))
  deriving DecidableEq, Repr

/-- A failure. -/
def Ans.fail (s : Nat) : Ans := .done s 0 []

/-- The status of an answer; one that waits has been accepted. -/
def Ans.status : Ans → Nat
  | .done s _ _ => s
  | .wait _ _ => Status.ok

/-- The bytes of its data. -/
def Ans.size : Ans → Nat
  | .done _ _ b => b.length
  | .wait n _ => n

/-- A status or a wait as an answer without data. -/
def ansOf (s : Option Nat) : Ans :=
  match s with
  | some s => .fail s
  | none => .wait 0 none

/-! ### Reads (R37, R44, R325, R590) -/

/-- The length of data that a record may still carry where `left` bytes are left on its path (R43, R590). -/
def roomIn (left : Nat) : Nat := min 1452 (left - 8)

/-- The least space that a record's response can take: its head, and the length of a value that does not fit (R590). -/
def Op.least (o : Op) : Nat := if [1, 3, 4, 6, 0x0C, 0x0D].contains o.opcode then 12 else 8

/-- Data that fit, or the length that they need (R590). -/
def fitAns (left ty : Nat) (b : Bytes) : Ans :=
  if b.length ≤ roomIn left then .done Status.ok ty b else .done Status.typeMismatch Ty.u32.code (toBE 4 b.length)

/-- Whether what entry k reads is a row whose storage shows an uncorrected error (R40): the row that a query of a table finds. -/
def Dev.entryBad (d : Dev) (k : Nat) : Bool :=
  if k = E.EmQueryResult then ((d.emAt 0 (fromBE (d.dom E.EmQueryKey))).map (d.rowBad (T.EmRows 0))).getD false
  else if k / 256 = E.L2QueryResult 0 / 256 then
    let pl := k - E.L2QueryResult 0
    let q := d.dom E.L2QueryKey
    ((d.l2At pl (beAt q 0 2) (beAt q 2 6)).map (d.rowBad (T.L2Rows pl))).getD false
  else false

/-- An operation on an entry whose storage shows an uncorrected error (R40). -/
def Dev.dataError (o : Op) (d : Dev) : Ans × Dev := (.fail Status.dataError, d.report Src.dictionaryDataError o.key)

/-- READ and READ_STAGED of an entry. -/
def Dev.readEntry (r : Requester) (left : Nat) (tk : Option (Nat × Nat)) (staged : Bool) (e : EntrySpec) (o : Op) (d : Dev) : Ans × Dev :=
  if e.acc = .wo then (.fail Status.accessDenied, d)
  else if (o.ty ≠ 0 ∧ o.ty ≠ e.ty.code) ∨ o.data ≠ [] then (.fail Status.typeMismatch, d)
  else if o.key = E.DeepQueryResult then
    let key := fromBE (d.dom E.DeepQueryKey)
    if roomIn left < 32 then (.done Status.typeMismatch Ty.u32.code (toBE 4 32), d)
    else if !deepKeyOk key then (.fail Status.invalidValue, d)
    else if !d.hbmUp then (.fail Status.unavailable, d)
    else (.wait 32 none, d.paddockRequest 5 r key tk)
  else if d.entryBad o.key then d.dataError o
  else
    let v := if staged && e.acc == .rwt then d.staged.valueNow e o.key r.master else d.valueNow e o.key r.master
    let a := fitAns left e.ty.code v
    (a, d.cond (a.status == Status.ok) (Dev.readEffect e o.key))

/-- READ and READ_STAGED. -/
def Dev.readOp (r : Requester) (left : Nat) (tk : Option (Nat × Nat)) (o : Op) (d : Dev) : Ans × Dev :=
  match d.reach r o with
  | .error s => (.fail s, d)
  | .ok (.fixed ty v _) => (if (o.ty ≠ 0 ∧ o.ty ≠ ty.code) ∨ o.data ≠ [] then .fail Status.typeMismatch else fitAns left ty.code (toBE ty.bytes v), d)
  | .ok (.table _ _) => (if (o.ty ≠ 0 ∧ o.ty ≠ Ty.u8.code) ∨ o.data ≠ [] then .fail Status.typeMismatch else fitAns left Ty.u8.code (toBE 1 4), d)
  | .ok (.entry e) => d.readEntry r left tk (o.opcode == 3) e o

/-- READ_ROW (R590): as many whole rows as fit, preceded by their number. A first row beyond the capacity is INVALID_VALUE, a count past the end
is cut there, and the length that a record reports as needed is that of the count and all the rows asked for (log 143). -/
def Dev.readRowOp (r : Requester) (left : Nat) (o : Op) (d : Dev) : Ans × Dev :=
  match d.reach r o with
  | .error s => (.fail s, d)
  | .ok (.table _ t) =>
    let w := cdiv t.bits 8
    let first := beAt o.data 0 4
    let count := beAt o.data 4 2
    if (o.ty ≠ 0 ∧ o.ty ≠ Ty.table.code) ∨ o.data.length ≠ 6 then (.fail Status.typeMismatch, d)
    else if t.cap ≤ first then (.fail Status.invalidValue, d)
    else
      let want := min count (t.cap - first)
      let n := min want ((roomIn left - 2) / w)
      if n = 0 ∧ want ≠ 0 then (.done Status.typeMismatch Ty.u32.code (toBE 4 (2 + want * w)), d)
      else if d.rowsBad o.idx first n then d.dataError o
      else (.done Status.ok Ty.table.code (toBE 2 n ++ d.rowsRead o.idx t.bits first n), d)
  | .ok (.entry e) => (.fail (if e.acc = .wo then Status.accessDenied else Status.typeMismatch), d)
  | .ok (.fixed _ _ _) => (.fail Status.typeMismatch, d)

/-- BULK_READ (R590) of a DOMAIN or a TABLE, up to its end. -/
def Dev.bulkReadOp (r : Requester) (left : Nat) (tk : Option (Nat × Nat)) (o : Op) (d : Dev) : Ans × Dev :=
  let off := beAt o.data 0 4
  let len := beAt o.data 4 2
  match d.reach r o with
  | .error s => (.fail s, d)
  | .ok (.entry e) =>
    if e.acc = .wo then (.fail Status.accessDenied, d)
    else if e.ty ≠ .domain ∨ (o.ty ≠ 0 ∧ o.ty ≠ Ty.domain.code) ∨ o.data.length ≠ 6 then (.fail Status.typeMismatch, d)
    else if o.key = E.DeepQueryResult then
      let n := min len (32 - off)
      let q := d.readEntry r left tk false e { o with ty := 0, data := [] }
      match q.1 with
      | .wait _ _ => if 32 < off then (.fail Status.invalidValue, d) else (.wait n (some (off, len)), q.2)
      | a => (a, q.2)
    else
      let b := d.domNow o.key r.master
      if b.length < off then (.fail Status.invalidValue, d)
      else if d.entryBad o.key then d.dataError o
      else
        let a := fitAns left Ty.domain.code (slice b off len)
        (a, d.cond (a.status == Status.ok) (Dev.readEffect e o.key))
  | .ok (.table _ t) =>
    let size := t.cap * cdiv t.bits 8
    if (o.ty ≠ 0 ∧ o.ty ≠ Ty.table.code) ∨ o.data.length ≠ 6 then (.fail Status.typeMismatch, d)
    else if size < off then (.fail Status.invalidValue, d)
    else
      let n := min len (size - off)
      if roomIn left < n then (.done Status.typeMismatch Ty.u32.code (toBE 4 n), d)
      else if d.rowsBad o.idx (off / cdiv t.bits 8) (cdiv (off % cdiv t.bits 8 + n) (cdiv t.bits 8)) then d.dataError o
      else (.done Status.ok Ty.table.code (d.tableBytes o.idx t.bits off n), d)
  | .ok _ => (.fail Status.typeMismatch, d)

/-! ### Subscriptions (R60) -/

/-- Who may subscribe: a Prosta session, a CAN FD agent, the host. -/
def subscribes (r : Requester) : Bool := (r.master == 0x20 && r.session != 0) || r.master == 0x21 || r.master == 0x22 || r.master == 0x10

/-- The failure of a subscription record before the requester is looked at: index, sub-index or all of them, privilege, notification object. SUB
0xFF is accepted where any sub-index of the index is one (log 146). -/
def Dev.subCheck (d : Dev) (r : Requester) (o : Op) : Nat :=
  if o.sub = 0xFF then
    let l := specsAt o.idx
    match d.locate o.idx 0 with
    | .error s => s
    | .ok p =>
      if !d.mayUse r o.opcode o.idx 0 p then Status.privDenied
      else if l.any (·.notify) then Status.ok else Status.unsupported
  else match d.reach r o with
    | .error s => s
    | .ok (.entry e) => if e.notify then Status.ok else Status.unsupported
    | .ok _ => Status.unsupported

/-- SUBSCRIBE; `tag` is the CAN tag of its request (R66). -/
def Dev.subscribeOp (r : Requester) (tag : Nat) (o : Op) (d : Dev) : Nat × Dev :=
  let s := d.subCheck r o
  if s ≠ Status.ok then (s, d)
  else if !subscribes r then (Status.unsupported, d)
  else if d.access.subs.any fun q => q.who == r && q.idx == o.idx && q.sub == o.sub then (Status.ok, d)
  else if 64 ≤ d.access.subs.length then (Status.full, d)
  else (Status.ok, d.modAccess fun a => { a with
    subs := a.subs ++ [{ who := r, idx := o.idx, sub := o.sub, tag }]
    queues := if a.queues.any fun q => q.who == r then a.queues else a.queues ++ [{ who := r }] })

/-- UNSUBSCRIBE; one that is absent is no error. Records that already lie in the subscriber's queue are still delivered (log 146). -/
def Dev.unsubscribeOp (r : Requester) (o : Op) (d : Dev) : Nat × Dev :=
  let s := d.subCheck r o
  if s ≠ Status.ok then (s, d)
  else if !subscribes r then (Status.unsupported, d)
  else (Status.ok, d.modAccess fun a => { a with subs := a.subs.filter fun q => !(q.who == r && q.idx == o.idx && q.sub == o.sub) })

/-! ### The other operations (R44, R54, R327, R328) -/

/-- Whether a requester may use an operation that addresses no entry: every one but P4's, and a read-only session's by R56. -/
def Dev.mayOperate (d : Dev) (r : Requester) (opcode : Nat) : Bool :=
  d.served r.master && d.privOf r != some 4 && (!d.sessionReadOnly r || readOnlyOps.contains opcode)

/-- COMMIT_REQUEST (R327, R328). -/
def Dev.commitOp (r : Requester) (left : Nat) (o : Op) (d : Dev) : Ans × Dev :=
  let action := beAt o.data 0 1
  let id := beAt o.data 2 2
  if !d.mayOperate r 0x0C then (.fail Status.privDenied, d)
  else if o.idx ≠ 0x0280 ∨ o.sub ≠ 0 ∨ o.ty ≠ 0 ∨ o.data.length ≠ 12 ∨ (action ≠ 1 ∧ action ≠ 2) then (.fail Status.invalidValue, d)
  else if roomIn left < 20 then (.done Status.typeMismatch Ty.u32.code (toBE 4 20), d)
  else
    let (c, d) := if action = 1 then d.commitRequest r.master (beAt o.data 1 1) id (beAt o.data 4 8)
      else d.abortRequest r.master (beAt o.data 1 1) id (beAt o.data 4 8)
    (.done c.status 0 (toBE 2 id ++ [0, 0] ++ toBE 8 c.applied ++ toBE 4 c.rows ++ toBE 4 c.epoch), d)

/-- ECHO (R44): the bytes and the times of receipt and reply. -/
def Dev.echoOp (r : Requester) (left : Nat) (o : Op) (d : Dev) : Ans :=
  if !d.mayOperate r 0x0D then .fail Status.privDenied
  else if 64 < o.data.length then .fail Status.typeMismatch
  else fitAns left 0 (o.data ++ toBE 12 d.stamp ++ toBE 12 d.stamp)

/-- SESSION_CLOSE (R54), from a session only: from any other requester it is UNSUPPORTED (log 142). -/
def Dev.closeOp (r : Requester) (d : Dev) : Nat × Dev :=
  if d.privOf r = some 4 then (Status.privDenied, d)
  else if r.master = 0x20 ∧ (d.session? r.session).isSome then (Status.ok, d.sessionDrop r.session)
  else (Status.unsupported, d)

/-! ### The trace (R515) -/

/-- Whether DETAIL must not show an entry's data (R515). -/
def secret (idx sub : Nat) : Bool :=
  (decide (0x0300 ≤ idx) && decide (idx ≤ 0x03FF)) || ((specOf idx sub).map fun e => e.acc == .wo && e.ty == .domain).getD false

/-- An operation reaches the trace. -/
def Dev.traceOp (r : Requester) (o : Op) (a : Ans) (d : Dev) : Dev :=
  let base (kind row detail len : Nat) (d : Dev) : Dev :=
    let (priv, d) := d.tracePriv r
    d.trace { kind := if a.status = Status.ok then kind else 6, master := r.master, priv, status := a.status, idx := o.idx, row,
              opcode := o.opcode, len, detail := if secret o.idx o.sub then 0 else detail }
  match o.opcode with
  | 1 | 3 => base 1 o.sub 0 a.size d
  | 2 => base 2 o.sub (fromBE (o.data.take 4)) o.data.length d
  | 4 => base 3 (beAt o.data 0 4) (beAt o.data 4 2) a.size d
  | 5 => base 3 (beAt o.data 0 4) (beAt o.data 4 2) (o.data.length - 6) d
  | 6 => base 4 0 (beAt o.data 0 4) a.size d
  | 7 => base 4 0 (beAt o.data 0 4) (o.data.length - 8) d
  | 0x0C => base 5 0 (beAt o.data 2 2) o.data.length d
  | _ => if a.status = Status.ok then d else base 6 o.sub 0 o.data.length d

/-! ### One record -/

/-- A path's CAN tag (R66). -/
def Path.tag : Path → Nat
  | .can _ t => t
  | _ => 0

/-- A status with the state it left, as an answer. -/
def plain (q : Nat × Dev) : Ans × Dev := (.fail q.1, q.2)

/-- One record by its opcode (R44). A SESSION_OPEN anywhere but in the frame that opens a session, and every unknown opcode, is UNSUPPORTED; from a
requester that may not use any such operation (P4, a read-only session) it is PRIV_DENIED, as R35 and R56 come first (log 142). -/
def Dev.execKind (r : Requester) (path : Path) (left : Nat) (tk : Option (Nat × Nat)) (a : Aside) (o : Op) (d : Dev) : Ans × Dev :=
  match o.opcode with
  | 1 | 3 => d.readOp r left tk o
  | 2 | 5 => let q := d.writeOp r false tk a o; (ansOf q.1, q.2)
  | 4 => d.readRowOp r left o
  | 6 => d.bulkReadOp r left tk o
  | 7 => let q := d.bulkWrite r tk o; (ansOf q.1, q.2)
  | 8 => plain (d.subscribeOp r path.tag o)
  | 9 => plain (d.unsubscribeOp r o)
  | 0x0B => plain (d.closeOp r)
  | 0x0C => d.commitOp r left o
  | 0x0D => (d.echoOp r left o, d)
  | _ => (.fail (if d.mayOperate r o.opcode then Status.unsupported else Status.privDenied), d)

/-- Whether an operation writes, as the ACCESS of R529: 0 read, 1 write. -/
def opAccess (opcode : Nat) : Nat := if [1, 3, 4, 6].contains opcode then 0 else 1

/-- One record: a fault that it meets at once names its requester (R529). -/
def Dev.execOp (r : Requester) (path : Path) (left : Nat) (tk : Option (Nat × Nat)) (a : Aside) (o : Op) (d : Dev) : Ans × Dev :=
  let q := d.execKind r path left tk a o
  (q.1, q.2.metBy r.master (opAccess o.opcode) d.faults.reported.length)

/-- One record, a lost bulk write of its requester on the object first (R47). -/
def Dev.execOne (r : Requester) (path : Path) (left : Nat) (tk : Option (Nat × Nat)) (a : Aside) (o : Op) (d : Dev) : Ans × Dev :=
  let d := d.bulkExpire
  if d.access.bulkLost.contains (r, o.key) then
    (.fail Status.timeout, d.modAccess fun c => { c with bulkLost := c.bulkLost.filter (· != (r, o.key)) })
  else d.execOp r path left tk a o

/-! ### The mirror (R404) -/

/-- The bytes of a request record (R43). -/
def Op.bytes (o : Op) : Bytes :=
  toBE 1 o.opcode ++ [0] ++ toBE 2 (8 + o.data.length) ++ toBE 2 o.idx ++ toBE 1 o.sub ++ toBE 1 o.ty ++ o.data

/-- Bit of MirrorDictAreas that marks a record's area. -/
def mirrorArea (o : Op) : Option Nat :=
  if o.opcode = 0x0C then some 6
  else if !(o.opcode == 2 || o.opcode == 5 || o.opcode == 7) then none
  else if o.key = E.PaddockComplete then none
  else if 0x3000 ≤ o.idx ∧ o.idx ≤ 0x33FF then some 0
  else if 0x3400 ≤ o.idx ∧ o.idx ≤ 0x37FF then some 1
  else if 0x3800 ≤ o.idx ∧ o.idx ≤ 0x3BFF then some 2
  else if 0x4000 ≤ o.idx ∧ o.idx ≤ 0x43FF then some 3
  else if 0x4400 ≤ o.idx ∧ o.idx ≤ 0x47FF then some 4
  else if 0x5000 ≤ o.idx ∧ o.idx ≤ 0x53FF then some 5
  else if 0x5800 ≤ o.idx ∧ o.idx ≤ 0x58FF then some 7
  else none

/-- The records of a request that went well go to the mate. -/
def Dev.mirrorOps (r : Requester) (atomic : Bool) (l : List (Op × Nat)) (d : Dev) : Dev :=
  let marked (o : Op) : Bool := match mirrorArea o with
    | some b => bit (d.get E.MirrorDictAreas) b
    | none => false
  let ops := (l.filter fun e => e.2 == Status.ok && marked e.1).map (·.1)
  if ops.isEmpty || r.master == 0x30 then d
  else d.mirror (tetherRec 4 (pad4 (toBE 1 r.master ++ toBE 1 (atomic.toNat * 128) ++ [0, 0] ++ ops.flatMap Op.bytes)))

/-! ### Requests (R46) -/

/-- The operation of record i of reply `tag` is complete, or waits with the part of its value that it asked for. -/
def Dev.answer (tag i : Nat) (a : Ans) (d : Dev) : Dev :=
  match a with
  | .done s ty b => d.ticketDone (some (tag, i)) s ty b
  | .wait _ none => d
  | .wait _ (some p) => d.modAccess fun c => { c with replies := c.replies.map fun r =>
      if r.tag = tag then { r with recs := ((List.range r.recs.length).zip r.recs).map fun e => if e.1 = i then { e.2 with part := some p } else e.2 }
      else r }

/-- Records in order, each on its own: what is left of the path's space goes down with each response, and the records behind keep the least that
theirs can take, so that all of them together stay within it (R590). -/
def Dev.execEach (r : Requester) (path : Path) (tag : Nat) (a : Aside) : Nat → Nat → List Op → Dev → List (Op × Nat) × Dev
  | _, _, [], d => ([], d)
  | i, left, o :: l, d =>
    let (ans, d) := d.execOne r path (left - (l.map Op.least).sum) (some (tag, i)) a o
    let d := (d.traceOp r o ans).answer tag i ans
    let (rest, d) := d.execEach r path tag a (i + 1) (left - (8 + ans.size)) l
    ((o, ans.status) :: rest, d)

/-- The first record that writes what a test involves. -/
def firstOf (t : Put → Bool) (plans : List (List Put)) : Nat :=
  ((List.range plans.length).zip plans).find? (fun e => e.2.any t) |>.map (·.1) |>.getD 0

/-- The failing tests of a whole request as (record, status), each record's Puts in order. -/
def Dev.atomicRel (d v : Dev) (plans : List (List Put)) : Dev → List Put → List (Nat × Nat)
  | _, [] => []
  | v0, p :: l => (relFails d v0 v p).map (fun e => (firstOf e.involves plans, e.status)) ++ Dev.atomicRel d v plans (v0.putView p) l

/-- The checks of an ATOMIC request beyond each record's own (R46, R589): failing records with their statuses, and how many count in
HalterRefusals. -/
def Dev.atomicCheck (r : Requester) (plans : List (List Put)) (d : Dev) : List (Nat × Nat) × Nat :=
  let all := plans.flatten
  let v0 := d.latest
  let v := v0.each all Dev.putView
  let ceil := if isFirmware r.master then
      ((List.range plans.length).zip plans).filter fun e => e.2.any (ceilingBroken v) else []
  let full := (d.stageTests v all).filter fun e => !e.ok
  (ceil.map (fun e => (e.1, Status.invalidValue)) ++ Dev.atomicRel d v plans v0 all ++ full.map fun e => (firstOf e.involves plans, e.status),
    ceil.length)

/-- One record of an ATOMIC request on its own turn: one that the check pass has refused, with its status, does nothing. -/
def Dev.atomicOne (r : Requester) (path : Path) (left : Nat) (tk : Option (Nat × Nat)) (a : Aside) (o : Op) (st : Nat) (l : List Put) (d : Dev) :
    Ans × Dev :=
  if st ≠ Status.ok then (.fail st, d)
  else if d.access.bulkLost.contains (r, o.key) then
    (.fail Status.timeout, d.modAccess fun c => { c with bulkLost := c.bulkLost.filter (· != (r, o.key)) })
  else if o.opcode = 2 ∨ o.opcode = 5 then
    if d.heldBy r o.key then (.fail Status.busy, d)
    else
      let q := d.effect r false tk a l
      (ansOf q.1, q.2.metBy r.master 1 d.faults.reported.length)
  else d.execOp r path left tk a o

/-- The records of an ATOMIC request on a trial state, each with what the check pass says of it and its Puts. -/
def Dev.atomicEach (r : Requester) (path : Path) (tag : Nat) (a : Aside) : Nat → Nat → List (Op × Nat × List Put) → Dev → List Ans × Dev
  | _, _, [], d => ([], d)
  | i, left, (o, st, l) :: rest, d =>
    let (ans, d) := d.atomicOne r path (left - (rest.map fun e => e.1.least).sum) (some (tag, i)) a o st l
    -- an operation that was refused at once has already been answered
    let ans := match ans, d.access.replies.find? fun q => q.tag == tag with
      | .wait n p, some q => match q.recs[i]? with
        | some c => if !c.waiting && c.status != Status.ok then .fail c.status else .wait n p
        | none => .wait n p
      | x, _ => x
    let (l', d) := d.atomicEach r path tag a (i + 1) (left - (8 + ans.size)) rest
    (ans :: l', d)

/-- Every record of a request is answered with its status. -/
def Dev.answerAll (r : Requester) (tag : Nat) (l : List (Op × Ans)) (d : Dev) : Dev :=
  d.each ((List.range l.length).zip l) fun e d => (d.traceOp r e.2.1 e.2.2).answer tag e.1 e.2.2

/-- Records that fail report their own status, every other NOT_APPLIED (R46). -/
def Dev.atomicFail (r : Requester) (tag : Nat) (l : List (Op × Nat)) (d : Dev) : Dev :=
  d.answerAll r tag (l.map fun e => (e.1, .fail (if e.2 = Status.ok then Status.notApplied else e.2)))

/-- The plans of an ATOMIC request's writes, or their own failures by steps 1 to 6, with the rows of a record in the order in which they are applied
after the records before it. -/
def Dev.atomicPlans (d : Dev) (r : Requester) : Dev → List Op → List (Except Refused (List Put))
  | _, [] => []
  | v, o :: l =>
    match if o.opcode = 2 ∨ o.opcode = 5 then d.planWrite r false d.latest o else .ok [] with
    | .error f => .error f :: Dev.atomicPlans d r v l
    | .ok p =>
      let p := wideOrder v p
      .ok p :: Dev.atomicPlans d r (v.each p Dev.putView) l

/-- An ATOMIC request: a check pass over all its records, then each on a trial state, which stands if all of them are accepted. Of a request that
is refused only the counters of refusals remain (R70, R218, R462) and the TIMEOUT that a record has reported (R47). -/
def Dev.execAtomic (r : Requester) (path : Path) (tag : Nat) (a : Aside) (ops : List Op) (d : Dev) : List (Op × Nat) × Dev :=
  if ops.any fun o => o.opcode == 7 || o.opcode == 0x0A || o.opcode == 0x0C then
    ([], d.answerAll r tag (ops.map fun o => (o, .fail Status.unsupported)))
  else
    let d := d.bulkExpire
    let own := (d.atomicPlans r d.latest ops).map fun p => match p with
      | .error f => (f, [])
      | .ok l => (⟨Status.ok, false⟩, l)
    let (bad, ceil) := d.atomicCheck r (own.map (·.2))
    let st (e : Nat × Refused) : Nat :=
      if e.2.status = Status.ok then ((bad.find? fun (b : Nat × Nat) => b.1 == e.1).map (·.2)).getD Status.ok else e.2.status
    let checked := ((List.range own.length).zip (own.map (·.1))).map st
    let (answers, trial) := d.atomicEach r path tag a 0 path.space (ops.zip (checked.zip (own.map (·.2))))
    if answers.all fun x => x.status == Status.ok then
      ((ops.map fun o => (o, Status.ok)), trial.answerAll r tag (ops.zip answers))
    else
      let halted := (own.filter fun e => e.1.halter).length + ceil
      let d := d.modAccess fun c => { c with bulkLost := trial.access.bulkLost }
      let d := (d.add E.HalterRefusals halted).add E.EmRefused (trial.get E.EmRefused - d.get E.EmRefused)
      ([], d.atomicFail r tag (ops.zip (answers.map Ans.status)))

/-- A request of operation records from a requester by a path (R46). -/
def Dev.execRequest (r : Requester) (path : Path) (atomic : Bool) (a : Aside) (ops : List Op) (d : Dev) : Dev :=
  let tag := d.access.nextTag
  let d := d.modAccess fun c => { c with nextTag := tag + 1 }
  let d := d.replyPost { tag, path, who := r, recs := ops.map fun o => { opcode := o.opcode, idx := o.idx, sub := o.sub, waiting := true } }
  let (done, d) := if atomic then d.execAtomic r path tag a ops else d.execEach r path tag a 0 path.space ops
  d.mirrorOps r atomic done

/-- One record presented by itself. -/
def Dev.execDirect (r : Requester) (o : Op) (d : Dev) : Dev := d.execRequest r .direct false {} [o]

end Sys2Proof.Machine
end

