-- ==== Sys2Proof/Machine/Access.lean ====
section
/-!
DEFINITION. The access paths (chapter 02): Prosta frames, routing and sessions, CAN FD transfers, the dictionary window and the delivery of
notifications.
-/
namespace Sys2Proof.Machine

/-! ### Records as bytes (R43) -/

/-- Records that fill a string of bytes exactly; fuel is the number of bytes. -/
def parseOps : Nat → Bytes → Option (List Op)
  | 0, b => if b.isEmpty then some [] else none
  | fuel + 1, b =>
    if b.isEmpty then some []
    else
      let len := beAt b 2 2
      if len < 8 ∨ 1460 < len ∨ b.length < len then none
      else (parseOps fuel (b.drop len)).map fun l =>
        { opcode := beAt b 0 1, idx := beAt b 4 2, sub := beAt b 6 1, ty := beAt b 7 1, data := slice b 8 (len - 8) } :: l

/-- One to sixteen records (R46). -/
def requestOps (b : Bytes) : Option (List Op) :=
  match parseOps b.length b with
  | some l => if l.isEmpty ∨ 16 < l.length then none else some l
  | none => none

/-! ### Prosta frames (R48 to R58) -/

/-- A received Prosta frame: the requester's address, its tag, and its PDU. -/
structure PduIn where
  mac  : Nat
  vlan : Option Nat
  pdu  : Bytes
  deriving DecidableEq, Repr

/-- The PDU that follows the EtherType, after at most one VLAN tag (R48, R140); `extra` is ExtraTpid. -/
def pduIn (extra : Nat) (b : Bytes) : PduIn :=
  let tagged := tagKind extra (beAt b 12 2) == some 0
  { mac := beAt b 6 6, vlan := if tagged then some (beAt b 12 4) else none, pdu := b.drop (if tagged then 18 else 14) }

namespace Pdu
/-- FLAGS. -/
def flags (p : Bytes) : Nat := beAt p 1 1
/-- AUTH. -/
def auth (p : Bytes) : Bool := bit (flags p) 6
/-- ENC. -/
def enc (p : Bytes) : Bool := bit (flags p) 5
/-- DEST_NODE. -/
def dest (p : Bytes) : Nat := beAt p 2 2
/-- SRC_NODE. -/
def src (p : Bytes) : Nat := beAt p 4 2
/-- HOP_LIMIT. -/
def hop (p : Bytes) : Nat := beAt p 6 1
/-- OP_COUNT. -/
def count (p : Bytes) : Nat := beAt p 7 1
/-- SESSION_ID. -/
def sid (p : Bytes) : Nat := beAt p 8 4
/-- SEQ. -/
def seq (p : Bytes) : Nat := beAt p 12 8
/-- REQ_ID. -/
def reqId (p : Bytes) : Nat := beAt p 20 2
/-- PAYLOAD_LEN. -/
def len (p : Bytes) : Nat := beAt p 22 2
/-- The operation records. -/
def recs (p : Bytes) : Bytes := slice p 24 (len p)
/-- The GCM tag. -/
def tag (p : Bytes) : Bytes := slice p (24 + len p) 16
/-- The whole length of the PDU. -/
def size (p : Bytes) : Nat := 24 + len p + if auth p then 16 else 0
/-- Whether it is a request. -/
def request (p : Bytes) : Bool := !bit (flags p) 7 && !bit (flags p) 4
end Pdu

/-- Whether clear records agree with OP_COUNT. -/
def countOk (n : Nat) (recs : Bytes) : Bool := (requestOps recs).map (·.length) == some n

/-- Whether a frame of `total` bytes with PDU p is free of the faults of R50; encrypted records are looked at when they are open. A frame below 60 bytes
ends in padding. -/
def pduOk (total : Nat) (p : Bytes) : Bool :=
  decide (24 ≤ p.length) && beAt p 0 1 == 0x10 && Pdu.flags p % 8 == 0 && decide (Pdu.dest p < 2 ^ 14) && decide (Pdu.src p < 2 ^ 14) &&
    decide (8 ≤ Pdu.len p) && decide (Pdu.len p ≤ 1460) && (Pdu.size p == p.length || (decide (Pdu.size p ≤ p.length) && decide (total ≤ 60))) &&
    !(Pdu.enc p && !Pdu.auth p) && decide (1 ≤ Pdu.count p) && decide (Pdu.count p ≤ 16) &&
    (Pdu.enc p || countOk (Pdu.count p) (Pdu.recs p))

/-- What the response to a PDU needs. -/
def reqOf (port : Nat) (f : PduIn) (me : Nat) : ProstaReq :=
  { port, mac := f.mac, vlan := f.vlan, src := Pdu.src f.pdu, reqId := Pdu.reqId f.pdu, enc := Pdu.enc f.pdu, sid := Pdu.sid f.pdu, me }

/-- One unauthenticated response record with OPCODE 0x00 and a status (R54, R58). It answers a frame and no operation, so AccessErrors does not
count it (log 141). -/
def Dev.prostaError (q : ProstaReq) (status : Nat) (d : Dev) : Dev :=
  let r : Resp := { opcode := 0, idx := 0, sub := 0, status }
  let head := prostaHead 0x80 q.src (if q.me = 0 then d.get E.NodeId else q.me) (d.get E.DefaultHopLimit) 1 q.sid (2 ^ 63) q.reqId r.bytes.length
  d.prostaSend q.src (q.port, q.mac, q.vlan) (head ++ r.bytes)

/-! ### Transit (R57, R58, R337) -/

/-- The queue that Prosta frames in transit take (R337). -/
def Dev.transitQueue (d : Dev) : Nat := if d.get E.ProstaTransitQueue = 0xFF then d.get E.ProstaQueue else d.get E.ProstaTransitQueue

/-- A frame in transit on the egress port of its route: a D_HOP frame where its queue is marked (R337). -/
def Dev.transitSend (port : Nat) (r : Nat × Nat × Option Nat) (p : Bytes) (d : Dev) : Dev :=
  let (egress, mac, vlan) := r
  let q := d.transitQueue
  let b := etherHead mac (d.portMac egress) vlan (d.get E.ProstaEtherType) ++ patch (p.take (Pdu.size p)) 6 (toBE 1 (Pdu.hop p - 1))
  let x := d.ingressX port d.now
  let dhop := if (d.asOf x).isDhop egress q then some (d.dhopTarget port x) else none
  let (id, d) := d.newFrame 97 (plOf egress) (b ++ List.replicate (60 - b.length) 0)
  let d := d.modFrame id fun f => { f with x, oport := port, ox := x }
  (d.inc E.TransitFrames).reachAdmission { port := egress, queue := q, entry := { frame := id, tc := min 7 q, dhop }, own := true }

/-- A frame for another node (R57, R58). -/
def Dev.prostaTransit (port : Nat) (f : PduIn) (d : Dev) : Dev :=
  let p := f.pdu
  let refuse (status : Nat) (d : Dev) : Dev := d.cond (Pdu.request p) (Dev.prostaError (reqOf port f 0) status)
  if Pdu.hop p ≤ 1 then refuse Status.hopLimit (d.inc E.HopLimitExpired)
  else match d.prostaRoute (Pdu.dest p) with
    | none => refuse Status.unreachable (d.inc E.Unreachable)
    | some r => d.transitSend port r p

/-! ### Sessions (R52 to R56) -/

/-- The clear records of an authenticated PDU under a key and nonce, where its tag verifies (R52). -/
def openPdu (key nonce p : Bytes) : Option Bytes :=
  let aad := prostaAad (p.take 24)
  if Pdu.enc p then Config.gcmOpen key nonce aad (Pdu.recs p) (Pdu.tag p)
  else (Config.gcmOpen key nonce (aad ++ Pdu.recs p) [] (Pdu.tag p)).map fun _ => Pdu.recs p

/-- The bytes of "PROSTA" (R53). -/
def prostaWord : Bytes := [0x50, 0x52, 0x4F, 0x53, 0x54, 0x41]

/-- The session key (R53). -/
def sessionKey (slotKey reqNonce devNonce : Bytes) (sid : Nat) : Bytes :=
  (Config.hmacSha384 slotKey (prostaWord ++ reqNonce ++ devNonce ++ toBE 4 sid)).take 32

/-- The n-th session ID: never 0, none used twice (R53). -/
def sessionId (n : Nat) : Nat := 1 + (Config.sessionSalt + n) % (2 ^ 32 - 1)

/-- SESSION_OPEN whose frame has verified (R53, R54). -/
def Dev.sessionOpen (q : ProstaReq) (slot : Nat) (reqNonce : Bytes) (d : Dev) : Dev :=
  if 16 ≤ d.access.sessions.length then
    let r : Resp := { opcode := 0x0A, idx := 0, sub := 0, status := Status.full }
    (d.inc E.AccessErrors).prostaRespond q 1 r.bytes
  else
    let key := d.dom (E.SessionKey slot)
    let devNonce := fitBytes 16 (Config.drbg d.access.nonces)
    let sid := sessionId d.access.nextSid
    let s : Session := { id := sid, slot, key := sessionKey key reqNonce devNonce sid, last := d.now, port := q.port, node := q.src, mac := q.mac,
                         vlan := q.vlan, enc := q.enc }
    let d := d.modAccess fun a => { a with sessions := a.sessions ++ [s], nextSid := a.nextSid + 1, nonces := a.nonces + 1 }
    let r : Resp := { opcode := 0x0A, idx := 0, sub := 0, data := toBE 4 sid ++ devNonce }
    (d.inc (E.KeySlotOpens slot)).prostaRespond { q with auth := some (key, devNonce.take 12, 2 ^ 63) } 1 r.bytes

/-- A frame with SESSION_ID 0 and AUTH 1: one SESSION_OPEN record, else it fails authentication (R53, R71). -/
def Dev.prostaOpen (q : ProstaReq) (p : Bytes) (d : Dev) : Dev :=
  let o := (requestOps (Pdu.recs p)).getD []
  match o with
  | [o] =>
    let slot := beAt o.data 0 1
    let nonce := slice o.data 1 16
    if Pdu.enc p ∨ o.opcode ≠ 0x0A ∨ o.data.length ≠ 17 ∨ 8 ≤ slot ∨ !d.getB (E.KeySlotEnable slot) then d.inc E.AuthFailures
    else match openPdu (d.dom (E.SessionKey slot)) (nonce.take 12) p with
      | some _ => d.sessionOpen q slot nonce
      | none => d.inc E.AuthFailures
  | _ => d.inc E.AuthFailures

/-- Whether a session accepts a SEQ (R55): above every one accepted, or within 63 of it and new. -/
def Session.accepts (s : Session) (seq : Nat) : Bool :=
  let c := seq % 2 ^ 63
  decide (seq < 2 ^ 63) && (decide (s.high < c) || (decide (s.high ≤ c + 63) && !bit s.window (s.high - c)))

/-- The session after it accepted a SEQ. -/
def Session.accept (s : Session) (c : Nat) : Session :=
  if s.high < c then { s with high := c, window := (s.window * 2 ^ (c - s.high) + 1) % 2 ^ 64 }
  else { s with window := setBit s.window (s.high - c) true }

/-- Records of an open session (R55, R56). A SESSION_CLOSE answers under the session's key, taken before the session ends (R54). -/
def Dev.prostaSession (q : ProstaReq) (s : Session) (atomic : Bool) (n : Nat) (recs : Bytes) (d : Dev) : Dev :=
  match requestOps recs with
  | none => d.inc E.RxDropped
  | some ops =>
    if ops.length ≠ n then d.inc E.RxDropped
    else if ops.any fun o => o.opcode == 0x0B then
      let (seq, d) := d.takeSeq s
      d.execRequest ⟨0x20, s.id⟩ (.prosta { q with auth := some (s.key, toBE 4 s.id ++ toBE 8 seq, seq) }) atomic {} ops
    else d.execRequest ⟨0x20, s.id⟩ (.prosta q) atomic {} ops

/-- A frame that names a session (R54, R55). Its SEQ is tested before its tag: a replay with a bad tag counts in ReplaysRejected (log 141). -/
def Dev.prostaNamed (q : ProstaReq) (p : Bytes) (d : Dev) : Dev :=
  match d.session? (Pdu.sid p) with
  | none => d.prostaError q Status.sessionUnknown
  | some s =>
    if !Pdu.auth p then d.inc E.AuthFailures
    else if !s.accepts (Pdu.seq p) then d.inc E.ReplaysRejected
    else match openPdu s.key (toBE 4 s.id ++ toBE 8 (Pdu.seq p)) p with
      | none => d.inc E.AuthFailures
      | some recs =>
        let d := d.modSession s.id fun s =>
          { s.accept (Pdu.seq p) with last := d.now, port := q.port, node := q.src, mac := q.mac, vlan := q.vlan, enc := q.enc }
        d.prostaSession q s (bit (Pdu.flags p) 3) (Pdu.count p) recs

/-- Execute a frame addressed to this device or to the node it has assumed. -/
def Dev.prostaExecute (port : Nat) (f : PduIn) (d : Dev) : Dev :=
  let p := f.pdu
  let assumed := d.get E.AssumedNodeId
  let me := if Pdu.dest p ≠ 0 ∧ Pdu.dest p ≠ d.get E.NodeId then assumed else 0
  let q := reqOf port f me
  if !Pdu.request p then d
  else if Pdu.sid p ≠ 0 then d.prostaNamed q p
  else if Pdu.auth p then d.prostaOpen q p
  else d.execRequest ⟨0x20, 0⟩ (.prosta q) (bit (Pdu.flags p) 3) {} ((requestOps (Pdu.recs p)).getD [])

/-- The received frames that the agent holds: a request until its response leaves (R50; log 43). -/
def Dev.agentHeld (d : Dev) : Nat :=
  (d.access.replies.filter fun r => match r.path with
    | .prosta _ => true
    | _ => false).length

/-- PROSTA_FRAME_RECEIVE (R48, R50, R57): a frame of the EtherType on an enabled port; any other is no Prosta frame. A tether port takes none
(R396), and one that finds the agent's 64 places taken is dropped. -/
def Dev.prostaReceive (port : Nat) (b : Bytes) (d : Dev) : Dev :=
  if !(port < 96 ∧ d.power.forwarding ∧ d.isProsta port b) ∨ d.isTether port then d
  else
    let f := pduIn (d.get E.ExtraTpid) b
    let dest := Pdu.dest f.pdu
    if !pduOk b.length f.pdu || decide (64 ≤ d.agentHeld) then d.inc E.RxDropped
    else if dest = 0 ∨ dest = d.get E.NodeId ∨ dest = d.get E.AssumedNodeId then
      ((d.modCommit fun c => { c with arriveX := some (d.ingressX port d.now) }).prostaExecute port f).modCommit fun c => { c with arriveX := none }
    else d.prostaTransit port f

/-- SESSION_OPEN as the agent sees it (R53): the slot, the nonce and whether the frame verified; it came from no neighbour in particular. -/
def Dev.sessionOpenRow (slot : Nat) (nonce : Bytes) (authentic : Bool) (d : Dev) : Dev :=
  if 8 ≤ slot ∨ !d.getB (E.KeySlotEnable slot) ∨ !authentic then d.inc E.AuthFailures
  else d.sessionOpen { port := 0, mac := 0, vlan := none, src := 0, reqId := 0, enc := false, sid := 0 } slot (fitBytes 16 nonce)

/-- SESSION_IDLE_TIMEOUT (R54). -/
def Dev.sessionIdle (sid : Nat) (d : Dev) : Dev :=
  match d.session? sid with
  | some s => if s.last + 8000000000 * d.get E.SessionIdleTimeout ≤ d.now then d.sessionDrop sid else d
  | none => d

/-! ### Notifications (R60 to R62, R453) -/

/-- The oldest record of a subscriber's queue, taken out. -/
def Dev.notifyTake (r : Requester) (d : Dev) : Option Event × Dev :=
  match d.access.queues.find? fun q => q.who == r with
  | some q => match q.queue with
    | e :: l => (some e, d.modAccess fun a => { a with queues := a.queues.map fun q => if q.who = r then { q with queue := l } else q })
    | [] => (none, d)
  | none => (none, d)

/-- The CAN tag of the subscription that an event belongs to (R66). -/
def Dev.subTag (d : Dev) (r : Requester) (e : Event) : Nat :=
  ((d.access.subs.find? fun s => s.who == r && s.covers e.key).map (·.tag)).getD 0

/-- A notification to the host's ring where it has room (R453): an entry for each record. -/
def Dev.notifyHost (d : Dev) : Dev :=
  if !d.ringRoom 16 1 then d
  else match d.notifyTake ⟨0x10, 0⟩ with
    | (some e, d) => d.notifyWrite (notifyRecord e)
    | (none, d) => d

/-- A notification of a CAN agent, sent while no response is (R66). -/
def Dev.notifyCan (a : Nat) (d : Dev) : Dev :=
  if (d.can a).resp.isSome then d
  else match d.notifyTake ⟨0x21 + a, 0⟩ with
    | (some e, d) => d.canTransfer a (d.subTag ⟨0x21 + a, 0⟩ e) (notifyRecord e)
    | (none, d) => d

/-- NOTIFY_DELIVER (R62): the oldest record of a subscriber leaves by its path. -/
def Dev.notifyDeliver (r : Requester) (d : Dev) : Dev :=
  if r.master = 0x10 then d.notifyHost
  else if r.master = 0x21 ∨ r.master = 0x22 then d.notifyCan (r.master - 0x21)
  else match d.session? r.session with
    | some s => match d.notifyTake r with
      | (some e, d) => d.prostaNotify s (notifyRecord e)
      | (none, d) => d
    | none => d

/-! ### CAN FD (R63 to R66) -/

/-- An agent aborts a transfer on its response identifier and counts it (R65). -/
def Dev.canAbort (a tag status : Nat) (d : Dev) : Dev :=
  ((d.setCan a { d.can a with active := false, buf := [] }).inc (E.SegmentErrors a)).emit
    (.can d.now a (d.get (E.CanResponseId a)) (toBE 1 (0xC0 + tag * 16) ++ fitBytes 63 (toBE 1 status)))

/-- A whole transfer is executed as one request, never ATOMIC (R64). -/
def Dev.canExecute (a tag : Nat) (b : Bytes) (d : Dev) : Dev :=
  let d := d.setCan a { d.can a with active := false, buf := [] }
  match requestOps b with
  | some ops => d.execRequest ⟨0x21 + a, 0⟩ (.can a tag) false {} ops
  | none => d.canAbort a tag Status.segmentError

/-- A single segment: one record of at most 63 bytes, then padding. -/
def Dev.canSingle (a tag : Nat) (b : Bytes) (d : Dev) : Dev := d.canExecute a tag (slice b 1 (min 63 (beAt b 3 2)))

/-- A first segment. -/
def Dev.canFirst (a tag : Nat) (b : Bytes) (d : Dev) : Dev :=
  let len := beAt b 1 2
  if len < 9 ∨ 4096 < len then d.canAbort a tag Status.segmentError
  else
    let got := (slice b 3 61).take len
    if got.length = len then d.canExecute a tag got
    else d.setCan a { d.can a with active := true, tag, len, count := 0, buf := got, last := d.now }

/-- A consecutive segment; one that belongs to no transfer is ignored. -/
def Dev.canNext (a tag count : Nat) (b : Bytes) (d : Dev) : Dev :=
  let c := d.can a
  if !c.active then d
  else if count ≠ (c.count + 1) % 16 ∨ tag ≠ c.tag then d.canAbort a c.tag Status.segmentError
  else
    let got := (c.buf ++ slice b 1 63).take c.len
    if got.length = c.len then d.canExecute a tag got
    else d.setCan a { c with count := count, buf := got, last := d.now }

/-- A gap of more than 100 ms aborts the transfer in progress (R65). -/
def Dev.canGap (a : Nat) (d : Dev) : Dev :=
  let c := d.can a
  if c.active ∧ c.last + 800000000 < d.now then d.canAbort a c.tag Status.timeout else d

/-- Whether a frame's identifier is the agent's: bit 31 marks a 29-bit one, as in CanRequestId (R63, R70; log 148). -/
def Dev.canMine (d : Dev) (a id : Nat) : Bool := decide (a < 2) && d.getB (E.CanEnable a) && id == d.get (E.CanRequestId a)

/-- A CAN FD frame on the bus of agent a: on the agent's request identifier it is a data field whose KIND is the command's. One of another length
is ignored and counted (R63). -/
def Dev.canSegment (kind a id : Nat) (b : Bytes) (d : Dev) : Dev :=
  if !d.canMine a id then d
  else if b.length ≠ 64 then d.inc (E.SegmentErrors a)
  else if beAt b 0 1 / 64 ≠ kind then d
  else
    let tag := beAt b 0 1 / 16 % 4
    let count := beAt b 0 1 % 16
    let d := d.canGap a
    let c := d.can a
    match kind with
    | 2 => d.canNext a tag count b
    | 3 => d.setCan a { c with active := false, buf := [] }
    | k =>
      if c.active then d.canAbort a c.tag Status.segmentError
      else if count ≠ 0 then d.canAbort a tag Status.segmentError
      else if k = 0 then d.canSingle a tag b else d.canFirst a tag b

/-- CAN_RESPONSE_SEND (R66). -/
def Dev.canRespond (a : Nat) (d : Dev) : Dev :=
  match (d.can a).resp with
  | some (tag, b) => (d.setCan a { d.can a with resp := none }).canTransfer a tag b
  | none => d

/-! ### The dictionary window (R67, R68, R439, R463) -/

/-- Change the window. -/
def Dev.modWindow (g : Window → Window) (d : Dev) : Dev := d.modAccess fun a => { a with window := g a.window }

/-- GO (R67, R463): a request of a firmware master runs under its own ID; a malformed one executes nothing (R439). -/
def Dev.windowGo (m : Nat) (atomic : Bool) (len : Nat) (d : Dev) : Dev :=
  let w := d.access.window
  if w.busy then d.modWindow fun w => { w with overrun := true }
  else
    let who : Requester := ⟨if isFirmware m then m else 0x10, 0⟩
    let d := d.modWindow fun w => { w with busy := true, done := false, len, atomic, master := who.master, ready := false, resp := [] }
    let ops := if 8 ≤ len ∧ len ≤ 4096 then requestOps (fitBytes len w.buf) else none
    match ops with
    | some ops => d.execRequest who .window atomic {} ops
    | none =>
      let r : Resp := { opcode := 0, idx := 0, sub := 0, status := Status.invalidValue }
      d.modWindow fun w => { w with resp := r.bytes, ready := true }

/-- Whether the window's request will still be answered: its reply is held. -/
def Dev.windowWaits (d : Dev) : Bool := d.access.replies.any fun r => r.path == .window

/-- WINDOW_DONE (R67, R68): the responses lie in the buffer, DONE is set and the vector raised; after a reset of the host block they are
discarded. -/
def Dev.windowDone (d : Dev) : Dev :=
  let w := d.access.window
  if !w.busy || (!w.ready && d.windowWaits) then d
  else if w.discard then d.modWindow fun w => { w with busy := false, ready := false, discard := false, resp := [], status := 0 }
  else
    let d := d.modWindow fun w => { w with busy := false, ready := false, done := true, status := w.resp.length, buf := patch w.buf 0 w.resp }
    d.irqCause 2

/-! ### The commands -/

/-- PROSTA_FRAME_RECEIVE (R57). -/
def execProstaFrameReceive (x port : Nat) (frame : Bytes) (s : State) : Host.Outcome State Fault Refusal := s.live x (Dev.prostaReceive port frame)
/-- SESSION_OPEN (R53). -/
def execSessionOpen (x slot : Nat) (nonce : Bytes) (authentic : Bool) (s : State) : Host.Outcome State Fault Refusal :=
  s.live x (Dev.sessionOpenRow slot nonce authentic)
/-- SESSION_IDLE_TIMEOUT (R54). -/
def execSessionIdleTimeout (x sid : Nat) (s : State) : Host.Outcome State Fault Refusal := s.live x (Dev.sessionIdle sid)
/-- NOTIFY_DELIVER (R62). -/
def execNotifyDeliver (x : Nat) (r : Requester) (s : State) : Host.Outcome State Fault Refusal := s.live x (Dev.notifyDeliver r)
/-- NOTIFY_RING_WRITE (R453). -/
def execNotifyRingWrite (x : Nat) (s : State) : Host.Outcome State Fault Refusal := s.live x Dev.notifyHost
/-- CAN_SEGMENT_SINGLE (R64). -/
def execCanSegmentSingle (x : Nat) (bus : CanId) (seg : Bytes) (s : State) : Host.Outcome State Fault Refusal := s.live x (Dev.canSegment 0 bus.agent bus.id seg)
/-- CAN_SEGMENT_FIRST (R64). -/
def execCanSegmentFirst (x : Nat) (bus : CanId) (seg : Bytes) (s : State) : Host.Outcome State Fault Refusal := s.live x (Dev.canSegment 1 bus.agent bus.id seg)
/-- CAN_SEGMENT_CONSECUTIVE (R65). -/
def execCanSegmentConsecutive (x : Nat) (bus : CanId) (seg : Bytes) (s : State) : Host.Outcome State Fault Refusal := s.live x (Dev.canSegment 2 bus.agent bus.id seg)
/-- CAN_SEGMENT_ABORT (R64). -/
def execCanSegmentAbort (x : Nat) (bus : CanId) (seg : Bytes) (s : State) : Host.Outcome State Fault Refusal := s.live x (Dev.canSegment 3 bus.agent bus.id seg)
/-- CAN_TRANSFER_TIMEOUT (R65). -/
def execCanTransferTimeout (x agent : Nat) (s : State) : Host.Outcome State Fault Refusal := s.live x (Dev.canGap agent)
/-- CAN_RESPONSE_SEND (R66). -/
def execCanResponseSend (x agent : Nat) (s : State) : Host.Outcome State Fault Refusal := s.live x (Dev.canRespond agent)
/-- CAN_NOTIFY_SEND (R66). -/
def execCanNotifySend (x agent : Nat) (s : State) : Host.Outcome State Fault Refusal := s.live x (Dev.notifyCan agent)
/-- CLASSICAL_CAN_FRAME (R63): a frame on the agent's request identifier is ignored, and counted. -/
def execClassicalCanFrame (x : Nat) (bus : CanId) (s : State) : Host.Outcome State Fault Refusal :=
  s.live x fun d => d.cond (d.canMine bus.agent bus.id) (Dev.inc (E.SegmentErrors bus.agent))
/-- WINDOW_GO (R67). -/
def execWindowGo (x m : Nat) (atomic : Bool) (len : Nat) (s : State) : Host.Outcome State Fault Refusal := s.live x (Dev.windowGo m atomic len)
/-- WINDOW_DONE (R67). -/
def execWindowDone (x : Nat) (s : State) : Host.Outcome State Fault Refusal := s.live x Dev.windowDone

end Sys2Proof.Machine
end

