-- ==== Sys2Proof/Machine/ActionCommands.lean ====
section
/-!
DEFINITION. The commands that run one instruction of an action program on the frame held in pipeline pl's action stage (R224, R226): w is
the operand, bits [25:0] of the instruction word. The word runs in place of the word that the store holds; a frame whose program has ended
leaves the stage. With no frame in the stage nothing happens.
-/
namespace Sys2Proof.Machine

/-- Run one word with its opcode, and let the frame leave where its program has ended. -/
def Dev.actionWord (pl opcode w : Nat) (op : Dev → Dev) (d : Dev) : Dev :=
  let d := d.stepWord pl (opcode * 2 ^ 26 + w) op
  if ((d.stageAt pl).map (·.ended)).getD false then d.finishStage pl else d

/-- END, opcode 0x00 (R226). -/
def execEndOp (pl : Nat) (w : BitVec 26) (s : State) : Host.Outcome State Fault Refusal :=
  s.live s.dev.now (Dev.actionWord pl 0x00 w.toNat (Dev.endProgram pl))
/-- SET_CTQ, opcode 0x01 (R226). -/
def execSetCtq (pl : Nat) (w : BitVec 26) (s : State) : Host.Outcome State Fault Refusal :=
  s.live s.dev.now (Dev.actionWord pl 0x01 w.toNat (Dev.opSetCtq pl w.toNat))
/-- FWD, opcode 0x02 (R226). -/
def execFwd (pl : Nat) (w : BitVec 26) (s : State) : Host.Outcome State Fault Refusal :=
  s.live s.dev.now (Dev.actionWord pl 0x02 w.toNat (Dev.opFwd pl w.toNat))
/-- DROP, opcode 0x03 (R226). -/
def execDrop (pl : Nat) (w : BitVec 26) (s : State) : Host.Outcome State Fault Refusal :=
  s.live s.dev.now (Dev.actionWord pl 0x03 w.toNat (Dev.opDrop pl))
/-- SKIP_IF, opcode 0x04 (R226). -/
def execSkipIf (pl : Nat) (w : BitVec 26) (s : State) : Host.Outcome State Fault Refusal :=
  s.live s.dev.now (Dev.actionWord pl 0x04 w.toNat (Dev.opSkipIf pl w.toNat))
/-- COUNT, opcode 0x05 (R226). -/
def execCount (pl : Nat) (w : BitVec 26) (s : State) : Host.Outcome State Fault Refusal :=
  s.live s.dev.now (Dev.actionWord pl 0x05 w.toNat (Dev.opCount pl w.toNat))
/-- VLAN_PUSH, opcode 0x08 (R226). -/
def execVlanPush (pl : Nat) (w : BitVec 26) (s : State) : Host.Outcome State Fault Refusal :=
  s.live s.dev.now (Dev.actionWord pl 0x08 w.toNat (Dev.opVlanPush pl w.toNat))
/-- VLAN_POP, opcode 0x09 (R226). -/
def execVlanPop (pl : Nat) (w : BitVec 26) (s : State) : Host.Outcome State Fault Refusal :=
  s.live s.dev.now (Dev.actionWord pl 0x09 w.toNat (Dev.opVlanPop pl w.toNat))
/-- VLAN_SET, opcode 0x0A (R226). -/
def execVlanSet (pl : Nat) (w : BitVec 26) (s : State) : Host.Outcome State Fault Refusal :=
  s.live s.dev.now (Dev.actionWord pl 0x0A w.toNat (Dev.opVlanSet pl w.toNat))
/-- MAC_SET, opcode 0x0B (R226). -/
def execMacSet (pl : Nat) (w : BitVec 26) (s : State) : Host.Outcome State Fault Refusal :=
  s.live s.dev.now (Dev.actionWord pl 0x0B w.toNat (Dev.opMacSet pl w.toNat))
/-- TTL_DEC, opcode 0x0C (R226). -/
def execTtlDec (pl : Nat) (w : BitVec 26) (s : State) : Host.Outcome State Fault Refusal :=
  s.live s.dev.now (Dev.actionWord pl 0x0C w.toNat (Dev.opTtlDec pl w.toNat))
/-- DSCP_SET, opcode 0x0D (R226). -/
def execDscpSet (pl : Nat) (w : BitVec 26) (s : State) : Host.Outcome State Fault Refusal :=
  s.live s.dev.now (Dev.actionWord pl 0x0D w.toNat (Dev.opDscpSet pl w.toNat))
/-- RTAG_PUSH, opcode 0x10 (R226). -/
def execRtagPush (pl : Nat) (w : BitVec 26) (s : State) : Host.Outcome State Fault Refusal :=
  s.live s.dev.now (Dev.actionWord pl 0x10 w.toNat (Dev.opRtagPush pl w.toNat))
/-- RTAG_POP, opcode 0x11 (R226). -/
def execRtagPop (pl : Nat) (w : BitVec 26) (s : State) : Host.Outcome State Fault Refusal :=
  s.live s.dev.now (Dev.actionWord pl 0x11 w.toNat (Dev.opRtagPop pl))
/-- HSR_PUSH, opcode 0x12 (R226). -/
def execHsrPush (pl : Nat) (w : BitVec 26) (s : State) : Host.Outcome State Fault Refusal :=
  s.live s.dev.now (Dev.actionWord pl 0x12 w.toNat (Dev.opHsrPush pl w.toNat))
/-- HSR_POP, opcode 0x13 (R226). -/
def execHsrPop (pl : Nat) (w : BitVec 26) (s : State) : Host.Outcome State Fault Refusal :=
  s.live s.dev.now (Dev.actionWord pl 0x13 w.toNat (Dev.opHsrPop pl))
/-- PRP_ADD, opcode 0x14 (R226). -/
def execPrpAdd (pl : Nat) (w : BitVec 26) (s : State) : Host.Outcome State Fault Refusal :=
  s.live s.dev.now (Dev.actionWord pl 0x14 w.toNat (Dev.opPrpAdd pl w.toNat))
/-- PRP_STRIP, opcode 0x15 (R226). -/
def execPrpStrip (pl : Nat) (w : BitVec 26) (s : State) : Host.Outcome State Fault Refusal :=
  s.live s.dev.now (Dev.actionWord pl 0x15 w.toNat (Dev.opPrpStrip pl))
/-- MIRROR, opcode 0x18 (R226). -/
def execMirror (pl : Nat) (w : BitVec 26) (s : State) : Host.Outcome State Fault Refusal :=
  s.live s.dev.now (Dev.actionWord pl 0x18 w.toNat (Dev.opMirror pl w.toNat))
/-- SAMPLE, opcode 0x19 (R226). -/
def execSample (pl : Nat) (w : BitVec 26) (s : State) : Host.Outcome State Fault Refusal :=
  s.live s.dev.now (Dev.actionWord pl 0x19 w.toNat (Dev.opSample pl w.toNat))
/-- PUNT, opcode 0x1A (R226). -/
def execPunt (pl : Nat) (w : BitVec 26) (s : State) : Host.Outcome State Fault Refusal :=
  s.live s.dev.now (Dev.actionWord pl 0x1A w.toNat (Dev.opPunt pl w.toNat))
/-- LAUNCH, opcode 0x1C (R226). -/
def execLaunch (pl : Nat) (w : BitVec 26) (s : State) : Host.Outcome State Fault Refusal :=
  s.live s.dev.now (Dev.actionWord pl 0x1C w.toNat (Dev.opLaunch pl w.toNat))
/-- SETPOINT, opcode 0x1D (R226). -/
def execSetpoint (pl : Nat) (w : BitVec 26) (s : State) : Host.Outcome State Fault Refusal :=
  s.live s.dev.now (Dev.actionWord pl 0x1D w.toNat (Dev.opSetpoint pl w.toNat))

end Sys2Proof.Machine
end

