-- ==== Sys2Proof/Machine/Boot.lean ====
section
/-!
DEFINITION. Start-up from the dictionary image (R41, R543 to R548, R72, R557): choosing, checking and applying an image, and the start of forwarding.
-/
namespace Sys2Proof.Machine

/-! ### Checking an image (R547, R548) -/

/-- Whether header, body and CRCs of an image are as R547 says. -/
def imageSound (b : Bytes) : Bool :=
  let len := imageBodyLen b
  decide (68 ≤ b.length) && beAt b 0 4 == 0x4A544449 && beAt b 4 2 == 1 && beAt b 6 2 == 64 && len % 4 == 0 && decide (len ≤ 16777148) &&
    decide (68 + len ≤ b.length) && decide (beAt b 40 4 ≤ 1) && beAt b 44 4 == 0 &&
    beAt b 60 4 == crc32c 0xFFFFFFFF (b.take 60) && beAt b (64 + len) 4 == crc32c 0xFFFFFFFF (imageBody b) &&
    (imageRecs len (imageBody b)).map (·.length) == some (beAt b 32 4)

/-- Whether an image's version and binding fit the device (R548). -/
def Dev.imageFits (d : Dev) (b : Bytes) : Bool :=
  let dv := d.get E.DictionaryVersion
  let uid := beAt b 24 8
  beAt b 12 2 == dv / 2 ^ 16 && decide (beAt b 14 2 ≤ dv % 2 ^ 16) && (uid == 0 || uid == d.get E.UniqueId) && !(bit (beAt b 40 4) 0 && uid == 0)

/-! ### Applying records (R548) -/

/-- The boot sequencer as a requester: master 0x00 at P2. -/
def bootMaster : Requester := ⟨0x00, 0⟩

/-- A write of the boot sequencer with its status; none fails. -/
def Dev.bootPuts (l : List Put) (d : Dev) : Option Dev :=
  match Dev.putsOk bootMaster d l with
  | .error _ => none
  | .ok l =>
    let q := d.writePuts bootMaster true none {} l
    if q.1 = some Status.ok then some q.2 else none

/-- A stored key (R72, R547): decrypted under the device key, or the slot is noted as undecryptable. -/
def Dev.bootKey (slot : Nat) (b : Bytes) (d : Dev) : Option (List Nat × Dev) :=
  if b.length ≠ 60 then none
  else match Config.gcmOpen Config.deviceKey (b.take 12) [] (slice b 12 32) (slice b 44 16) with
    | some key => (d.bootPuts [.dom (E.SessionKey slot) (fitBytes 32 key)]).map fun d => ([], d)
    | none => some ([slot], d)

/-- One record of an image; answers the key slots that do not decrypt. -/
def Dev.bootRecord (q : ImageRec) (d : Dev) : Option (List Nat × Dev) :=
  let o : Op := { opcode := 2, idx := q.idx, sub := q.sub, ty := q.ty, data := q.data }
  match d.reach bootMaster o with
  | .error _ => none
  | .ok (.fixed _ _ _) => none
  | .ok (.table e t) =>
    let w := cdiv t.bits 8
    if !e.writable true (entryKey q.idx 0) ∨ q.ty ≠ Ty.table.code ∨ q.data.length % w ≠ 0 ∨ t.cap < q.first + q.data.length / w then none
    else (d.bootPuts (rowPuts q.idx w q.first q.data)).map fun d => ([], d)
  | .ok (.entry e) =>
    let k := o.key
    if !e.writable true k ∨ q.ty ≠ e.ty.code then none
    else if k / 256 = E.SessionKey 0 / 256 then d.bootKey (k - E.SessionKey 0) q.data
    else
      let b := if e.ty = .domain ∧ q.first ≠ 0 then patch (d.dom k) q.first q.data else q.data
      if (e.ty ≠ .domain ∧ q.first ≠ 0) ∨ !e.lenOk b.length then none
      else (d.bootPuts [entryPut e k b]).map fun d => ([], d)

/-- Whether a record is skipped at a wake from stabled mode (R557). -/
def wakeSkips (q : ImageRec) : Bool := decide (0x2000 ≤ q.idx) && decide (q.idx ≤ 0x21FF)

/-- The records in order; the index and sub-index of the first that fails. -/
def Dev.bootRecords (wake : Bool) : List ImageRec → List Nat → Dev → Except Nat (List Nat × Dev)
  | [], bad, d => .ok (bad, d)
  | q :: l, bad, d =>
    if wake && wakeSkips q then d.bootRecords wake l bad
    else match d.bootRecord q with
      | some (b, d) => d.bootRecords wake l (bad ++ b)
      | none => .error (entryKey q.idx q.sub)

/-- The checks of a commit request, run once on the result (R330 step 6, R548). -/
def Dev.bootOk (d : Dev) : Bool :=
  let p := d.period
  decide (d.get E.TickPhase < p) && d.pairsOk p && d.portsFit p && d.buildsFit p && (List.range 96).all fun q => d.weaveOk p q && d.dhopOk q

/-- A key slot that does not decrypt starts disabled (R72). -/
def Dev.slotUndecryptable (slot : Nat) (d : Dev) : Dev := (d.put (E.KeySlotEnable slot) 0).report Src.keySlotUndecryptable slot

/-- Apply an image, or say why it is refused: ImageLoadStatus and the record at fault. The setpoint words start from its limits (R362). -/
def Dev.imageApply (wake : Bool) (b : Bytes) (d : Dev) : Except (Nat × Nat) Dev :=
  if !imageSound b then .error (2, 0)
  else if !d.imageFits b then .error (3, 0)
  else match d.bootRecords wake ((imageRecs (imageBodyLen b) (imageBody b)).getD []) [] with
    | .error k => .error (4, k)
    | .ok (bad, d) =>
      if d.bootOk then .ok (((d.upto 8 Dev.portWordsInit).each bad Dev.slotUndecryptable).store E.ImageVersion (beAt b 8 4)) else .error (5, 0)

/-- An image is refused (R548): the fault, and the record that the first refusal of all names. -/
def Dev.imageRefused (first : Bool) (status key : Nat) (d : Dev) : Dev :=
  let d := (d.put E.ImageLoadStatus status).report Src.dictionaryDataError key
  d.cond first (Dev.store E.ImageRefusedEntry (key * 256))

/-! ### Choosing an image (R544, R547, R548) -/

/-- The images of both slots that are sound, as (slot, image), newest first. -/
def soundImages (a b : Option Bytes) : List (Nat × Bytes) :=
  let l := ((a.map fun i => (0, i)).toList ++ (b.map fun i => (1, i)).toList).filter fun (e : Nat × Bytes) => imageSound e.2
  match l with
  | [p, q] => if imageSeq p.2 < imageSeq q.2 then [q, p] else [p, q]
  | l => l

/-- Try images in order; answers whether one applied. -/
def Dev.tryImages (wake : Bool) : List (Nat × Bytes) → Bool → Dev → Bool × Dev
  | [], _, d => (false, d)
  | (slot, b) :: l, first, d =>
    match d.imageApply wake b with
    | .ok d' =>
      let d' := ((d'.store E.DictionarySource 1).put E.ImageLoadStatus 1).store E.ImageSlot slot
      (true, (d'.store E.ImageSequence (imageSeq b)).modPower fun p => { p with newest := slot, newestSeq := imageSeq b })
    | .error (st, k) => (d.imageRefused first st k).tryImages wake l false

/-! ### Starting (R93, R543, R557) -/

/-- Forwarding begins once the image is applied and the first tick has begun: ports leave DISABLED; a stabled request made during the wake now counts
(R557). -/
def Dev.forwardingStart (d : Dev) : Dev :=
  if d.power.phase = .starting ∧ d.power.loaded ∧ d.time.tickRun then
    let next := d.power.stableNext
    let d := d.modPower fun p => { p with phase := .running, forwarding := true, waking := false, stableNext := false }
    let d := d.store E.ForwardingTimeUs ((d.now - d.power.t0) / 8000)
    (d.upto 96 fun p d => d.cond (!d.portHeld p) (Dev.portRelease p)).absorbUpdate.cond next Dev.stableBegin
  else d

/-- The dictionary is loaded: the next boundary is that of the TickPeriod and TickPhase now in force (R91, R93), forwarding may begin, and a cascade master enumerates (R418). -/
def Dev.imageDone (d : Dev) : Dev :=
  let d := (d.modPower fun p => { p with loaded := true }).boundaryFirst
  let again := d.time.tickRun && decide (d.time.nextB ≤ d.time.boundT)
  let d := if again then { d with time := { d.time with nextB := d.time.boundT + d.period } } else d
  (d.loopWindows.ppStates).forwardingStart.enumSend

/-- The master's cascade section, kept for the chain (R418). -/
def Dev.cascSection (l : List CascEntry) (d : Dev) : Dev :=
  d.cond (d.get E.CascadeRole == 1) (Dev.modCasc fun c => { c with images := (l.filter fun e => e.kind != 0).map fun e => (e.kind, e.target, e.image) })

/-- The flash slots of a device that boots from them. -/
def Dev.loadSlots (wake : Bool) (a b : Option Bytes) (d : Dev) : Bool × Dev :=
  let unsound := (a.toList ++ b.toList).filter fun i => !imageSound i
  let d1 := d.each unsound fun _ d => d.imageRefused true 2 0
  let (ok, d2) := d1.tryImages wake (soundImages a b) unsound.isEmpty
  let d2 := d2.cond (!ok) fun d => match soundImages a b with
    | (slot, i) :: _ => d.modPower fun p => { p with newest := slot, newestSeq := imageSeq i }
    | [] => d
  (ok, d2)

/-- DICTIONARY_IMAGE_LOAD: what the flash holds has been read (R544 to R548). A device whose source is the cascade, or an enumerated slave whose
own image fails, waits for the master's (R419). -/
def Dev.imageLoad (flashBytes : Nat) (a b : Option Bytes) (l : List CascEntry) (d : Dev) : Dev :=
  if d.power.loaded ∨ d.casc.waiting then d
  else
    let src := d.get E.BootSource
    let wake := d.time.stableX != 0
    let usable := decide (134217728 ≤ flashBytes)
    if src = 3 then d.imageDone
    else
      let d := (d.store E.FlashBytes (if usable then flashBytes else 0)).cond (!usable) (Dev.put E.ImageLoadStatus 6)
      let d := d.cond usable (Dev.cascSection l)
      if src = 1 then d.modCasc fun c => { c with waiting := true }
      else if src = 2 ∨ !usable then d.imageDone
      else
        let (ok, d) := d.loadSlots wake a b
        if !ok ∧ d.get E.CascadeRole = 2 ∧ (a.isSome ∨ b.isSome) then (d.cascStatus 3 1).modCasc fun c => { c with waiting := true }
        else d.imageDone

/-- DICTIONARY_IMAGE_LOAD (R548). -/
def execDictionaryImageLoad (x flashBytes : Nat) (a b : Option Bytes) (l : List CascEntry) (s : State) : Host.Outcome State Fault Refusal :=
  s.live x (Dev.imageLoad flashBytes a b l)

end Sys2Proof.Machine
end

