-- ==== Sys2Proof/Machine/Cascade.lean ====
section
/-!
DEFINITION. The cascade chain (R413 to R420): frames as the master and the slaves handle them, enumeration, images, dictionary records and lane tests.
-/
namespace Sys2Proof.Machine

/-! ### Frames (R414, R415) -/

/-- Whether a payload lies within the limits of its TYPE. -/
def cascPayloadOk (f : CascFrame) : Bool :=
  let b := f.payload
  let n := b.length
  match f.type with
  | 1 => n == 12
  | 2 => decide (16 ≤ n) && decide (n ≤ 1024) && (beAt b 0 1 == 1 || beAt b 0 1 == 2)
  | 3 => n == 16 && (beAt b 0 1 == 1 || beAt b 0 1 == 2)
  | 4 => n == 20 && decide (beAt b 0 1 ≤ 3)
  | 5 => decide (n ≤ 480) && (requestOps b).isSome
  | 6 => decide (n ≤ 480)
  | 7 => n == 20 && decide (beAt b 2 1 ≤ 1) && decide (1 ≤ beAt b 4 2) && decide (beAt b 4 2 ≤ 60000)
  | 8 => n == 388
  | 9 => n == 4
  | _ => false

/-- A fault of the chain: CascadeState, class P with the POS, and a row of PairEvents (R414, R427). -/
def Dev.cascFault (state kind pos : Nat) (d : Dev) : Dev := ((d.put E.CascadeState state).pairEvent kind pos).report Src.cascadeFault pos

/-- A row of CascadeReplies (R428): header and up to 484 bytes of payload. -/
def Dev.cascReply (f : CascFrame) (d : Dev) : Dev :=
  let body := fitBytes 492 (cascHeader f ++ f.payload.take 484)
  d.ringPush T.CascadeReplies 256 E.CascadeReplyCount (srcKey T.CascadeReplies 0) 4047 fun n acq =>
    n * 2 ^ 4048 + acq.toNat * 2 ^ 4047 + (decide (484 < f.payload.length)).toNat * 2 ^ 4046 + d.stamp * 2 ^ 3936 + fromBE body

/-- Whether a TARGET names the device's position. -/
def Dev.cascTargeted (d : Dev) (target : Nat) : Bool :=
  decide (1 ≤ d.get E.CascadePosition) && decide (d.get E.CascadePosition < 32) && bit target (d.get E.CascadePosition)

/-! ### Sending images (R418) -/

/-- The IMAGE frames and the IMAGE_END of one image to DEST. -/
def Dev.cascImageSend (dest kind target : Nat) (b : Bytes) (d : Dev) : Dev :=
  let head := toBE 1 kind ++ [0, 0, 0] ++ toBE 4 target
  let d := d.upto (cdiv b.length 1008) fun i d =>
    d.cascEmit dest 2 0 (head ++ toBE 4 (1008 * i) ++ toBE 4 b.length ++ slice b (1008 * i) 1008)
  d.cascEmit dest 3 0 (head ++ toBE 4 b.length ++ toBE 4 (crc32c 0xFFFFFFFF b))

/-- A DICT frame of one record. -/
def Dev.cascOp (pos : Nat) (o : Op) (d : Dev) : Dev := d.cascEmit pos 5 0 o.bytes

/-- The master asks a slave for its NodeIdSource where it has node IDs to give (R418, R428). -/
def Dev.cascNodeAsk (pos : Nat) (d : Dev) : Dev :=
  d.cond (d.get E.CascadeNodeBase != 0)
    (Dev.cascOp pos { opcode := 1, idx := E.NodeIdSource / 256, sub := E.NodeIdSource % 256 })

/-- A slave that answers 1 has its NodeId written: CascadeNodeBase plus its position. -/
def Dev.cascNodeGive (f : CascFrame) (d : Dev) : Dev :=
  let r : Resp := { opcode := 1, status := Status.ok, idx := E.NodeIdSource / 256, sub := E.NodeIdSource % 256, ty := Ty.u8.code, data := [1] }
  d.cond (d.get E.CascadeNodeBase != 0 && f.payload == r.bytes)
    (Dev.cascOp f.src { opcode := 2, idx := E.NodeId / 256, sub := E.NodeId % 256, ty := Ty.u16.code, data := toBE 2 (d.get E.CascadeNodeBase + f.src) })

/-- ENUM has returned (R416, R418): the chain is READY, node IDs and images follow. -/
def Dev.enumReturned (pos : Nat) (d : Dev) : Dev :=
  if pos = 0xFE then d.cascFault 3 9 pos
  else
    let d := (d.put E.CascadeLength (pos + 1)).put E.CascadeState 2
    let d := d.each ((List.range (pos + 1)).drop 1) Dev.cascNodeAsk
    d.each d.casc.images fun e d => d.cascImageSend 0xFF e.1 e.2.1 e.2.2

/-- A STATUS of an image that failed: it is sent to that slave again, up to three times (R418). -/
def Dev.cascResend (pos kind : Nat) (d : Dev) : Dev :=
  let n := d.casc.tries.getD pos 0
  if n < 3 then
    let d := d.modCasc fun c => { c with tries := c.tries.set pos (n + 1) }
    d.each (d.casc.images.filter fun e => e.1 == kind && bit e.2.1 pos) fun e d => d.cascImageSend pos e.1 (2 ^ pos) e.2.2
  else d

/-! ### The master (R416 to R418) -/

/-- A frame comes back to the master. -/
def Dev.cascMaster (f : CascFrame) (d : Dev) : Dev :=
  match f.type with
  | 1 =>
    if beAt f.payload 4 8 = d.get E.UniqueId then d.cond (d.get E.CascadeState != 2) (Dev.enumReturned (beAt f.payload 0 1))
    else ((d.modCasc fun c => { c with stopped := true }).inc E.CascadeConflicts).cascFault 3 9 (beAt f.payload 0 1)
  | 4 =>
    let d := d.cascReply f
    let d := d.cond (beAt f.payload 0 1 == 1) (Dev.cascNodeAsk f.src)
    d.cond (beAt f.payload 0 1 == 2) (Dev.cascResend f.src (beAt f.payload 1 1))
  | 6 => (d.cascReply f).cascNodeGive f
  | 8 => d.cascReply f
  | _ => d

/-! ### A slave -/

/-- A slave meets an ENUM (R416): it takes the next position and changes the ENUM; position 32 it does not take. -/
def Dev.cascEnum (f : CascFrame) (d : Dev) : Dev :=
  let pos := beAt f.payload 0 1
  let next := if 31 ≤ pos then 0xFE else pos + 1
  let d := (d.put E.CascadeRole 2).put E.CascadePosition (if next = 0xFE then 0xFF else next)
  let d := if next = 0xFE then d.cascFault 3 9 0xFE else d.put E.CascadeState 2
  d.emit (.cascade d.now (cascSeal { f with payload := toBE 1 next ++ f.payload.drop 1 }))

/-- A part of an image (R415): one that begins starts it anew, one that follows is added, any other is left out and the end fails. -/
def Dev.cascImagePart (f : CascFrame) (d : Dev) : Dev :=
  let b := f.payload
  let target := beAt b 4 4
  let off := beAt b 8 4
  let part := b.drop 16
  if !d.cascTargeted target then d
  else if off = 0 then
    d.modCasc fun c => { c with image := some { kind := beAt b 0 1, target, total := beAt b 12 4, store := bit f.flags 0, got := part } }
  else match d.casc.image with
    | some i =>
      if i.kind = beAt b 0 1 ∧ i.target = target ∧ i.total = beAt b 12 4 ∧ off = i.got.length then
        d.modCasc fun c => { c with image := some { i with got := i.got ++ part } }
      else d
    | none => d

/-- IMAGE_END (R418): the image is checked against it; one that fails is reported. -/
def Dev.cascImageEnd (f : CascFrame) (d : Dev) : Dev :=
  let b := f.payload
  let kind := beAt b 0 1
  if !d.cascTargeted (beAt b 4 4) then d
  else
    let img := d.casc.image
    let d := d.modCasc fun c => { c with image := none }
    match img with
    | some i =>
      if i.kind = kind ∧ i.target = beAt b 4 4 ∧ i.total = beAt b 8 4 ∧ i.got.length = i.total ∧ crc32c 0xFFFFFFFF i.got = beAt b 12 4 ∧
          (kind = 2 ∨ imageSound i.got) then
        d.modCasc fun c => { c with pendImg := some { i with store := i.store || bit f.flags 0 } }
      else d.cascStatus 2 kind
    | none => d.cascStatus 2 kind

/-- A dictionary image that passed goes to the flash slot a store would use (R419). -/
def Dev.cascStoreDict (b : Bytes) (d : Dev) : Dev :=
  let slot := d.storeSlot
  let d := d.emit (.flash d.now (if slot = 0 then "dictionary slot A" else "dictionary slot B") b)
  d.cond (decide (d.power.newestSeq < imageSeq b)) (Dev.modPower fun p => { p with newest := slot, newestSeq := imageSeq b })

/-- A dictionary image ends its checks: a waiting slave starts by it, one that already runs only stores it (R418, R419). -/
def Dev.cascDictImage (i : CascImage) (d : Dev) : Dev :=
  if d.casc.waiting then
    match d.imageApply (d.time.stableX != 0) i.got with
    | .ok d' =>
      let d := ((d'.store E.DictionarySource 2).put E.ImageLoadStatus 1).modCasc fun c => { c with waiting := false }
      (d.cond i.store (Dev.cascStoreDict i.got)).imageDone.cascStatus 1 1
    | .error (st, k) => (d.imageRefused (d.get E.ImageRefusedEntry == 0) st k).cascStatus 2 1
  else if d.imageFits i.got then (d.cond i.store (Dev.cascStoreDict i.got)).cascStatus 1 1
  else d.cascStatus 2 1

/-- A firmware image ends its checks (R419, R470): stored where asked, and run by a slave whose source is the cascade and that runs none (R544). -/
def Dev.cascFwImage (i : CascImage) (d : Dev) : Dev :=
  if d.imageCheck (some i.got) ≠ 1 then d.cascStatus 2 2
  else
    let bank := d.standbyBank
    let d := d.cond i.store fun d => (d.bankWrite bank i.got).2
    let run := d.get E.BootSource == 1 && d.get E.FirmwareState == 0
    (d.cond run (Dev.coresStart (if i.store then bank else 0xFF) (bankHdr i.got))).cascStatus 1 2

/-- CASCADE_IMAGE_APPLIED: the target has finished with the image. -/
def Dev.cascApplied (d : Dev) : Dev :=
  match d.casc.pendImg with
  | some i =>
    let d := d.modCasc fun c => { c with pendImg := none }
    if i.kind = 1 then d.cascDictImage i else d.cascFwImage i
  | none => d

/-- DICT records are executed by master 0x31 at P2 and answered (R417). -/
def Dev.cascDict (f : CascFrame) (d : Dev) : Dev :=
  match requestOps f.payload with
  | some ops => d.execRequest ⟨0x31, 0⟩ .cascade false {} ops
  | none => d

/-- The port of a lane: a wide mode's first lane stands for the lanes it absorbs (R115). -/
def Dev.lanePort (d : Dev) (lane : Nat) : Nat :=
  if 64 ≤ lane then lane
  else if lane % 4 ≠ 0 ∧ d.get (E.PortMode (lane / 4 * 4)) = 5 then lane / 4 * 4
  else if lane % 2 = 1 ∧ d.get (E.PortMode (lane - 1)) = 4 then lane - 1
  else lane

/-- The lanes of a TEST: 0 to 63 trunk, 64 to 95 field. -/
def testLanes (b : Bytes) : List Nat := (List.range 96).filter fun l => if l < 64 then bit (beAt b 8 8) l else bit (beAt b 16 4) (l - 64)

/-- A TEST begins (R420): an enabled port of a lane under test is held DISABLED. One that comes while a test runs is not taken. -/
def Dev.cascTest (f : CascFrame) (d : Dev) : Dev :=
  if d.casc.test.isSome then d
  else
    let ports := ((testLanes f.payload).map d.lanePort).filter fun p => d.getB (E.PortEnable p)
    let d := d.modCasc fun c => { c with test := some (f.payload, d.now + 8000000 * beAt f.payload 4 2), held := ports }
    d.each ports fun p d => d.cond (d.get (E.PortState p) != 0) (Dev.portDisable p)

/-- CASCADE_TEST_DONE: the result of each lane, zero for a lane not under test, goes to the master; the ports restart from DOWN. -/
def Dev.cascTestDone (results : List Nat) (d : Dev) : Dev :=
  match d.casc.test with
  | some (b, x) =>
    if x ≤ d.now then
      let lanes := testLanes b
      let words := (List.range 96).flatMap fun l => toBE 4 (if lanes.contains l then results.getD l 0 else 0)
      let ports := d.casc.held
      let d := d.modCasc fun c => { c with test := none, held := [] }
      let d := d.each ports Dev.portRelease
      d.cascEmit 0 8 0 (toBE 2 (beAt b 0 2) ++ [0, 0] ++ words)
    else d
  | none => d

/-- RESET (R415): a target restarts. -/
def Dev.cascReset (f : CascFrame) (d : Dev) : Dev := d.cond (d.cascTargeted (beAt f.payload 0 4)) Dev.deviceReset

/-- What a slave does with a frame addressed to it or to every slave. -/
def Dev.cascAct (f : CascFrame) (d : Dev) : Dev :=
  match f.type with
  | 2 => d.cascImagePart f
  | 3 => d.cascImageEnd f
  | 5 => d.cascDict f
  | 7 => d.cascTest f
  | 9 => d.cascReset f
  | _ => d

/-- A frame at a device that is not the master (R417): forwarded unless it is for it alone, an ENUM changed on the way. -/
def Dev.cascSlaveIn (f : CascFrame) (d : Dev) : Dev :=
  let d := d.cond (d.get E.CascadeRole == 0) fun d => (d.put E.CascadeRole 2).put E.CascadeState 1
  if f.type = 1 then d.cascEnum f
  else if f.dest = d.get E.CascadePosition ∧ f.dest < 32 then d.cascAct f
  else
    let d := d.emit (.cascade d.now f)
    d.cond (f.dest == 0xFF) (Dev.cascAct f)

/-- A cascade frame arrives (R414, R415): a bad CRC, an unknown TYPE or a payload outside its limits drops and counts it. -/
def Dev.cascIn (f : CascFrame) (d : Dev) : Dev :=
  if f.crc != cascCrc f || !cascPayloadOk f then d.inc E.CascadeCrcErrors
  else if d.get E.CascadeRole = 1 then d.cascMaster f
  else d.cascSlaveIn f

/-- A frame of the TYPE that a command is for; one of an unknown TYPE is dropped, and one of another TYPE is another command's. -/
def Dev.cascAs (ty : Nat) (f : CascFrame) (d : Dev) : Dev := d.cond (f.type == ty || f.type == 0 || decide (9 < f.type)) (Dev.cascIn f)

/-- ENUM_RETRY: 10 ms after the last ENUM while the chain is not READY (R416). -/
def Dev.enumRetry (d : Dev) : Dev :=
  d.cond (d.power.loaded && d.get E.CascadeState != 2 && decide (d.casc.enumX + 80000000 ≤ d.now)) Dev.enumSend

/-- CASCADE_CLOCK_LOSS at a slave: the chain is DOWN; a clock still absent after that leaves it without a role (R413, R420). -/
def Dev.cascLoss (d : Dev) : Dev :=
  if d.get E.CascadeRole ≠ 2 then d
  else if d.get E.CascadeState = 0 then (d.put E.CascadeRole 0).put E.CascadePosition 0xFF
  else d.cascFault 0 10 0

/-- CASCADE_BOOT_WAIT_EXPIRY: no valid image has come within CascadeBootWaitMs of T0; the slave starts from factory defaults (R419). -/
def Dev.cascBootWait (d : Dev) : Dev :=
  d.cond (d.casc.waiting && decide (d.power.t0 + 8000000 * d.get E.CascadeBootWaitMs ≤ d.now)) fun d =>
    (d.modCasc fun c => { c with waiting := false }).imageDone

/-! ### The commands -/

/-- ENUM (R416). -/
def execEnum (x : Nat) (f : CascFrame) (s : State) : Host.Outcome State Fault Refusal := s.live x (Dev.cascAs 1 f)
/-- ENUM_RETRY (R416). -/
def execEnumRetry (x : Nat) (s : State) : Host.Outcome State Fault Refusal := s.live x Dev.enumRetry
/-- IMAGE (R415). -/
def execImage (x : Nat) (f : CascFrame) (s : State) : Host.Outcome State Fault Refusal := s.live x (Dev.cascAs 2 f)
/-- IMAGE_END (R418). -/
def execImageEnd (x : Nat) (f : CascFrame) (s : State) : Host.Outcome State Fault Refusal := s.live x (Dev.cascAs 3 f)
/-- CASCADE_IMAGE_APPLIED (R418). -/
def execCascadeImageApplied (x : Nat) (s : State) : Host.Outcome State Fault Refusal := s.live x Dev.cascApplied
/-- STATUS (R417). -/
def execStatus (x : Nat) (f : CascFrame) (s : State) : Host.Outcome State Fault Refusal := s.live x (Dev.cascAs 4 f)
/-- DICT (R417). -/
def execDict (x : Nat) (f : CascFrame) (s : State) : Host.Outcome State Fault Refusal := s.live x (Dev.cascAs 5 f)
/-- DICT_RESP (R417). -/
def execDictResp (x : Nat) (f : CascFrame) (s : State) : Host.Outcome State Fault Refusal := s.live x (Dev.cascAs 6 f)
/-- TEST (R420). -/
def execTest (x : Nat) (f : CascFrame) (s : State) : Host.Outcome State Fault Refusal := s.live x (Dev.cascAs 7 f)
/-- CASCADE_TEST_DONE (R420). -/
def execCascadeTestDone (x : Nat) (results : List Nat) (s : State) : Host.Outcome State Fault Refusal := s.live x (Dev.cascTestDone results)
/-- TEST_RESULT (R417). -/
def execTestResult (x : Nat) (f : CascFrame) (s : State) : Host.Outcome State Fault Refusal := s.live x (Dev.cascAs 8 f)
/-- RESET (R415). -/
def execReset (x : Nat) (f : CascFrame) (s : State) : Host.Outcome State Fault Refusal := s.live x (Dev.cascAs 9 f)
/-- CASCADE_CLOCK_LOSS (R420). -/
def execCascadeClockLoss (x : Nat) (s : State) : Host.Outcome State Fault Refusal := s.live x Dev.cascLoss
/-- CASCADE_BOOT_WAIT_EXPIRY (R419). -/
def execCascadeBootWaitExpiry (x : Nat) (s : State) : Host.Outcome State Fault Refusal := s.live x Dev.cascBootWait

end Sys2Proof.Machine
end

