-- ==== Sys2Proof/Machine/DictCommands.lean ====
section
/-!
DEFINITION. The commands that reach the dictionary: the operations of R44 and the entries that act. Each is the record that its rule gives, presented
by itself.
-/
namespace Sys2Proof.Machine

/-- One record at instant x. -/
def State.dict (s : State) (x : Nat) (r : Requester) (o : Op) : Host.Outcome State Fault Refusal := s.live x (Dev.execDirect r o)

/-- One record at instant x with what stands beside it. -/
def State.dictWith (s : State) (x : Nat) (r : Requester) (a : Aside) (o : Op) : Host.Outcome State Fault Refusal :=
  s.live x (Dev.execRequest r .direct false a [o])

/-- An ATOMIC request at instant x. -/
def State.dictAtomic (s : State) (x : Nat) (r : Requester) (l : List Op) : Host.Outcome State Fault Refusal :=
  s.live x (Dev.execRequest r .direct true {} l)

/-- A WRITE of scalar entry k. -/
def putOp (k v : Nat) : Op :=
  let ty := ((specOf (k / 256) (k % 256)).map (·.ty)).getD .u8
  { opcode := 2, idx := k / 256, sub := k % 256, ty := ty.code, data := toBE ty.bytes v }

/-- A WRITE of DOMAIN k. -/
def domOp (k : Nat) (b : Bytes) : Op := { opcode := 2, idx := k / 256, sub := k % 256, ty := Ty.domain.code, data := b }

/-- A READ of entry k. -/
def getOp (k : Nat) : Op := { opcode := 1, idx := k / 256, sub := k % 256 }

/-- A COMMIT_REQUEST record (R327). -/
def commitRecord (action flags id tick : Nat) : Op :=
  { opcode := 0x0C, idx := 0x0280, sub := 0, data := toBE 1 action ++ toBE 1 flags ++ toBE 2 id ++ toBE 8 tick }

/-- The 24 bytes of HbmTrainCommand with their OP (R486). -/
def trainBytes (op : Nat) (cmd : BitVec 192) : Bytes := toBE 24 (setFld cmd.toNat 191 184 op)

/-- The 16 bytes of PoolCommand (R497). -/
def poolBytes (op flags arg owners : Nat) : Bytes := toBE 1 op ++ toBE 1 flags ++ [0, 0] ++ toBE 4 arg ++ toBE 8 owners

/-- A bulk write of a master whose gap has passed 1 s (R47). -/
def Dev.bulkTimeout (master k : Nat) (d : Dev) : Dev :=
  let late (b : Bulk) : Bool := b.who.master == master && b.key == k && decide (b.last + 8000000000 < d.now)
  d.modAccess fun a => { a with
    bulks := a.bulks.filter fun b => !late b
    bulkLost := a.bulkLost ++ (a.bulks.filter late).map fun b => (b.who, b.key) }

/-- READ (R44): one READ record. -/
def execRead (x : Nat) (r : Requester) (idx : Nat) (sub : Nat) (s : State) : Host.Outcome State Fault Refusal :=
  s.dict x r { opcode := 1, idx, sub }
/-- WRITE (R36): one WRITE record. -/
def execWrite (x : Nat) (r : Requester) (idx : Nat) (sub : Nat) (ty : Nat) (data : Bytes) (s : State) : Host.Outcome State Fault Refusal :=
  s.dict x r { opcode := 2, idx, sub, ty, data }
/-- READ_STAGED (R325): one READ_STAGED record. -/
def execReadStaged (x : Nat) (r : Requester) (idx : Nat) (sub : Nat) (s : State) : Host.Outcome State Fault Refusal :=
  s.dict x r { opcode := 3, idx, sub }
/-- READ_ROW (R590): one READ_ROW record. -/
def execReadRow (x : Nat) (r : Requester) (idx : Nat) (sub : Nat) (first : Nat) (count : Nat) (s : State) : Host.Outcome State Fault Refusal :=
  s.dict x r { opcode := 4, idx, sub, ty := 0x0F, data := toBE 4 first ++ toBE 2 count }
/-- WRITE_ROW (R589): one WRITE_ROW record. -/
def execWriteRow (x : Nat) (r : Requester) (idx : Nat) (sub : Nat) (first : Nat) (count : Nat) (data : Bytes) (s : State) : Host.Outcome State Fault Refusal :=
  s.dict x r { opcode := 5, idx, sub, ty := 0x0F, data := toBE 4 first ++ toBE 2 count ++ data }
/-- BULK_READ (R590): one BULK_READ record. -/
def execBulkRead (x : Nat) (r : Requester) (idx : Nat) (sub : Nat) (off : Nat) (len : Nat) (s : State) : Host.Outcome State Fault Refusal :=
  s.dict x r { opcode := 6, idx, sub, data := toBE 4 off ++ toBE 2 len }
/-- BULK_WRITE (R47): one BULK_WRITE record. -/
def execBulkWrite (x : Nat) (r : Requester) (idx : Nat) (sub : Nat) (off : Nat) (total : Nat) (data : Bytes) (s : State) : Host.Outcome State Fault Refusal :=
  s.dict x r { opcode := 7, idx, sub, data := toBE 4 off ++ toBE 4 total ++ data }
/-- BULK_WRITE_TIMEOUT (R47): a gap of more than 1 s. -/
def execBulkWriteTimeout (x : Nat) (master : Nat) (idx : Nat) (sub : Nat) (s : State) : Host.Outcome State Fault Refusal :=
  s.live x (Dev.bulkTimeout master (entryKey idx sub))
/-- SUBSCRIBE (R60): one SUBSCRIBE record. -/
def execSubscribe (x : Nat) (r : Requester) (idx : Nat) (sub : Nat) (s : State) : Host.Outcome State Fault Refusal :=
  s.dict x r { opcode := 8, idx, sub }
/-- UNSUBSCRIBE (R60): one UNSUBSCRIBE record. -/
def execUnsubscribe (x : Nat) (r : Requester) (idx : Nat) (sub : Nat) (s : State) : Host.Outcome State Fault Refusal :=
  s.dict x r { opcode := 9, idx, sub }
/-- SESSION_CLOSE (R54): one SESSION_CLOSE record. -/
def execSessionClose (x : Nat) (r : Requester) (s : State) : Host.Outcome State Fault Refusal :=
  s.dict x r { opcode := 0x0B, idx := 0, sub := 0 }
/-- COMMIT (R330): COMMIT_REQUEST with ACTION 1. -/
def execCommit (x : Nat) (r : Requester) (flags : Nat) (id : Nat) (tick : Nat) (s : State) : Host.Outcome State Fault Refusal :=
  s.dict x r (commitRecord 1 flags id tick)
/-- ABORT (R334): COMMIT_REQUEST with ACTION 2. -/
def execAbort (x : Nat) (r : Requester) (flags : Nat) (id : Nat) (tick : Nat) (s : State) : Host.Outcome State Fault Refusal :=
  s.dict x r (commitRecord 2 flags id tick)
/-- ECHO (R44): one ECHO record. -/
def execEcho (x : Nat) (r : Requester) (data : Bytes) (s : State) : Host.Outcome State Fault Refusal :=
  s.dict x r { opcode := 0x0D, idx := 0, sub := 0, data }
/-- SET_TIME (R80): a WRITE of SetTime. -/
def execSetTime (x : Nat) (r : Requester) (d : Nat) (t : Nat) (s : State) : Host.Outcome State Fault Refusal :=
  s.dict x r (putOp (E.SetTime d) t)
/-- RATE_WORD (R80): a WRITE of RateWord. -/
def execRateWord (x : Nat) (r : Requester) (d : Nat) (w : Int) (s : State) : Host.Outcome State Fault Refusal :=
  s.dict x r (putOp (E.RateWord d) (enc 64 w))
/-- PHASE_ADJUST (R80): a WRITE of PhaseAdjust. -/
def execPhaseAdjust (x : Nat) (r : Requester) (d : Nat) (v : Int) (s : State) : Host.Outcome State Fault Refusal :=
  s.dict x r (putOp (E.PhaseAdjust d) (enc 64 v))
/-- REACQUIRE (R85): a WRITE of Reacquire. -/
def execReacquire (x : Nat) (r : Requester) (d : Nat) (v : Nat) (s : State) : Host.Outcome State Fault Refusal :=
  s.dict x r (putOp (E.Reacquire d) v)
/-- OUTPUT_REACQUIRE (R87): a WRITE of OutputReacquire. -/
def execOutputReacquire (x : Nat) (r : Requester) (v : Nat) (s : State) : Host.Outcome State Fault Refusal :=
  s.dict x r (putOp E.OutputReacquire v)
/-- OUTPUT_DOMAIN_WRITE (R89): a WRITE of OutputDomain. -/
def execOutputDomainWrite (x : Nat) (r : Requester) (v : Nat) (s : State) : Host.Outcome State Fault Refusal :=
  s.dict x r (putOp E.OutputDomain v)
/-- PROFILE_PRESET (R105): a WRITE of ProfilePreset. -/
def execProfilePreset (x : Nat) (r : Requester) (d : Nat) (v : Nat) (s : State) : Host.Outcome State Fault Refusal :=
  s.dict x r (putOp (E.ProfilePreset d) v)
/-- STORE_IMAGE (R550): a WRITE of StoreImage. -/
def execStoreImage (x : Nat) (r : Requester) (v : Nat) (s : State) : Host.Outcome State Fault Refusal := s.dict x r (putOp E.StoreImage v)
/-- L2_FLUSH (R189): a WRITE of L2Flush. -/
def execL2Flush (x : Nat) (r : Requester) (v : Nat) (s : State) : Host.Outcome State Fault Refusal := s.dict x r (putOp E.L2Flush v)
/-- STREAM_UNBLOCK (R311): a WRITE of StreamUnblock. -/
def execStreamUnblock (x : Nat) (r : Requester) (v : Nat) (s : State) : Host.Outcome State Fault Refusal :=
  s.dict x r (putOp E.StreamUnblock v)
/-- GATE_UNLATCH (R311): a WRITE of GateUnlatch. -/
def execGateUnlatch (x : Nat) (r : Requester) (v : Nat) (s : State) : Host.Outcome State Fault Refusal :=
  s.dict x r (putOp E.GateUnlatch v)
/-- HISTOGRAM_CLEAR (R313): a WRITE of HistogramClear. -/
def execHistogramClear (x : Nat) (r : Requester) (v : Nat) (s : State) : Host.Outcome State Fault Refusal :=
  s.dict x r (putOp E.HistogramClear v)
/-- QUEUE_HIGH_WATER_CLEAR (R281): a WRITE of QueueHighWaterClear. -/
def execQueueHighWaterClear (x : Nat) (r : Requester) (v : Nat) (s : State) : Host.Outcome State Fault Refusal :=
  s.dict x r (putOp E.QueueHighWaterClear v)
/-- YARD_EVENT_FLUSH (R344): a WRITE of YardEventFlush. -/
def execYardEventFlush (x : Nat) (r : Requester) (line : Nat) (s : State) : Host.Outcome State Fault Refusal :=
  s.dict x r (putOp E.YardEventFlush line)
/-- YARD_SAFE_REQUEST (R353): a WRITE of YardSafeRequest. -/
def execYardSafeRequest (x : Nat) (r : Requester) (v : Nat) (s : State) : Host.Outcome State Fault Refusal :=
  s.dict x r (putOp E.YardSafeRequest v)
/-- YARD_SAFE_RELEASE (R353): a WRITE of YardSafeRelease. -/
def execYardSafeRelease (x : Nat) (r : Requester) (v : Nat) (s : State) : Host.Outcome State Fault Refusal :=
  s.dict x r (putOp E.YardSafeRelease v)
/-- MIRROR_RESYNC (R405): a WRITE of MirrorResync. -/
def execMirrorResync (x : Nat) (r : Requester) (v : Nat) (s : State) : Host.Outcome State Fault Refusal :=
  s.dict x r (putOp E.MirrorResync v)
/-- TAKEOVER_ARM (R409): a WRITE of TakeoverArm. -/
def execTakeoverArm (x : Nat) (r : Requester) (v : Nat) (s : State) : Host.Outcome State Fault Refusal :=
  s.dict x r (putOp E.TakeoverArm v)
/-- OWN_CLAIM (R407): a WRITE of OwnClaim. -/
def execOwnClaim (x : Nat) (r : Requester) (v : Nat) (s : State) : Host.Outcome State Fault Refusal := s.dict x r (putOp E.OwnClaim v)
/-- OWN_RELEASE (R407): a WRITE of OwnRelease. -/
def execOwnRelease (x : Nat) (r : Requester) (v : Nat) (s : State) : Host.Outcome State Fault Refusal := s.dict x r (putOp E.OwnRelease v)
/-- SWAP_PREPARE (R475): a WRITE of SwapPrepare. -/
def execSwapPrepare (x : Nat) (r : Requester) (v : Nat) (s : State) : Host.Outcome State Fault Refusal :=
  s.dict x r (putOp E.SwapPrepare v)
/-- SWAP_REQUEST (R475): a WRITE of SwapRequest. -/
def execSwapRequest (x : Nat) (r : Requester) (tick : Nat) (s : State) : Host.Outcome State Fault Refusal :=
  s.dict x r (putOp E.SwapRequest tick)
/-- BANK_CONFIRM (R476): a WRITE of BankConfirm. -/
def execBankConfirm (x : Nat) (r : Requester) (v : Nat) (s : State) : Host.Outcome State Fault Refusal :=
  s.dict x r (putOp E.BankConfirm v)
/-- KEY_REVOKE (R471): a WRITE of KeyRevoke. -/
def execKeyRevoke (x : Nat) (r : Requester) (slot : Nat) (s : State) : Host.Outcome State Fault Refusal :=
  s.dict x r (putOp E.KeyRevoke slot)
/-- ROLLBACK_COMMIT (R472): a WRITE of RollbackCommit. -/
def execRollbackCommit (x : Nat) (r : Requester) (level : Nat) (s : State) : Host.Outcome State Fault Refusal :=
  s.dict x r (putOp E.RollbackCommit level)
/-- LOOP_RESUME (R467): a WRITE of LoopResume. -/
def execLoopResume (x : Nat) (r : Requester) (pair : Nat) (v : Nat) (s : State) : Host.Outcome State Fault Refusal :=
  s.dict x r (putOp (E.LoopResume pair) v)
/-- WD_MGMT_KICK (R533): a WRITE of WdMgmtKick. -/
def execWdMgmtKick (x : Nat) (r : Requester) (v : Nat) (s : State) : Host.Outcome State Fault Refusal := s.dict x r (putOp E.WdMgmtKick v)
/-- WD_TICK_KICK (R534): a WRITE of WdTickKick. -/
def execWdTickKick (x : Nat) (r : Requester) (pair : Nat) (v : Nat) (s : State) : Host.Outcome State Fault Refusal :=
  s.dict x r (putOp (E.WdTickKick pair) v)
/-- HBM_RETRAIN (R483): a WRITE of HbmRetrain. -/
def execHbmRetrain (x : Nat) (r : Requester) (v : Nat) (s : State) : Host.Outcome State Fault Refusal := s.dict x r (putOp E.HbmRetrain v)
/-- HBM_OFFLINE (R483): a WRITE of HbmOffline. -/
def execHbmOffline (x : Nat) (r : Requester) (v : Nat) (s : State) : Host.Outcome State Fault Refusal := s.dict x r (putOp E.HbmOffline v)
/-- FAULT_N_RELEASE_ENTRY (R532): a WRITE of FaultNRelease. -/
def execFaultNReleaseEntry (x : Nat) (r : Requester) (v : Nat) (s : State) : Host.Outcome State Fault Refusal :=
  s.dict x r (putOp E.FaultNRelease v)
/-- FAULT_CLASS_CLEAR (R539): a WRITE of FaultClassClear. -/
def execFaultClassClear (x : Nat) (r : Requester) (v : Nat) (s : State) : Host.Outcome State Fault Refusal :=
  s.dict x r (putOp E.FaultClassClear v)
/-- CAPTURE_REARM (R529): a WRITE of CaptureRearm. -/
def execCaptureRearm (x : Nat) (r : Requester) (v : Nat) (s : State) : Host.Outcome State Fault Refusal :=
  s.dict x r (putOp E.CaptureRearm v)
/-- PORT_SHUT_CLEAR (R527): a WRITE of PortShutClear. -/
def execPortShutClear (x : Nat) (r : Requester) (v : Nat) (s : State) : Host.Outcome State Fault Refusal :=
  s.dict x r (putOp E.PortShutClear v)
/-- SHED_REQUEST (R552): a WRITE of ShedRequest. -/
def execShedRequest (x : Nat) (r : Requester) (v : Nat) (s : State) : Host.Outcome State Fault Refusal :=
  s.dict x r (putOp E.ShedRequest v)
/-- SHED_EXIT (R554): a WRITE of ShedExit. -/
def execShedExit (x : Nat) (r : Requester) (v : Nat) (s : State) : Host.Outcome State Fault Refusal := s.dict x r (putOp E.ShedExit v)
/-- STABLED_REQUEST (R555): a WRITE of StabledRequest. -/
def execStabledRequest (x : Nat) (r : Requester) (v : Nat) (s : State) : Host.Outcome State Fault Refusal :=
  s.dict x r (putOp E.StabledRequest v)
/-- L2_INSERT (R189): a WRITE of L2Insert. -/
def execL2Insert (x : Nat) (r : Requester) (data : Nat) (s : State) : Host.Outcome State Fault Refusal :=
  s.dict x r (domOp E.L2Insert (toBE 14 data))
/-- L2_DELETE (R189): a WRITE of L2Delete. -/
def execL2Delete (x : Nat) (r : Requester) (data : Nat) (s : State) : Host.Outcome State Fault Refusal :=
  s.dict x r (domOp E.L2Delete (toBE 9 data))
/-- EM_INSERT (R199): a WRITE of EmInsert. -/
def execEmInsert (x : Nat) (r : Requester) (data : Nat) (s : State) : Host.Outcome State Fault Refusal :=
  s.dict x r (domOp E.EmInsert (toBE 30 data))
/-- EM_DELETE (R199): a WRITE of EmDelete. -/
def execEmDelete (x : Nat) (r : Requester) (key : Nat) (s : State) : Host.Outcome State Fault Refusal :=
  s.dict x r (domOp E.EmDelete (toBE 20 key))
/-- DEEP_INSERT (R208): a WRITE of DeepInsert. -/
def execDeepInsert (x : Nat) (r : Requester) (data : Nat) (s : State) : Host.Outcome State Fault Refusal :=
  s.dict x r (domOp E.DeepInsert (toBE 31 data))
/-- DEEP_DELETE (R208): a WRITE of DeepDelete. -/
def execDeepDelete (x : Nat) (r : Requester) (data : Nat) (s : State) : Host.Outcome State Fault Refusal :=
  s.dict x r (domOp E.DeepDelete (toBE 21 data))
/-- PADDOCK_COMPLETE (R386): a WRITE of PaddockComplete. -/
def execPaddockComplete (x : Nat) (r : Requester) (data : Nat) (s : State) : Host.Outcome State Fault Refusal :=
  s.dict x r (domOp E.PaddockComplete (toBE 8 data))
/-- YARD_EVENT_PUSH (R344): a WRITE of YardEventPush. -/
def execYardEventPush (x : Nat) (r : Requester) (line : Nat) (tick : Nat) (offq : Nat) (width : Nat) (s : State) : Host.Outcome State Fault Refusal :=
  s.dict x r (domOp E.YardEventPush (toBE 1 line ++ [0, 0, 0] ++ toBE 8 tick ++ toBE 4 offq ++ toBE 4 width))
/-- CASCADE_SEND (R417): a WRITE of CascadeSend. -/
def execCascadeSend (x : Nat) (r : Requester) (data : Bytes) (s : State) : Host.Outcome State Fault Refusal :=
  s.dict x r (domOp E.CascadeSend data)
/-- SET_DELAYS (R486): a WRITE of HbmTrainCommand. -/
def execSetDelays (x : Nat) (r : Requester) (cmd : BitVec 192) (s : State) : Host.Outcome State Fault Refusal :=
  s.dict x r (domOp E.HbmTrainCommand (trainBytes 1 cmd))
/-- WRITE_PATTERN (R486): a WRITE of HbmTrainCommand. -/
def execWritePattern (x : Nat) (r : Requester) (cmd : BitVec 192) (s : State) : Host.Outcome State Fault Refusal :=
  s.dict x r (domOp E.HbmTrainCommand (trainBytes 2 cmd))
/-- HBM_TRAIN_END (R486): a WRITE of HbmTrainCommand. -/
def execHbmTrainEnd (x : Nat) (r : Requester) (cmd : BitVec 192) (s : State) : Host.Outcome State Fault Refusal :=
  s.dict x r (domOp E.HbmTrainCommand (trainBytes 5 cmd))
/-- ALLOC (R498): a WRITE of PoolCommand. -/
def execAlloc (x : Nat) (r : Requester) (flags : Nat) (size : Nat) (s : State) : Host.Outcome State Fault Refusal :=
  s.dict x r (domOp E.PoolCommand (poolBytes 1 flags size 0))
/-- FREE (R500): a WRITE of PoolCommand. -/
def execFree (x : Nat) (r : Requester) (handle : Nat) (s : State) : Host.Outcome State Fault Refusal :=
  s.dict x r (domOp E.PoolCommand (poolBytes 2 0 handle 0))
/-- SHARE (R499): a WRITE of PoolCommand. -/
def execShare (x : Nat) (r : Requester) (handle : Nat) (owners : Nat) (s : State) : Host.Outcome State Fault Refusal :=
  s.dict x r (domOp E.PoolCommand (poolBytes 3 0 handle owners))
/-- RELEASE (R499): a WRITE of PoolCommand. -/
def execRelease (x : Nat) (r : Requester) (handle : Nat) (s : State) : Host.Outcome State Fault Refusal :=
  s.dict x r (domOp E.PoolCommand (poolBytes 4 0 handle 0))
/-- QUERY (R497): a WRITE of PoolCommand. -/
def execQuery (x : Nat) (r : Requester) (handle : Nat) (s : State) : Host.Outcome State Fault Refusal :=
  s.dict x r (domOp E.PoolCommand (poolBytes 5 0 handle 0))
/-- RECLAIM (R501): a WRITE of PoolCommand. -/
def execReclaim (x : Nat) (r : Requester) (master : Nat) (s : State) : Host.Outcome State Fault Refusal :=
  s.dict x r (domOp E.PoolCommand (poolBytes 6 0 0 (master * 2 ^ 56)))
/-- READ_COMPARE (R486): a WRITE of HbmTrainCommand with what the comparator finds. -/
def execReadCompare (x : Nat) (r : Requester) (cmd : BitVec 192) (failBlocks : Nat) (failBits : Nat) (s : State) : Host.Outcome State Fault Refusal :=
  s.dictWith x r { fails := some (failBlocks, failBits) } (domOp E.HbmTrainCommand (trainBytes 3 cmd))
/-- WRITE_THEN_COMPARE (R486): a WRITE of HbmTrainCommand with what the comparator finds. -/
def execWriteThenCompare (x : Nat) (r : Requester) (cmd : BitVec 192) (failBlocks : Nat) (failBits : Nat) (s : State) : Host.Outcome State Fault Refusal :=
  s.dictWith x r { fails := some (failBlocks, failBits) } (domOp E.HbmTrainCommand (trainBytes 4 cmd))
/-- HANDOFF_READY (R475): a WRITE of HandoffReady, with the block that firmware has written. -/
def execHandoffReady (x : Nat) (r : Requester) (v : Nat) (block : Bytes) (s : State) : Host.Outcome State Fault Refusal :=
  s.dictWith x r { block := some block } (putOp E.HandoffReady v)
/-- FIRMWARE_BANK_WRITE (R474): one BULK_WRITE record of FirmwareBank. -/
def execFirmwareBankWrite (x : Nat) (r : Requester) (bank : Nat) (off : Nat) (total : Nat) (data : Bytes) (s : State) : Host.Outcome State Fault Refusal :=
  s.dict x r { opcode := 7, idx := E.FirmwareBank 0 / 256, sub := bank + 1, data := toBE 4 off ++ toBE 4 total ++ data }
/-- L2_QUERY (R189): an ATOMIC write of L2QueryKey and reads of L2QueryResult. -/
def execL2Query (x : Nat) (r : Requester) (key : Nat) (s : State) : Host.Outcome State Fault Refusal :=
  s.dictAtomic x r (domOp E.L2QueryKey (toBE 8 key) :: (List.range 8).map fun i => getOp (E.L2QueryResult i))
/-- EM_QUERY (R199): an ATOMIC write of EmQueryKey and a read of EmQueryResult. -/
def execEmQuery (x : Nat) (r : Requester) (key : Nat) (s : State) : Host.Outcome State Fault Refusal :=
  s.dictAtomic x r [domOp E.EmQueryKey (toBE 20 key), getOp E.EmQueryResult]
/-- DEEP_QUERY (R375): an ATOMIC write of DeepQueryKey and a read of DeepQueryResult. -/
def execDeepQuery (x : Nat) (r : Requester) (data : Nat) (s : State) : Host.Outcome State Fault Refusal :=
  s.dictAtomic x r [domOp E.DeepQueryKey (toBE 21 data), getOp E.DeepQueryResult]
/-- STORE_COMPLETE (R550): the store ends. -/
def execStoreComplete (x : Nat) (ok : Bool) (s : State) : Host.Outcome State Fault Refusal := s.live x (Dev.storeComplete ok)

end Sys2Proof.Machine
end

