-- ==== Sys2Proof/Machine/HostRegs.lean ====
section
/-!
DEFINITION. The host block's register map (R432 to R447), its actions and resets, inject descriptors (R451, R452) and BAR2 (R455).
-/
namespace Sys2Proof.Machine

/-! ### Where registers lie (R432) -/

/-- The ring whose registers hold an offset, and the offset in them (R447). -/
def ringAt (off : Nat) : Option (Nat × Nat) :=
  if 0x10000 ≤ off ∧ off < 0x10440 then some ((off - 0x10000) / 64, off % 64) else none

/-- The mailbox channel of an offset, and the offset in it (R440). -/
def mboxAt (off : Nat) : Option (Nat × Nat) :=
  if 0x1000 ≤ off ∧ off < 0x1400 then some ((off - 0x1000) / 64, off % 64) else none

/-- The semaphore of an offset. -/
def semAt (off : Nat) : Option Nat := if 0x3000 ≤ off ∧ off < 0x3100 then some ((off - 0x3000) / 4) else none

/-- The MSI-X entry of an offset, and the offset in it. -/
def vecAt (off : Nat) : Option (Nat × Nat) :=
  if 0x20000 ≤ off ∧ off < 0x20400 then some ((off - 0x20000) / 16, off % 16) else none

/-- Whether a 64-bit register lies at an offset. -/
def wideAt (off : Nat) : Bool :=
  [0x18, 0x20, 0x38, 0x4010, 0x2000, 0x2008, 0x2010, 0x2018, 0x3100, 0x18000, 0x21000].contains off ||
    (match ringAt off with | some (_, o) => o == 0 | none => false) || (match vecAt off with | some (_, o) => o == 0 | none => false)

/-! ### Reads -/

/-- HB_STATUS (R434). No command of the model leaves a ring's descriptor in progress, so DMA_IDLE reads 1. -/
def Dev.hbStatus (d : Dev) : Nat :=
  d.power.forwarding.toNat * 2 ^ 31 + (d.get E.FirmwareState == 2).toNat * 2 ^ 30 + d.hbmUp.toNat * 2 ^ 29 + d.get E.YardSafe * 2 ^ 28 +
    d.faults.nLow.toNat * 2 ^ 27 + 2 ^ 26 + d.access.window.busy.toNat * 2 ^ 25 + (d.get E.Takeovers != 0).toNat * 2 ^ 24 +
    d.get E.OutputState * 2 ^ 22 + d.get E.MateState * 2 ^ 20 + d.get E.DictionarySource * 2 ^ 18 + d.power.straps.bootSrc.toNat * 2 ^ 16 +
    d.get E.FaultClassSeen

/-- HB_WIN_STATUS (R439). -/
def Window.statusReg (w : Window) : Nat := w.status * 2 ^ 16 + w.overrun.toNat * 4 + w.done.toNat * 2 + w.busy.toNat

/-- A 64-bit register without a side effect of its own, as master m reads it; write-only registers read 0. -/
def Dev.wideReg (m off : Nat) (d : Dev) : Nat :=
  match ringAt off, vecAt off with
  | some (r, _), _ => (d.ring r).base
  | _, some (v, _) => (d.host.vecs.getD v {}).addr
  | _, _ =>
    if off = 0x18 then d.get E.UniqueId
    else if off = 0x20 then d.tickNow
    else if off = 0x38 then d.host.raw
    else if off = 0x4010 then d.faults.cap.addr
    else if off = 0x2008 then d.host.dbPend
    else if off = 0x2018 then if isHost m then d.host.dbMask * 2 ^ 32 else 0
    else if off = 0x3100 then (d.host.sems.foldl (fun n e => if e.2.holder.isSome then setBit n e.1 true else n) 0)
    else if off = 0x18000 then d.host.cause
    else if off = 0x21000 then d.host.pba
    else 0

/-- A ring's 32-bit registers (R447). -/
def Ring.reg (g : Ring) (o : Nat) : Nat :=
  match o with
  | 0x08 => g.enable.toNat * 2 ^ 31 + g.log2 * 2 ^ 24 + g.units
  | 0x0C => g.head
  | 0x10 => g.tail
  | 0x14 => g.error.toNat * 2 ^ 31 + g.noBuf.toNat * 2 ^ 30
  | 0x18 => g.irqEn.toNat * 2 ^ 31 + g.holdoff
  | _ => 0

/-- A mailbox channel's status registers as the end `a` sees them (R440). -/
def Mbox.reg (b : Mbox) (a : Bool) (o : Nat) : Nat :=
  let s := b.side a
  match o with
  | 0x04 => s.emptyEvt.toNat * 2 ^ 31 + s.dropped.toNat * 2 ^ 30 + s.overflow.toNat * 2 ^ 29 + s.drops * 2 ^ 8 + (b.out a).length
  | 0x08 => match b.out (!a) with | w :: _ => w.stamp | [] => 0
  | 0x10 => s.arrival.toNat * 2 ^ 31 + (b.out (!a)).length
  | 0x14 => s.arrivalEn.toNat * 2 + s.emptyEn.toNat
  | _ => 0

/-- A read of MBX_RX_DATA by master m (R440). -/
def Dev.mboxRead (m c : Nat) (d : Dev) : Nat × Dev :=
  let (w, d) := d.mboxTake m c
  ((w.map (·.data)).getD 0, d)

/-- The 64-bit read of a word's stamp and data, which takes it (R440). -/
def Dev.mboxReadBoth (m c : Nat) (d : Dev) : Nat × Dev :=
  let (w, d) := d.mboxTake m c
  ((w.map fun w => w.data * 2 ^ 32 + w.stamp).getD 0, d)

/-- A 32-bit register as master m reads it, with what the read does; `rivals` as for Dev.semRead. -/
def Dev.reg32 (m off : Nat) (rivals : List Nat) (d : Dev) : Nat × Dev :=
  match mboxAt off, semAt off, ringAt off, vecAt off with
  | some (c, o), _, _, _ =>
    if o = 0x0C then d.mboxRead m c
    else match d.mboxEnd c m with
      | some a => ((d.mboxCh c).reg a o, d)
      | none => (0, d.inc E.MailboxForeign)
  | _, some s, _, _ => d.semRead m s rivals
  | _, _, some (r, o), _ => ((d.ring r).reg o, d)
  | _, _, _, some (v, o) =>
    let e := d.host.vecs.getD v {}
    (if o = 8 then e.data else if o = 12 then e.mask.toNat else 0, d)
  | _, _, _, _ =>
    let c := d.faults.cap
    let v :=
      if off = 0x00 then 0x7208 * 2 ^ 16 + d.get E.SiliconStep
      else if off = 0x04 then 0x00010001
      else if off = 0x08 then d.hbStatus
      else if off = 0x0C then d.host.scratch
      else if off = 0x10 then d.host.quiesce.toNat
      else if off = 0x2C then fld d.host.time 95 64
      else if off = 0x30 then fld d.host.time 63 32
      else if off = 0x34 then fld d.host.time 31 0
      else if off = 0x40 then d.epoch m
      else if off = 0x4000 then d.get E.FaultClassSeen
      else if off = 0x4008 then c.info
      else if off = 0x4018 then fld c.time 95 64
      else if off = 0x401C then fld c.time 63 32
      else if off = 0x4020 then fld c.time 31 0
      else if off = 0x4024 then c.seq
      else if off = 0x8004 then d.access.window.statusReg
      else if 0x9000 ≤ off ∧ off < 0xA000 then fromLE (slice (fitBytes 4096 d.access.window.buf) (off - 0x9000) 4)
      else 0
    (v, d)

/-- The key under which a master's half of a 64-bit register is kept. -/
def halfKey (m off : Nat) : Nat := m * 2 ^ 20 + off

/-- An access of BAR0 by the host arms or restarts its watchdog (R535). -/
def Dev.barTouch (m : Nat) (d : Dev) : Dev := d.cond (isHost m) Dev.hostKick

/-- A value read goes to its reader. -/
def Dev.giveValue (m : Nat) (r : Nat × Dev) : Dev := r.2.emit (.value r.2.now m r.1)

/-- A read of the register map by master m (R432): a low half latches the high half for the next read of it. -/
def Dev.barValue (m off size : Nat) (rivals : List Nat) (d : Dev) : Nat × Dev :=
  if size = 8 ∧ off % 8 = 0 ∧ wideAt off then (d.wideReg m off, d)
  else if size = 8 ∧ off % 8 = 0 ∧ (mboxAt off).any (fun e => e.2 == 8) then d.mboxReadBoth m ((off - 0x1000) / 64)
  else if size = 4 ∧ off % 4 = 0 then
    if wideAt off then
      let v := d.wideReg m off
      (v % 2 ^ 32, d.modHost fun h => { h with latchHi := h.latchHi.set (halfKey m off) (v / 2 ^ 32) })
    else if 4 ≤ off ∧ wideAt (off - 4) then
      let k := halfKey m (off - 4)
      match d.host.latchHi.get? k with
      | some v => (v, d.modHost fun h => { h with latchHi := h.latchHi.erase k })
      | none => (d.wideReg m (off - 4) / 2 ^ 32, d)
    else d.reg32 m off rivals
  else (0, d.inc E.HostBadAccess)

/-- HB_REGISTER_READ. -/
def Dev.barRead (m off size : Nat) (rivals : List Nat) (d : Dev) : Dev := Dev.giveValue m ((d.barTouch m).barValue m off size rivals)

/-! ### Actions (R435 to R437) -/

/-- HB_TIME_CTRL: a write of 1 to bit 0 latches output time and the raw counter (R437). -/
def Dev.timeLatch (v : Nat) (d : Dev) : Dev := d.cond (bit v 0) (Dev.modHost fun h => { h with time := d.stamp, raw := rawOf d.now })

/-- HB_CTRL (R435): bit 0 always; the actions with KEY 0xA5 in rising order of their bits. -/
def Dev.ctrlWrite (v : Nat) (d : Dev) : Dev :=
  let d := d.modHost fun h => { h with quiesce := bit v 0 }
  if fld v 31 24 = 0xA5 then
    let d := d.cond (bit v 2) Dev.hostFlr
    let d := d.cond (bit v 3) fun d => (d.yardSafeRelease 1).2
    let d := d.cond (bit v 4) fun d => (d.yardSafeRequest 1).2
    let d := d.cond (bit v 5) Dev.tickCoreReset
    let d := d.cond (bit v 6) Dev.mgmtReset
    d.cond (bit v 7) Dev.deviceReset
  else d

/-! ### Writes -/

/-- HB_WIN_REQ by master m (R439, R68). -/
def Dev.winReq (m v : Nat) (d : Dev) : Dev :=
  if d.access.window.busy then d.modWindow fun w => { w with overrun := true }
  else d.cond (bit v 31) (Dev.windowGo m (bit v 30) (fld v 12 0))

/-- A word written to the window's data buffer. -/
def Dev.winBuf (o v : Nat) (d : Dev) : Dev :=
  d.modWindow fun w => if w.busy then { w with overrun := true } else { w with buf := patch (fitBytes 4096 w.buf) o (toLE 4 v) }

/-- A write of one of the status registers of a mailbox end (R440). -/
def MboxEnd.write (s : MboxEnd) (o v : Nat) : MboxEnd :=
  match o with
  | 0x04 => { s with
      emptyEvt := s.emptyEvt && !bit v 31
      dropped := s.dropped && !bit v 30
      drops := if bit v 30 then 0 else s.drops
      overflow := s.overflow && !bit v 29 }
  | 0x10 => { s with arrival := s.arrival && !bit v 31 }
  | 0x14 => { s with arrivalEn := bit v 1, emptyEn := bit v 0 }
  | _ => s

/-- A write of a mailbox channel's registers by master m. -/
def Dev.mboxWrite (m c o v : Nat) (d : Dev) : Dev :=
  if o = 0 then d.mboxPost m c v
  else match d.mboxEnd c m with
    | some a => let b := d.mboxCh c; d.setMbox c (b.setSide a ((b.side a).write o v))
    | none => d.inc E.MailboxForeign

/-- TAIL of ring r (R447). -/
def Dev.ringTail (r v : Nat) (d : Dev) : Dev := d.setRing r { d.ring r with tail := fld v 14 0 }

/-- ENABLE 0 of ring r: no entry or record is in progress between commands, so the ring stops at once. -/
def Dev.ringStop (r : Nat) (d : Dev) : Dev := d.setRing r { d.ring r with enable := false, waits := false }

/-- A write of a ring's 32-bit registers (R447). -/
def Dev.ringWrite (r o v : Nat) (d : Dev) : Dev :=
  let g := d.ring r
  match o with
  | 0x08 => d.ringControl r v
  | 0x10 => d.ringTail r v
  | 0x14 => d.setRing r { g with error := g.error && !bit v 31, noBuf := g.noBuf && !bit v 30 }
  | 0x18 => d.setRing r { g with irqEn := bit v 31, holdoff := fld v 15 0 }
  | _ => d

/-- A write of the data or the mask of an MSI-X entry. -/
def Dev.vecWrite (n o v : Nat) (d : Dev) : Dev :=
  let e := d.host.vecs.getD n {}
  let store (e : Vec) : Dev := d.modHost fun h => { h with vecs := h.vecs.set n e }
  if o = 8 then store { e with data := v }
  else if o = 12 then (store { e with mask := bit v 0 }).cond (e.mask && !bit v 0) (Dev.unmask n)
  else d

/-- A 64-bit register is written by master m; BASE is ignored while its ring is enabled (R447). -/
def Dev.wideWrite (m off v : Nat) (d : Dev) : Dev :=
  match ringAt off, vecAt off with
  | some (r, _), _ => let g := d.ring r; if g.enable then d else d.setRing r { g with base := v / 4096 * 4096 }
  | _, some (n, _) => let e := d.host.vecs.getD n {}; d.modHost fun h => { h with vecs := h.vecs.set n { e with addr := v } }
  | _, _ =>
    if off = 0x2000 then d.dbSet m v
    else if off = 0x2010 then d.dbClr m v
    else if off = 0x2018 then d.cond (isHost m) (Dev.modHost fun h => { h with dbMask := v / 2 ^ 32 })
    else if off = 0x18000 then d.modHost fun h => { h with cause := h.cause &&& (2 ^ 64 - 1 - v) }
    else d

/-- The low half that a 64-bit register keeps where only its high half is written. -/
def Dev.wideKeep (m off : Nat) (d : Dev) : Nat := if (ringAt off).isSome || (vecAt off).isSome then d.wideReg m off % 2 ^ 32 else 0

/-- A 32-bit register is written by master m. -/
def Dev.reg32Write (m off v : Nat) (d : Dev) : Dev :=
  match mboxAt off, semAt off, ringAt off, vecAt off with
  | some (c, o), _, _, _ => d.mboxWrite m c o v
  | _, some s, _, _ => d.semWrite m s v
  | _, _, some (r, o), _ => d.ringWrite r o v
  | _, _, _, some (n, o) => d.vecWrite n o v
  | _, _, _, _ =>
    if off = 0x0C then d.modHost fun h => { h with scratch := v }
    else if off = 0x10 then d.ctrlWrite v
    else if off = 0x28 then d.timeLatch v
    else if off = 0x4000 then d.classClear v
    else if off = 0x4004 then (d.cond (bit v 1) Dev.captureRearm).cond (bit v 0) Dev.faultNRelease
    else if off = 0x8000 then d.winReq m v
    else if off = 0x8004 then d.modWindow fun w => { w with overrun := w.overrun && !bit v 2, done := w.done && !bit v 1 }
    else if 0x9000 ≤ off ∧ off < 0xA000 then d.winBuf (off - 0x9000) v
    else d

/-- HB_REGISTER_WRITE (R432): written in halves, a 64-bit register takes effect when its high half is written. -/
def Dev.barWrite (m off size v : Nat) (d : Dev) : Dev :=
  let d := d.barTouch m
  if size = 8 ∧ off % 8 = 0 ∧ wideAt off then d.wideWrite m off (v % 2 ^ 64)
  else if size = 4 ∧ off % 4 = 0 then
    let v := v % 2 ^ 32
    if wideAt off then d.modHost fun h => { h with half := h.half.set (halfKey m off) v }
    else if 4 ≤ off ∧ wideAt (off - 4) then
      let k := halfKey m (off - 4)
      let low := (d.host.half.get? k).getD (d.wideKeep m (off - 4))
      (d.modHost fun h => { h with half := h.half.erase k }).wideWrite m (off - 4) (v * 2 ^ 32 + low)
    else d.reg32Write m off v
  else d.inc E.HostBadAccess

/-! ### Inject descriptors (R451, R452) -/

/-- The status of a descriptor is written back and HEAD goes on; the vector follows (R451, R454). -/
def Dev.injectBack (r status : Nat) (d : Dev) : Dev :=
  let g := d.ring (8 + r)
  let d := d.emit (.host d.now (g.base + 32 * g.head + 24) (toLE 8 (2 ^ 63 + status * 2 ^ 48)))
  let d := d.setRing (8 + r) { d.ring (8 + r) with head := g.step 1 }
  (d.cond (status != Status.ok) (Dev.inc (E.InjectErrors r))).ringIrq (8 + r)

/-- The reserved fields of a descriptor. -/
def injectReserved (v : Nat) : Bool := fld v 254 248 != 0 || fld v 239 192 != 0 || fld v 107 104 != 0 || fld v 95 80 != 0

/-- Whether the frame of a descriptor is refused (R452). -/
def injectRefused (v : Nat) : Bool :=
  let n := fld v 79 64
  injectReserved v || (n != 0 && (decide (n < 60) || decide (9242 < n))) || (bit v 102 && decide (2 ≤ destKind (fld v 127 112)))

/-- A frame that bypasses classification, lookup and program is queued to DEST in QUEUE. -/
def Dev.injectBypass (pl dest queue : Nat) (b : Bytes) (d : Dev) : Dev :=
  let (id, d) := d.arrive 96 pl d.now b false
  let d := d.modFrame id fun f => { f with ctx := { f.ctx with dest := some dest, queue } }
  match d.frame? id with
  | some f => d.dispatch id f [] { drop := false, colour := f.ctx.colour, queue } none
  | none => d

/-- INJECT_DESCRIPTOR: the ring takes its next descriptor; `frame` is none where the read of host memory fails. -/
def Dev.inject (r v : Nat) (frame : Option Bytes) (d : Dev) : Dev :=
  let g := d.ring (8 + r)
  let n := fld v 79 64
  if !(decide (r < 8) && g.enable && g.avail != 0 && !d.host.quiesce && !d.host.d3 && (n == 0 || d.power.forwarding)) then d
  else
    let (st, d) := if bit v 103 then d.paddockComplete (fld v 191 128) else (Status.ok, d)
    if injectRefused v then d.injectBack r Status.invalidValue
    else if n = 0 then d.injectBack r st
    else match frame with
      | none =>
        let d := (d.injectBack r Status.dataError).report Src.injectReadError r
        d.setRing (8 + r) { d.ring (8 + r) with error := true, enable := false }
      | some b =>
        let b := fitBytes n b
        let pl := fld v 101 99
        let d := if bit v 102 then d.injectBypass pl (fld v 127 112) (fld v 111 108) b else d.ingress 96 pl b false false
        (d.inc (E.InjectFrames r)).injectBack r st

/-! ### BAR2 (R455, R480) -/

/-- Whether every byte of an access lies in a region of the kinds k, within the BAR; the host region needs a BAR of 8 GiB. -/
def Dev.bar2Ok (off len : Nat) (k : List Nat) (d : Dev) : Bool :=
  let fit (a : Nat) : Bool := decide (a < 2 ^ d.host.bar2) && k.contains (hbmRegion a) && (hbmRegion a != 4 || decide (33 ≤ d.host.bar2))
  d.hbmUp && decide (0 < len) && fit off && fit (off + len - 1)

/-- BAR2_READ. -/
def Dev.bar2Read (off len : Nat) (ecc : EccResult) (d : Dev) : Dev :=
  if !d.bar2Ok off len [1, 2, 3, 4] then (d.inc E.Bar2Errors).emit (.bytes d.now (List.replicate len 255))
  else match ecc with
    | .uncorrected => ((d.hbmDouble off 0x10 0).reportBy Src.bar2Poisoned off 0x10 0).emit (.poisoned d.now)
    | _ =>
      let d := d.cond (ecc == .corrected) (Dev.hbmSingle off 0x10 0)
      let (b, d) := d.hbmRead off len
      d.emit (.bytes d.now b)

/-- BAR2_WRITE. -/
def Dev.bar2Write (off : Nat) (b : Bytes) (d : Dev) : Dev := if d.bar2Ok off b.length [4] then d.hbmStore off b else d.inc E.Bar2Errors

/-! ### The link (R429, R431) -/

/-- HOT_RESET: a hot reset or a link that goes down resets the function as an FLR; the link is down until it has trained (R456). -/
def Dev.hotReset (d : Dev) : Dev := (d.hostFlr.modHost fun h => { h with linked := false }).put E.LinkStatus 0

/-- PCIE_LINK_UP: LinkStatus takes the width and speed; the speed is held to MaxLinkSpeed. -/
def Dev.linkUp (width speed : Nat) (d : Dev) : Dev :=
  (d.modHost fun h => { h with linked := true }).put E.LinkStatus (width % 16 * 16 + min speed (d.get E.MaxLinkSpeed) % 16)

/-- D3HOT_ENTRY: DMA and MSI-X stop. -/
def Dev.d3Enter (d : Dev) : Dev := d.modHost fun h => { h with d3 := true }

/-- D0_RETURN: the rings go on from HEAD. -/
def Dev.d0Return (d : Dev) : Dev := d.modHost fun h => { h with d3 := false }

/-- An action of HB_CTRL by master m with a key (R435). -/
def Dev.keyed (m key : Nat) (f : Dev → Dev) (d : Dev) : Dev := (d.barTouch m).cond (key == 0xA5) f

/-! ### Semaphores read in one clock (R446) -/

/-- The capture, the master and the semaphore of a command that reads one. -/
def semReader : Instr → Option (Nat × Nat × Nat)
  | .hbSemAcquire x m k => some (x, m, k)
  | .hbRegisterRead x m off 4 => (semAt off).map fun k => (x, m, k)
  | _ => none

/-- The masters below m whose reads of semaphore k wait and come in the clock of capture x. -/
def State.semRivals (s : State) (x m k : Nat) : List Nat :=
  s.pending.filterMap fun i => match semReader i with
    | some (y, n, j) => if j = k ∧ n < m ∧ coreClock y = coreClock x then some n else none
    | none => none

/-! ### The commands -/

/-- DEVICE_RESET (R436). -/
def execDeviceReset (x m key : Nat) (s : State) : Host.Outcome State Fault Refusal := s.live x (Dev.keyed m key Dev.deviceReset)
/-- MGMT_RESET (R436). -/
def execMgmtReset (x m key : Nat) (s : State) : Host.Outcome State Fault Refusal := s.live x (Dev.keyed m key Dev.mgmtReset)
/-- TICK_CORE_RESET (R436). -/
def execTickCoreReset (x m key : Nat) (s : State) : Host.Outcome State Fault Refusal := s.live x (Dev.keyed m key Dev.tickCoreReset)
/-- YARD_SAFE_REQ (R435, R353). -/
def execYardSafeReq (x m key : Nat) (s : State) : Host.Outcome State Fault Refusal :=
  s.live x (Dev.keyed m key fun d => (d.yardSafeRequest 1).2)
/-- YARD_SAFE_REL (R435, R353). -/
def execYardSafeRel (x m key : Nat) (s : State) : Host.Outcome State Fault Refusal :=
  s.live x (Dev.keyed m key fun d => (d.yardSafeRelease 1).2)
/-- HOST_RESET (R435, R431). -/
def execHostReset (x m key : Nat) (s : State) : Host.Outcome State Fault Refusal := s.live x (Dev.keyed m key Dev.hostFlr)
/-- DMA_QUIESCE (R435). -/
def execDmaQuiesce (x m : Nat) (on : Bool) (s : State) : Host.Outcome State Fault Refusal :=
  s.live x fun d => (d.barTouch m).modHost fun h => { h with quiesce := on }
/-- PE_PERST (R431). -/
def execPePerst (x : Nat) (s : State) : Host.Outcome State Fault Refusal := s.live x Dev.hostConventional
/-- HOT_RESET (R431). -/
def execHotReset (x : Nat) (s : State) : Host.Outcome State Fault Refusal := s.live x Dev.hotReset
/-- FLR (R431). -/
def execFlr (x : Nat) (s : State) : Host.Outcome State Fault Refusal := s.live x Dev.hostFlr
/-- D3HOT_ENTRY (R431). -/
def execD3hotEntry (x : Nat) (s : State) : Host.Outcome State Fault Refusal := s.live x Dev.d3Enter
/-- D0_RETURN (R431). -/
def execD0Return (x : Nat) (s : State) : Host.Outcome State Fault Refusal := s.live x Dev.d0Return
/-- HB_TIME_LATCH (R437). -/
def execHbTimeLatch (x m : Nat) (v : BitVec 32) (s : State) : Host.Outcome State Fault Refusal :=
  s.live x fun d => (d.barTouch m).timeLatch v.toNat
/-- CAP_REARM (R438). -/
def execCapRearm (x m : Nat) (s : State) : Host.Outcome State Fault Refusal := s.live x fun d => (d.barTouch m).captureRearm
/-- FAULT_N_RELEASE (R532). -/
def execFaultNRelease (x m : Nat) (s : State) : Host.Outcome State Fault Refusal := s.live x fun d => (d.barTouch m).faultNRelease
/-- HB_REGISTER_WRITE (R432). -/
def execHbRegisterWrite (x m off size v : Nat) (s : State) : Host.Outcome State Fault Refusal := s.live x (Dev.barWrite m off size v)
/-- HB_REGISTER_READ (R432). -/
def execHbRegisterRead (x m off size : Nat) (s : State) : Host.Outcome State Fault Refusal := s.live x (Dev.barRead m off size ((semAt off).elim [] (s.semRivals x m)))
/-- MBX_TX (R440). -/
def execMbxTx (x m ch : Nat) (v : BitVec 32) (s : State) : Host.Outcome State Fault Refusal :=
  s.live x fun d => (d.barTouch m).mboxPost m ch v.toNat
/-- MBX_RX_DATA (R440). -/
def execMbxRxData (x m ch : Nat) (s : State) : Host.Outcome State Fault Refusal :=
  s.live x fun d => Dev.giveValue m ((d.barTouch m).mboxRead m ch)
/-- MBX_RX_STAMP_DATA (R440). -/
def execMbxRxStampData (x m ch : Nat) (s : State) : Host.Outcome State Fault Refusal :=
  s.live x fun d => Dev.giveValue m ((d.barTouch m).mboxReadBoth m ch)
/-- HB_SEM_ACQUIRE (R445). -/
def execHbSemAcquire (x m sem : Nat) (s : State) : Host.Outcome State Fault Refusal :=
  s.live x fun d => Dev.giveValue m ((d.barTouch m).semRead m sem (s.semRivals x m sem))
/-- HB_SEM_RELEASE (R445). -/
def execHbSemRelease (x m sem : Nat) (v : BitVec 32) (s : State) : Host.Outcome State Fault Refusal :=
  s.live x fun d => (d.barTouch m).semWrite m sem v.toNat
/-- HB_DB_SET (R444). -/
def execHbDbSet (x m : Nat) (v : BitVec 64) (s : State) : Host.Outcome State Fault Refusal := s.live x fun d => (d.barTouch m).dbSet m v.toNat
/-- HB_DB_CLR (R444). -/
def execHbDbClr (x m : Nat) (v : BitVec 64) (s : State) : Host.Outcome State Fault Refusal := s.live x fun d => (d.barTouch m).dbClr m v.toNat
/-- RING_ENABLE (R447). -/
def execRingEnable (x ring : Nat) (v : BitVec 32) (s : State) : Host.Outcome State Fault Refusal :=
  s.live x fun d => (d.barTouch 0x10).ringControl ring (setBit v.toNat 31 true)
/-- RING_DISABLE (R447). -/
def execRingDisable (x ring : Nat) (s : State) : Host.Outcome State Fault Refusal := s.live x fun d => (d.barTouch 0x10).ringStop ring
/-- RING_TAIL_WRITE (R447). -/
def execRingTailWrite (x ring : Nat) (v : BitVec 32) (s : State) : Host.Outcome State Fault Refusal :=
  s.live x fun d => (d.barTouch 0x10).ringTail ring v.toNat
/-- INJECT_DESCRIPTOR (R452). -/
def execInjectDescriptor (x ring : Nat) (desc : BitVec 256) (frame : Option Bytes) (s : State) : Host.Outcome State Fault Refusal :=
  s.live x (Dev.inject ring desc.toNat frame)
/-- BAR2_READ (R455). -/
def execBar2Read (x off len : Nat) (ecc : EccResult) (s : State) : Host.Outcome State Fault Refusal := s.live x (Dev.bar2Read off len ecc)
/-- BAR2_WRITE (R455). -/
def execBar2Write (x off : Nat) (data : Bytes) (s : State) : Host.Outcome State Fault Refusal := s.live x (Dev.bar2Write off data)
/-- PCIE_LINK_UP (R429). -/
def execPcieLinkUp (x width speed : Nat) (s : State) : Host.Outcome State Fault Refusal := s.live x (Dev.linkUp width speed)

end Sys2Proof.Machine
end

