-- ==== Sys2Proof/Machine/Ptp.lean ====
section
/-!
DEFINITION. Time messages as they are received and originated (R96, R98 to R104, R113). A message that no role takes is ordinary traffic: it runs through
its pipeline as FRAME_INGRESS and FRAME_TAIL_ARRIVAL do, and Sys2Proof/Machine/PtpBase.lean corrects it as it leaves.
-/
namespace Sys2Proof.Machine

/-- The bytes of a message in a frame, without what pads the frame. -/
def ptpBytes (m : PtpHead) (b : Bytes) : Bytes := slice b m.off (beAt b (m.off + 2) 2)

/-! ### Sync and Follow_Up (R101, R102, R104) -/

/-- The ports that are master of domain i. -/
def Dev.masterPorts (d : Dev) (i : Nat) : List Nat := (List.range 96).filter fun p => d.ptpRole p i == 2

/-- Whether the slave port p of domain i relays (R102). -/
def Dev.relays (d : Dev) (p i : Nat) : Bool := d.ptpRole p i == 3 && d.get (E.MasterMode i) == 1

/-- The next sequenceId of a Sync on port p. -/
def Dev.syncNext (p : Nat) (d : Dev) : Nat × Dev := ((d.ptp p).syncSeq, d.modPtp p fun q => { q with syncSeq := (q.syncSeq + 1) % 65536 })

/-- A Sync received at x on port p with correction `corr` goes to every master port in one step; `m` holds the origin and what follows it. -/
def Dev.relayOne (p i x : Nat) (corr : Int) (m : Bytes) (d : Dev) : Dev :=
  let csro := d.rateOn p (csroOf m)
  let body := slice m 34 10 ++ suffixWith m csro
  d.each (d.masterPorts i) fun q d =>
    let (seq, d) := d.syncNext q
    d.ptpSend q (d.ptpVia i) i 0 (d.ptpOwnHead 0 i q seq false 0 (34 + body.length) ++ body) (some (.relay i x (corr + d.linkDelay p) csro))

/-- A Sync goes to every master port in two steps; `fu` is what its Follow_Up takes over, where it is known. -/
def Dev.relayStart (p i x : Nat) (s : PtpHead) (corr : Int) (fu : Option Bytes) (d : Dev) : Dev :=
  d.each (d.masterPorts i) fun q d =>
    let (seq, d) := d.syncNext q
    let old (e : Relay) : Bool := e.egress == q && e.domain == i
    let r : Relay := { egress := q, domain := i, clockId := s.clockId, portNum := s.portNum, seq := s.seq, mySeq := seq, x, corr := corr + d.linkDelay p,
                       fu }
    let d := { d with time := { d.time with relays := (d.time.relays.filter fun e => !old e) ++ [r] } }
    d.ptpSend q (d.ptpVia i) i 0 (d.ptpOwnHead 0 i q seq true 0 44 ++ List.replicate 10 0) (some (.relayTwo i seq))

/-- A Sync with all that is known of it is a time event (R104). -/
def Dev.syncEvent (p i seq x : Nat) (origin corr : Int) (d : Dev) : Dev :=
  d.timeEvent 1 i p seq (toTimex origin) (toTimex (d.domainTime i x)) corr x

/-- A Sync at a slave or passive port. -/
def Dev.syncIn (p i : Nat) (m : PtpHead) (b : Bytes) (d : Dev) : Dev :=
  let x := d.ingressX p d.now
  let corr := m.corr + d.asymmetry p
  let msg := ptpBytes m b
  if m.twoStep then
    let w : SyncWait := { port := p, domain := i, clockId := m.clockId, portNum := m.portNum, seq := m.seq, x, corr }
    let d := { d with time := { d.time with syncs := (d.time.syncs.filter fun (e : SyncWait) => !(e.port == p && e.domain == i)) ++ [w] } }
    d.cond (d.relays p i && !d.getB (E.OneStep i)) (Dev.relayStart p i x m corr none)
  else
    let d := d.syncEvent p i m.seq x (ptpTime b m.off) corr
    d.cond (d.relays p i) fun d =>
      if d.getB (E.OneStep i) then d.relayOne p i x corr msg else d.relayStart p i x m corr (some (patch msg 8 (toBE 8 0)))

/-- A Follow_Up at a slave or passive port: the event of the Sync it follows, and its relay. -/
def Dev.followUpIn (p i : Nat) (m : PtpHead) (b : Bytes) (d : Dev) : Dev :=
  match d.time.syncs.find? fun e => e.port == p && e.domain == i && e.clockId == m.clockId && e.portNum == m.portNum && e.seq == m.seq with
  | none => d
  | some s =>
    let msg := ptpBytes m b
    let d := { d with time := { d.time with syncs := d.time.syncs.filter (· != s) } }
    let d := d.syncEvent p i m.seq s.x (ptpTime b m.off) (s.corr + m.corr)
    if !d.relays p i then d
    else if d.getB (E.OneStep i) then d.relayOne p i s.x (s.corr + m.corr) msg
    else d.relayUpdate (fun r => r.domain == i && r.clockId == m.clockId && r.portNum == m.portNum && r.seq == m.seq && r.fu.isNone)
      fun r => { r with fu := some msg }

/-- FOLLOW_UP_MISSING: pending Sync messages of egress port p that found no Follow_Up within four sync intervals (R101). -/
def Dev.followUpMissing (p : Nat) (d : Dev) : Dev :=
  let late (e : TwoStep) : Bool := e.egress == p && decide (e.tick + 4 * d.get (E.SyncIntervalTicks e.domain) ≤ d.net.bounds)
  let gone := d.time.twoStep.filter late
  let d := { d with time := { d.time with twoStep := d.time.twoStep.filter fun e => !late e } }
  d.each gone fun e d => d.inc (E.FollowUpMissing e.domain)

/-! ### Delay requests (R100, R104) -/

/-- A master port answers a Delay_Req; what its capture has below a nanosecond is taken off correctionField. -/
def Dev.delayReqIn (p i : Nat) (m : PtpHead) (d : Dev) : Dev :=
  let t := d.domainTime i (d.ingressX p d.now)
  let ns := (t / 65536).toNat
  let body := toBE 6 (ns / 1000000000) ++ toBE 4 (ns % 1000000000) ++ toBE 8 m.clockId ++ toBE 2 m.portNum
  d.ptpSend p m.via i 9 (d.ptpOwnHead 9 i p m.seq false (m.corr - t % 65536) 54 ++ body) none

/-- Whether a response is to this port: its requestingPortIdentity. -/
def Dev.ptpToMe (d : Dev) (p : Nat) (m : PtpHead) (b : Bytes) : Bool :=
  beAt b (m.off + 44) 8 == d.get E.UniqueId && beAt b (m.off + 52) 2 == p + 1

/-- A slave port records the Delay_Resp to its Delay_Req. -/
def Dev.delayRespIn (p i : Nat) (m : PtpHead) (b : Bytes) (d : Dev) : Dev :=
  match (d.ptp p).dreq.get? i with
  | some (seq, some x) =>
    if seq = m.seq ∧ d.ptpToMe p m b then
      (d.modPtp p fun q => { q with dreq := q.dreq.erase i }).timeEvent 2 i p seq (toTimex (ptpTime b m.off)) (toTimex (d.domainTime i x)) m.corr x
    else d
  | _ => d

/-! ### Peer delay (R103) -/

/-- The device answers a Pdelay_Req, in one step or two by domain A's OneStep. -/
def Dev.pdelayReqIn (p : Nat) (m : PtpHead) (d : Dev) : Dev :=
  let x := d.ingressX p d.now
  let two := !d.getB (E.OneStep 0)
  let ns := x / 8
  let body := toBE 6 (ns / 1000000000) ++ toBE 4 (ns % 1000000000) ++ toBE 8 m.clockId ++ toBE 2 m.portNum
  d.ptpSend p m.via 0 3 (d.ptpOwnHead 3 0 p m.seq two (if two then - (rawTime x % 65536) else 0) 54 ++ body) (some (.pdelayResp x m.corr))

/-- An exchange is complete: its link delay, and with eight of them the port's results (R103, R104). -/
def Dev.pdelayDone (p seq : Nat) (t1 t2 t3 t4 : Int) (d : Dev) : Dev :=
  let old := (d.ptp p).pdDone
  let (num, den) : Int × Int := match old.getLast? with
    | some e => if t4 = e.t4 then (1, 1) else (t3 - e.t3, t4 - e.t4)
    | none => (1, 1)
  let ld := ((t4 - t1) * num / den - (t3 - t2)) / 2
  let l := ({ t3, t4, ld } :: old).take 8
  let d := d.modPtp p fun q => { q with pdDone := l, pdReq := none, pdLost := 0 }
  if l.length < 8 then d
  else
    let mean := (l.map (·.ld)).sum / 8
    let nrr := (num - den) * 281474976710656 / den
    let d := ((d.put (E.MeanLinkDelay p) (enc 64 mean)).put (E.NeighborRateRatio p) (enc 64 nrr)).putB (E.LinkDelayValid p) true
    d.timeEvent 3 0 p seq (enc 64 nrr * 2 ^ 32) 0 mean 0

/-- A Pdelay_Resp (3) or Pdelay_Resp_Follow_Up (0xA) to the exchange in progress. -/
def Dev.pdelayRespIn (p : Nat) (m : PtpHead) (b : Bytes) (d : Dev) : Dev :=
  match (d.ptp p).pdReq with
  | some { seq, t1 := some x1, resp } =>
    let t := ptpTime b m.off
    if seq ≠ m.seq ∨ !d.ptpToMe p m b then d
    else if m.kind = 3 then
      let t4 := rawTime (d.ingressX p d.now)
      if m.twoStep then d.modPtp p fun q => { q with pdReq := some { seq, t1 := some x1, resp := some (t - m.corr, t4) } }
      else d.pdelayDone p seq (rawTime x1) t (t + m.corr) t4
    else match resp with
      | some (t2, t4) => d.pdelayDone p seq (rawTime x1) t2 (t + m.corr) t4
      | none => d
  | _ => d

/-- An exchange without a response is lost; the third in a row ends the port's results (R103). -/
def Dev.pdelayLose (p : Nat) (d : Dev) : Dev :=
  if (d.ptp p).pdReq.isNone then d
  else
    let d := (d.modPtp p fun q => { q with pdReq := none, pdLost := q.pdLost + 1 }).inc (E.PdelayLost p)
    if (d.ptp p).pdLost = 3 then
      let d := d.modPtp p fun q => { q with pdDone := [] }
      (((d.putB (E.LinkDelayValid p) false).put (E.MeanLinkDelay p) 0).put (E.NeighborRateRatio p) 0).report Src.pdelayLost p
    else d

/-- Whether the next Pdelay_Req of port p is due. -/
def Dev.pdelayDue (d : Dev) (p : Nat) : Bool :=
  d.get (E.PdelayIntervalTicks p) != 0 && decide ((d.ptp p).nextPdreq ≤ d.net.bounds)

/-- PDELAY_LOST. -/
def Dev.pdelayLost (p : Nat) (d : Dev) : Dev := d.cond (d.pdelayDue p) (Dev.pdelayLose p)

/-- PDELAY_REQ_SEND. -/
def Dev.pdelayReqSend (p : Nat) (d : Dev) : Dev :=
  if !d.pdelayDue p || !d.portUp p then d
  else
    let d := d.pdelayLose p
    let seq := (d.ptp p).pdSeq
    let d := d.modPtp p fun q => { q with
      pdSeq := (seq + 1) % 65536, pdReq := some { seq }, nextPdreq := d.net.bounds + d.get (E.PdelayIntervalTicks p) }
    d.ptpSend p (d.ptpVia 0) 0 2 (d.ptpOwnHead 2 0 p seq false 0 54 ++ List.replicate 20 0) (some .pdelayReq)

/-! ### What the device originates (R100, R102) -/

/-- SYNC_ORIGINATE: a boundary master port. -/
def Dev.syncOriginate (i p : Nat) (d : Dev) : Dev :=
  if d.ptpRole p i ≠ 2 ∨ d.get (E.MasterMode i) ≠ 0 ∨ !d.portUp p ∨ d.net.bounds < (d.ptp p).nextSync.getD i 0 then d
  else
    let (seq, d) := d.syncNext p
    let d := d.modPtp p fun q => { q with nextSync := q.nextSync.set i (d.net.bounds + d.get (E.SyncIntervalTicks i)) }
    d.ptpSend p (d.ptpVia i) i 0 (d.ptpOwnHead 0 i p seq (!d.getB (E.OneStep i)) 0 44 ++ List.replicate 10 0) (some (.sync i))

/-- DELAY_REQ_SEND: a slave port of a domain whose DelayMechanism is E2E. -/
def Dev.delayReqSend (i p : Nat) (d : Dev) : Dev :=
  let n := d.get (E.DelayReqIntervalTicks i)
  if d.ptpRole p i ≠ 3 ∨ d.get (E.DelayMechanism i) ≠ 1 ∨ n = 0 ∨ !d.portUp p ∨ d.net.bounds < (d.ptp p).nextDreq.getD i 0 then d
  else
    let seq := (d.ptp p).dreqSeq
    let d := d.modPtp p fun q => { q with
      dreqSeq := (seq + 1) % 65536, dreq := q.dreq.set i (seq, none), nextDreq := q.nextDreq.set i (d.net.bounds + n) }
    d.ptpSend p (d.ptpVia i) i 1 (d.ptpOwnHead 1 i p seq false 0 44 ++ List.replicate 10 0) (some (.delayReq i))

/-! ### Receiving -/

/-- Announce, Signaling and Management of a domain (R100): to firmware on port 97, or counted where none runs. -/
def Dev.ptpGeneral (p : Nat) (b : Bytes) (d : Dev) : Dev :=
  if d.get E.FirmwareState ≠ 2 then { d with time := { d.time with generals := d.time.generals + 1 } }
  else
    let (id, d) := d.arrive p (plOf p) (d.ingressX p d.now) b false
    let d := d.modFrame id fun f => { f with tail := 1 }
    match d.frame? id with
    | some f => d.reachAdmission (puntCopy id f.ctx false 0 0 0)
    | none => d

/-- A message of domain i that the port's role there takes (R100). -/
def Dev.ptpHandleIn (p : Nat) (m : PtpHead) (b : Bytes) (i : Nat) (d : Dev) : Dev :=
  let role := d.ptpRole p i
  match m.kind with
  | 0 => d.cond (role == 3 || role == 4) (Dev.syncIn p i m b)
  | 8 => d.cond (role == 3 || role == 4) (Dev.followUpIn p i m b)
  | 1 => d.cond (role == 2) (Dev.delayReqIn p i m)
  | 9 => d.cond (role == 3) (Dev.delayRespIn p i m b)
  | _ => d

/-- A message that port p takes: in each of its domains, peer delay once (R103), a general message once. -/
def Dev.ptpHandle (p : Nat) (m : PtpHead) (b : Bytes) (d : Dev) : Dev :=
  let l := d.ptpDomains m
  match m.kind with
  | 0 | 1 | 8 | 9 => d.each l (Dev.ptpHandleIn p m b)
  | 2 => d.cond (l.contains 0) (Dev.pdelayReqIn p m)
  | 3 | 10 => d.cond (l.contains 0) (Dev.pdelayRespIn p m b)
  | _ => d.ptpGeneral p b

/-- A time message of one of the given types arrives whole and good on port p: a role takes it, or it is ordinary traffic. The device answers every
Pdelay_Req of domain A, also one that it forwards (R103; log 119). -/
def Dev.ptpReceive (kinds : List Nat) (p : Nat) (b : Bytes) (d : Dev) : Dev :=
  match d.ptpHead b with
  | none => d
  | some m =>
    if !kinds.contains m.kind || !d.portUp p then d
    else if d.ptpTakes p m then d.ptpHandle p m b
    else ((d.ingress p 0 b false false).tailArrival p false true false {}).cond (m.kind == 2 && (d.ptpDomains m).contains 0) (Dev.pdelayReqIn p m)

/-! ### The commands -/

/-- PTP_SYNC_RECEIVE (R102). -/
def execPtpSyncReceive (x p : Nat) (frame : Bytes) (s : State) : Host.Outcome State Fault Refusal := s.live x (Dev.ptpReceive [0] p frame)
/-- PTP_FOLLOW_UP_RECEIVE (R101). -/
def execPtpFollowUpReceive (x p : Nat) (frame : Bytes) (s : State) : Host.Outcome State Fault Refusal := s.live x (Dev.ptpReceive [8] p frame)
/-- FOLLOW_UP_MISSING (R101). -/
def execFollowUpMissing (x p : Nat) (s : State) : Host.Outcome State Fault Refusal := s.live x (Dev.followUpMissing p)
/-- PTP_DELAY_REQ_RECEIVE (R100). -/
def execPtpDelayReqReceive (x p : Nat) (frame : Bytes) (s : State) : Host.Outcome State Fault Refusal := s.live x (Dev.ptpReceive [1] p frame)
/-- PTP_DELAY_RESP_RECEIVE (R104). -/
def execPtpDelayRespReceive (x p : Nat) (frame : Bytes) (s : State) : Host.Outcome State Fault Refusal := s.live x (Dev.ptpReceive [9] p frame)
/-- PTP_PDELAY_REQ_RECEIVE (R103). -/
def execPtpPdelayReqReceive (x p : Nat) (frame : Bytes) (s : State) : Host.Outcome State Fault Refusal := s.live x (Dev.ptpReceive [2] p frame)
/-- PTP_PDELAY_RESP_RECEIVE (R103): Pdelay_Resp or Pdelay_Resp_Follow_Up. -/
def execPtpPdelayRespReceive (x p : Nat) (frame : Bytes) (s : State) : Host.Outcome State Fault Refusal :=
  s.live x (Dev.ptpReceive [3, 10] p frame)
/-- PDELAY_LOST (R103). -/
def execPdelayLost (x p : Nat) (s : State) : Host.Outcome State Fault Refusal := s.live x (Dev.pdelayLost p)
/-- PTP_GENERAL_MESSAGE (R100): Announce, Signaling or Management. -/
def execPtpGeneralMessage (x p : Nat) (frame : Bytes) (s : State) : Host.Outcome State Fault Refusal :=
  s.live x (Dev.ptpReceive [11, 12, 13] p frame)
/-- SYNC_ORIGINATE (R102). -/
def execSyncOriginate (x i p : Nat) (s : State) : Host.Outcome State Fault Refusal := s.live x (Dev.syncOriginate i p)
/-- DELAY_REQ_SEND (R100). -/
def execDelayReqSend (x i p : Nat) (s : State) : Host.Outcome State Fault Refusal := s.live x (Dev.delayReqSend i p)
/-- PDELAY_REQ_SEND (R103). -/
def execPdelayReqSend (x p : Nat) (s : State) : Host.Outcome State Fault Refusal := s.live x (Dev.pdelayReqSend p)

end Sys2Proof.Machine
end

