-- ==== Sys2Proof/Machine/Tap.lean ====
section
/-!
DEFINITION. The test access port (R585): the controller of IEEE 1149.1, its instruction register and the registers it selects.
-/
namespace Sys2Proof.Machine

/-- The next controller state at a rising edge of TCK. -/
def TapState.next (tms : Bool) : TapState → TapState
  | .testLogicReset => if tms then .testLogicReset else .runTestIdle
  | .runTestIdle => if tms then .selectDr else .runTestIdle
  | .selectDr => if tms then .selectIr else .captureDr
  | .captureDr => if tms then .exit1Dr else .shiftDr
  | .shiftDr => if tms then .exit1Dr else .shiftDr
  | .exit1Dr => if tms then .updateDr else .pauseDr
  | .pauseDr => if tms then .exit2Dr else .pauseDr
  | .exit2Dr => if tms then .updateDr else .shiftDr
  | .updateDr => if tms then .selectDr else .runTestIdle
  | .selectIr => if tms then .testLogicReset else .captureIr
  | .captureIr => if tms then .exit1Ir else .shiftIr
  | .shiftIr => if tms then .exit1Ir else .shiftIr
  | .exit1Ir => if tms then .updateIr else .pauseIr
  | .pauseIr => if tms then .exit2Ir else .pauseIr
  | .exit2Ir => if tms then .updateIr else .shiftIr
  | .updateIr => if tms then .selectDr else .runTestIdle

/-- The IDCODE register: its top four bits are the major silicon step of SiliconStep (R69). -/
def tapIdcode : Nat := Config.siliconStep.toNat / 256 % 16 * 2 ^ 28 + 0x7208 * 2 ^ 12 + 0x1B5 * 2 + 1

/-- Whether an instruction selects the boundary register: SAMPLE/PRELOAD, EXTEST, EXTEST_PULSE, EXTEST_TRAIN. -/
def tapBoundary (ir : Nat) : Bool := ir == 2 || ir == 3 || ir == 4 || ir == 5

/-- The length of the data register that an instruction selects; HIGHZ, CLAMP and every opcode not listed select the bypass bit. -/
def tapLength (ir : Nat) : Nat := if ir = 1 then 32 else if tapBoundary ir then 337 else 1

/-- A shift of a register of n bits by one towards TDO, tdi entering at its far end. -/
def tapShift (n v : Nat) (tdi : Bool) : Nat := v / 2 + tdi.toNat * 2 ^ (n - 1)

/-- A rising edge of TCK: what the present state does with TDI and the balls, then the next state. -/
def Tap.rise (tms tdi : Bool) (pins : Nat) (t : Tap) : Tap :=
  let t' := match t.fsm with
    | .captureIr => { t with irSh := 0x01 }
    | .shiftIr => { t with irSh := tapShift 8 t.irSh tdi }
    | .captureDr => { t with drSh := if t.ir = 1 then tapIdcode else if tapBoundary t.ir then pins else 0 }
    | .shiftDr => { t with drSh := tapShift (tapLength t.ir) t.drSh tdi }
    | _ => t
  { t' with fsm := t.fsm.next tms }

/-- A falling edge of TCK: TDO takes the next bit while shifting; the update states take effect, and Test-Logic-Reset selects IDCODE. -/
def Tap.fall (t : Tap) : Tap :=
  match t.fsm with
  | .testLogicReset => { t with ir := 0x01, tdo := true }
  | .shiftIr => { t with tdo := bit t.irSh 0 }
  | .shiftDr => { t with tdo := bit t.drSh 0 }
  | .updateIr => { t with ir := t.irSh, tdo := true }
  | .updateDr => { t with bound := if tapBoundary t.ir then t.drSh else t.bound, tdo := true }
  | _ => { t with tdo := true }

/-- One edge of TCK; TRST_N low keeps the TAP in reset. -/
def Tap.edge (rising tms tdi trstN : Bool) (pins : Nat) (t : Tap) : Tap :=
  if !trstN then { t with fsm := .testLogicReset, ir := 0x01, tdo := true } else if rising then t.rise tms tdi pins else t.fall

/-- TAP_CLOCK (R585): the TAP has a clock of its own, so no device time passes. -/
def execTapClock (rising tms tdi trstN : Bool) (pins : BitVec 337) (s : State) : Host.Outcome State Fault Refusal :=
  .next { s with dev := s.dev.setTap (s.dev.tap.edge rising tms tdi trstN pins.toNat) }

end Sys2Proof.Machine
end

