-- ==== Sys2Proof/Machine/Telemetry.lean ====
section
/-!
DEFINITION. Sweeps, bandwidth windows (chapter 17) and the tick interrupt (R454): what follows a boundary from its snapshot.
-/
namespace Sys2Proof.Machine

/-- Change telemetry. -/
def Dev.modTele (g : Tele → Tele) (d : Dev) : Dev := { d with tele := g d.tele }

/-! ### The snapshot (R19, R508) -/

/-- The snapshot of the boundary now: it describes the tick that ends. `n` is the number of the tick that begins. -/
def Dev.snapshot (n : Nat) (d : Dev) : Dev :=
  d.modTele fun t => { t with snap := some { dict := d.dict, tick := n, time := d.stamp, raw := rawOf d.now, acq := d.acqNow } }

/-- Whether set s is due at the boundary of tick n (R507). -/
def sweepDueAt (r n : Nat) : Bool :=
  let p := max 1 (Row.SweepSets.periodTicks r)
  Row.SweepSets.valid r == 1 && decide (Row.SweepSets.phaseTicks r ≤ n) && (n - Row.SweepSets.phaseTicks r) % p == 0

/-! ### The record (R511) -/

/-- The sections that a SweepSelect row makes, from the dictionary of the snapshot. -/
def Dev.sections (d : Dev) (r : Nat) : List (List Nat) :=
  let first := Row.SweepSelect.first r
  let count := Row.SweepSelect.count r
  (selectIndices r).map fun idx =>
    let table := catalogTables.contains idx
    let body := (List.range count).flatMap fun i =>
      if table then (rowFields idx).map fun f => d.row idx (first + i) / 2 ^ f.1 % 2 ^ f.2 else [d.get (idx * 256 + first + i)]
    [idx * 2 ^ 48 + table.toNat * 2 ^ 47 + body.length, first * 2 ^ 32 + count] ++ body

/-- The words of a record but its trailer. `d` holds the snapshot's dictionary. -/
def Dev.recordBody (d : Dev) (s seq skipped : Nat) (acq : Bool) (k : Snap) : List Nat :=
  let secs := (d.sweepRows s).flatMap d.sections
  let len := 7 + (secs.map List.length).sum
  [0x1 * 2 ^ 60 + s * 2 ^ 57 + acq.toNat * 2 ^ 56 + seq * 2 ^ 32 + len, k.tick % 2 ^ 64, k.time / 2 ^ 32,
    k.time % 2 ^ 32 * 2 ^ 32 + skipped, d.get E.EpochNumber * 2 ^ 32 + secs.length % 2 ^ 16 * 2 ^ 16, k.raw % 2 ^ 64] ++ secs.flatten

/-- Words as bytes in memory order: little-endian (R511). -/
def wordBytes (l : List Nat) : Bytes := l.flatMap (toLE 8)

/-- The words with their trailer: CRC-32C over the bytes before it (R168). -/
def withTrailer (l : List Nat) : List Nat := l ++ [crc32c 0xFFFFFFFF (wordBytes l)]

/-! ### A sweep (R508 to R513) -/

/-- Whether a record of n words fits set s's ring behind the records still being dumped (R512). -/
def Dev.sweepFits (d : Dev) (s n : Nat) : Bool :=
  let r := d.row T.SweepSets s
  let size := max 1 (Row.SweepSets.size4k r * 4096)
  let mine := ((d.tele.dumps.filter fun (q : Dump) => q.set == s).map fun q => 8 * q.words.length).sum
  Row.SweepSets.overwrite r == 1 || decide (8 * n ≤ (d.get (E.SweepTail s) + 2 * size - (d.get (E.SweepHead s) + mine) % size - 8) % size)

/-- Whether set s's target can be written (R513). -/
def Dev.sweepTarget (d : Dev) (s : Nat) : Bool :=
  if Row.SweepSets.target (d.row T.SweepSets s) = 0 then d.hbmUp else d.host.linked && !d.host.d3

/-- Set s, due at the snapshot, is latched into bank b or skipped. -/
def Dev.sweepLatch (b : Nat) (k : Snap) (s : Nat) (d : Dev) : Dev :=
  let sd := { d with dict := k.dict }
  if !d.sweepTarget s then d.sweepSkip s true
  else if !d.sweepFits s (sd.recordWords s) then d.sweepSkip s false
  else
    let (n, d) := d.nextSeq (srcKey T.SweepSets s)
    let words := withTrailer (sd.recordBody s n (d.tele.skips.getD s 0) (k.acq || d.acqNow) k)
    let d := d.modTele fun t => { t with
      dumps := t.dumps ++ [{ set := s, bank := b, words }], skips := t.skips.erase s, skipping := t.skipping.filter (· != s) }
    d.put (E.SweepState s) 1

/-- The sweep of the last boundary (R507 to R509): every valid set due there by the rows as they stood before it. Both banks held: all are skipped. -/
def Dev.sweepDue (d : Dev) : Dev :=
  match d.tele.snap with
  | none => d
  | some k =>
    if d.tele.swept = d.net.bounds then d
    else
      let d := d.modTele fun t => { t with swept := d.net.bounds }
      let due := (List.range 8).filter fun s =>
        sweepDueAt (({ d with dict := k.dict }).row T.SweepSets s) k.tick && d.sweepValid s && d.get (E.SweepState s) != 2
      match ([0, 1].filter fun b => !(d.tele.dumps.any fun (q : Dump) => q.bank == b)).head? with
      | some b => d.each due (Dev.sweepLatch b k)
      | none => d.each due fun s d => d.sweepSkip s true

/-- Write a record into its ring, wrapping past the end word by word (R512). -/
def Dev.sweepStore (s : Nat) (words : List Nat) (d : Dev) : Dev :=
  let r := d.row T.SweepSets s
  let size := max 1 (Row.SweepSets.size4k r * 4096)
  let base := Row.SweepSets.base4k r * 4096
  let b := wordBytes words
  let h := d.get (E.SweepHead s) % size
  let put (a : Nat) (b : Bytes) (d : Dev) : Dev :=
    if b = [] then d else if Row.SweepSets.target r = 0 then d.hbmStore a b else d.emit (.host d.now a b)
  (put (base + h) (b.take (size - h)) d).cond (decide (size - h < b.length)) (put base (b.drop (size - h)))

/-- A dump of set s ends (R512, R513): SweepHead and SweepRecords advance after the last word. A host write that was not completed stops the set
with class U; an HBM lost meanwhile makes it a skip. -/
def Dev.dumpDone (s : Nat) (ok : Bool) (d : Dev) : Dev :=
  match d.tele.dumps.find? fun (q : Dump) => q.set == s with
  | none => d
  | some q =>
    let r := d.row T.SweepSets s
    let host := Row.SweepSets.target r == 1
    let size := max 1 (Row.SweepSets.size4k r * 4096)
    let d := d.modTele fun t => { t with dumps := t.dumps.eraseP fun (q : Dump) => q.set == s }
    let idle (d : Dev) : Dev := d.put (E.SweepState s) (if d.tele.dumps.any fun (q : Dump) => q.set == s then 1 else 0)
    if host && !ok then (d.put (E.SweepState s) 2).reportBy Src.sweepTargetError s 0x3A 0
    else if !d.sweepTarget s then idle (d.sweepSkip s true)
    else
      let d := d.sweepStore s q.words
      let d := d.put (E.SweepHead s) ((d.get (E.SweepHead s) + 8 * q.words.length) % size)
      idle (d.inc (E.SweepRecords s))

/-! ### Bandwidth windows (R520, R521) -/

/-- Good octets and frames of port p as the snapshot holds them: received, sent. -/
def Dev.bwCounts (d : Dev) (p : Nat) : Nat × Nat × Nat × Nat :=
  (d.get (E.RxOctets p), d.get (E.TxOctets p), d.get (E.RxFrames p), d.get (E.TxFrames p))

/-- Kilobits per second of o octets in t units of 2^-16 ns, rounded down. -/
def bwKbps (o t : Nat) : Nat := o * 8 * 1000000 * 65536 / t

/-- Load in ppm of a rate in Mb/s: o octets and f frames with 20 bytes each on the wire. -/
def bwLoad (o f t mbps : Nat) : Nat := (o + 20 * f) * 8 * 1000000 * 65536 * 1000 / (mbps * t)

/-- The PortBandwidth row of a window of t units in which the counts of port p went from a to b. -/
def bwRow (up : Bool) (mbps t : Nat) (valid : Bool) (a b : Nat × Nat × Nat × Nat) : Nat :=
  let diff (x y : Nat) : Nat := (y + 2 ^ 64 - x) % 2 ^ 64
  let (ro, so, rf, tf) := (diff a.1 b.1, diff a.2.1 b.2.1, diff a.2.2.1 b.2.2.1, diff a.2.2.2 b.2.2.2)
  let load (o f : Nat) : Nat := if up then min (bwLoad o f t mbps) (2 ^ 20 - 1) else 0
  min (bwKbps ro t) (2 ^ 32 - 1) * 2 ^ 96 + min (bwKbps so t) (2 ^ 32 - 1) * 2 ^ 64 + load ro rf * 2 ^ 44 + load so tf * 2 ^ 24 + valid.toNat * 2 ^ 23

/-- The end of a bandwidth window at the last boundary (R520). -/
def Dev.bandwidthEnd (d : Dev) : Dev :=
  match d.tele.snap with
  | none => d
  | some k =>
    if d.tele.bwDone = d.net.bounds || k.tick % max 1 (d.get E.BwWindowTicks) != 0 then d
    else
      let sd := { d with dict := k.dict }
      let now := fromTimex k.time
      let t := now - d.tele.bwTime.getD now
      let ports := List.range 96
      let d := match d.tele.bwTime with
        | none => d
        | some t0 =>
          if (now : Int) ≤ t0 then d.each ports fun p d => d.setRowFld T.PortBandwidth p 23 23 0
          else d.each ports fun p d =>
            d.setRow T.PortBandwidth p
              (bwRow (sd.portUp p) (sd.portRate p) t.toNat (!d.tele.bwAcq) (d.tele.bwBase.getD p (0, 0, 0, 0)) (sd.bwCounts p))
      d.modTele fun t => { t with
        bwDone := d.net.bounds, bwTime := some now, bwAcq := false
        bwBase := ports.map fun p => (p, sd.bwCounts p) }

/-! ### The tick interrupt (R454) -/

/-- The interrupt of vector 37 at a tick whose number is a multiple of TickIrqDivider. -/
def Dev.tickIrq (d : Dev) : Dev :=
  let v := d.get E.TickIrqDivider
  if v ≠ 0 ∧ d.time.tickRun ∧ d.time.tick % v = 0 ∧ d.tele.irqDone ≠ d.net.bounds then
    (d.modTele fun t => { t with irqDone := d.net.bounds }).irqCause 37
  else d

/-! ### The commands -/

/-- SWEEP_DUE (R507 to R509). -/
def execSweepDue (x : Nat) (s : State) : Host.Outcome State Fault Refusal := s.live x Dev.sweepDue
/-- SWEEP_DUMP_DONE (R512, R513). -/
def execSweepDumpDone (x set : Nat) (ok : Bool) (s : State) : Host.Outcome State Fault Refusal := s.live x (Dev.dumpDone set ok)
/-- BANDWIDTH_WINDOW_END (R520). -/
def execBandwidthWindowEnd (x : Nat) (s : State) : Host.Outcome State Fault Refusal := s.live x Dev.bandwidthEnd
/-- TICK_IRQ (R454). -/
def execTickIrq (x : Nat) (s : State) : Host.Outcome State Fault Refusal := s.live x Dev.tickIrq

end Sys2Proof.Machine
end

