-- ==== Sys2Proof/Machine/TetherFrames.lean ====
section
/-!
DEFINITION. Tether frames as a member receives them (R396 to R405): their form, their order, and what each record does.
-/
namespace Sys2Proof.Machine

/-! ### The form of a PDU (R397, R398) -/

/-- The records that fill a string of bytes exactly, as (TYPE, body); none where a head is not as R397 says. Fuel is the number of bytes. -/
def tetherRecs : Nat → Bytes → Option (List (Nat × Bytes))
  | 0, b => if b.isEmpty then some [] else none
  | fuel + 1, b =>
    if b.isEmpty then some []
    else
      let len := beAt b 2 2
      if len < 4 ∨ len % 4 ≠ 0 ∨ b.length < len ∨ beAt b 1 1 ≠ 0 then none
      else (tetherRecs fuel (b.drop len)).map fun l => (beAt b 0 1, slice b 4 (len - 4)) :: l

/-- Whether the bytes of a SETPOINT's words that are reserved are zero. -/
def setpointWordsOk (b : Bytes) : Bool := (List.range 64).all fun w => beAt b (12 + 12 * w + 10) 2 == 0

/-- Whether the body of a record of a known TYPE has its length, its values and no reserved bit set (R398). -/
def recordOk (e : Nat × Bytes) : Bool :=
  let b := e.2
  match e.1 with
  | 1 => b.length == 28 && !bit (beAt b 0 1) 0 && beAt b 1 1 == 0 && !bit (beAt b 24 1) 0 && beAt b 25 3 == 0
  | 2 => b.length == 16 && decide (beAt b 0 1 < 8) && (beAt b 1 1 == 1 || beAt b 1 1 == 2) && beAt b 12 4 == 0
  | 3 => b.length == 24 && decide (beAt b 0 2 < 16384) && beAt b 2 1 % 128 == 0 && beAt b 3 1 == 0 && beAt b 6 2 == 0
  | 4 => decide (12 ≤ b.length) && beAt b 1 1 % 128 == 0 && beAt b 2 2 == 0
  | 5 => b.length == 780 && decide (beAt b 0 1 < 8) && beAt b 1 3 == 0 && setpointWordsOk b
  | 6 => b.length == 48 && beAt b 2 2 == 0 && beAt b 26 2 == 0
  | _ => true

/-- The records of a PDU, or none where it is a bad frame; bytes that pad the Ethernet frame follow PDU_LEN. -/
def tetherParse (pdu : Bytes) : Option (List (Nat × Bytes)) :=
  let n := beAt pdu 2 2
  let role := fld (beAt pdu 0 1) 3 2
  if fld (beAt pdu 0 1) 7 4 ≠ 1 ∨ beAt pdu 0 1 % 4 ≠ 0 ∨ (role ≠ 1 ∧ role ≠ 2) ∨ n < 20 ∨ 9000 < n ∨ pdu.length < n then none
  else match tetherRecs n (slice pdu 16 (n - 16)) with
    | some l => if l.length = beAt pdu 1 1 ∧ l.all recordOk then some l else none
    | none => none

/-! ### What the records do -/

/-- A HEARTBEAT has come on a path with a role (R401, R402): the mate's role keeps the path alive, the member's own is a conflict. -/
def Dev.heartbeatSeen (path role : Nat) (d : Dev) : Dev :=
  if !d.paths.contains path then d
  else if role = d.get E.PairRole then d.roleConflict
  else if role + d.get E.PairRole = 3 then (d.modPair fun p => { p with badRole := false }).pathAlive path
  else d

/-- The content of a HEARTBEAT of the mate's role (R398, R424). -/
def Dev.heartbeatApply (role : Nat) (b : Bytes) (d : Dev) : Dev :=
  if role + d.get E.PairRole ≠ 3 then d
  else ((d.put E.MateOwnState (beAt b 0 1)).put E.MateNodeId (beAt b 2 2)).put E.MateUniqueId (beAt b 4 8)

/-- An L2 record (R403): a learned entry in the same pipeline; a static row of the key is left. -/
def Dev.tetherL2 (b : Bytes) (d : Dev) : Dev :=
  let pl := beAt b 0 1
  let fid := beAt b 2 2 % 2 ^ 12
  let mac := beAt b 4 6
  let dest := beAt b 10 2
  let install (i : Nat) (d : Dev) : Dev := d.l2Put pl i (l2Row false false false fid mac dest)
  match d.l2Search pl fid mac with
  | (some i, _) => if Row.L2Rows.static (d.row (T.L2Rows pl) i) = 1 then d.inc (E.StaticConflicts pl) else install i d
  | (none, _) =>
    match (l2Cands fid mac).find? fun i => Row.L2Rows.valid (d.row (T.L2Rows pl) i) == 0 && !d.isBad (T.L2Rows pl) i with
    | some i => install i d
    | none => d.inc (E.LearnDrops pl)

/-- A RECOVERY record is held in the shadow (R403). -/
def Dev.tetherRecovery (b : Bytes) (d : Dev) : Dev :=
  let st : RecSt := { takeAny := bit (beAt b 2 1) 7, seq := beAt b 4 2, history := beAt b 8 16 }
  d.modPair fun p => { p with shadow := p.shadow.set (beAt b 0 2) st }

/-- The operation records of a DICT body, with the padding to a multiple of four behind them (R398). -/
def dictOps (b : Bytes) : Option (List Op) :=
  let pad (n : Nat) : Option (List Op) :=
    if beAt b (b.length - n) n = 0 ∧ n < b.length then requestOps (b.take (b.length - n)) else none
  (requestOps b).or ((pad 1).or ((pad 2).or (pad 3)))

/-- A DICT record is executed by master 0x30 at P2 (R403, R404). -/
def Dev.tetherDict (b : Bytes) (d : Dev) : Dev :=
  match dictOps (b.drop 4) with
  | some ops => d.execRequest ⟨0x30, 0⟩ .none (bit (beAt b 1 1) 7) {} ops
  | none => d.inc E.TetherBadFrames

/-- A SETPOINT record is held as the mirrored state of its port's words (R403). -/
def Dev.tetherSetpoint (b : Bytes) (d : Dev) : Dev :=
  let words := (List.range 64).map fun w =>
    let o := 12 + 12 * w
    (beAt b o 4, beAt b (o + 4) 4, beAt b (o + 8) 1, beAt b (o + 9) 1)
  d.modPair fun p => { p with words := p.words.set (beAt b 0 1) { tick := beAt b 4 8, words } }

/-- The tether port whose link delay is valid, port A first. -/
def Dev.tetherDelay (d : Dev) : Option Nat := (d.tetherPorts.find? fun p => d.getB (E.LinkDelayValid p)).map fun p => d.get (E.MeanLinkDelay p)

/-- A SERVO record is readable as MateServo; PairTickSkew compares the boundaries in the time of the output domain (R403, R424). -/
def Dev.tetherServo (b : Bytes) (d : Dev) : Dev :=
  let d := d.putDom E.MateServo (fitBytes 48 b)
  let i := d.get E.OutputDomain
  let mate : Int := fromTimex (beAt b (24 * i + 12) 12)
  let skew := match d.tetherDelay with
    | some m => mate - d.domainTime i d.time.boundX - m
    | none => 0
  d.put E.PairTickSkew (enc 64 skew)

/-- One record of a frame of `role`; an unknown TYPE is dropped and counted. -/
def Dev.tetherRecord (role : Nat) (e : Nat × Bytes) (d : Dev) : Dev :=
  match e.1 with
  | 1 => d.heartbeatApply role e.2
  | 2 => d.tetherL2 e.2
  | 3 => d.tetherRecovery e.2
  | 4 => d.tetherDict e.2
  | 5 => d.tetherSetpoint e.2
  | 6 => d.tetherServo e.2
  | _ => d.inc E.TetherBadFrames

/-! ### Order (R399) -/

/-- How far TSEQ a lies after b. -/
def seqAfter (a b : Nat) : Nat := (a + 2 ^ 32 - b % 2 ^ 32) % 2 ^ 32

/-- Whether a TSEQ is accepted: above the highest, or up to 63 below it and not yet taken. -/
def Dev.tseqNew (d : Dev) (t : Nat) : Bool :=
  match d.pair.high with
  | none => true
  | some h => (t != h && decide (seqAfter t h < 2 ^ 31)) || (decide (seqAfter h t ≤ 63) && !bit d.pair.window (seqAfter h t))

/-- A TSEQ is accepted. -/
def Dev.tseqTake (t : Nat) (d : Dev) : Dev :=
  d.modPair fun p => match p.high with
    | none => { p with high := some t, window := 1 }
    | some h =>
      if seqAfter t h < 2 ^ 31 then { p with high := some t, window := (p.window * 2 ^ seqAfter t h + 1) % 2 ^ 64 }
      else { p with window := setBit p.window (seqAfter h t) true }

/-- A frame's records are applied in their order. -/
def Dev.tetherApply (t : Nat) (pdu : Bytes) (d : Dev) : Dev :=
  let d := d.modPair fun p => { p with applied := some t }
  let role := fld (beAt pdu 0 1) 3 2
  d.each ((tetherParse pdu).getD []) (Dev.tetherRecord role)

/-- A held frame set in TSEQ order behind the last applied one. -/
def heldInsert (base : Nat) (h : HeldPdu) : List HeldPdu → List HeldPdu
  | [] => [h]
  | a :: l => if seqAfter h.tseq base < seqAfter a.tseq base then h :: a :: l else a :: heldInsert base h l

/-- Frames whose predecessor has been applied follow it; fuel is the number held. -/
def Dev.tetherDrain : Nat → Dev → Dev
  | 0, d => d
  | fuel + 1, d =>
    match d.pair.held, d.pair.applied with
    | h :: l, some a =>
      if seqAfter h.tseq a = 1 then ((d.modPair fun p => { p with held := l }).tetherApply h.tseq h.pdu).tetherDrain fuel else d
    | _, _ => d

/-- An accepted frame is applied, waits for a predecessor, or comes too late to be applied in order. -/
def Dev.tetherOrder (t : Nat) (pdu : Bytes) (d : Dev) : Dev :=
  match d.pair.applied with
  | none => d.tetherApply t pdu
  | some a =>
    if seqAfter t a = 1 then (d.tetherApply t pdu).tetherDrain d.pair.held.length
    else if seqAfter t a < 2 ^ 31 ∧ t ≠ a then d.modPair fun p => { p with held := heldInsert a { tseq := t, pdu, x := d.now } p.held }
    else d

/-- TETHER_FRAME_RECEIVE: a PDU on path 1 or 2, that is tether port A or B. Each copy of a HEARTBEAT keeps its own path alive (R401). -/
def Dev.tetherReceive (path : Nat) (pdu : Bytes) (d : Dev) : Dev :=
  if !d.getB E.PairEnable || path == 0 || !d.paths.contains path then d
  else match tetherParse pdu with
    | none => d.inc E.TetherBadFrames
    | some l =>
      let t := beAt pdu 4 4
      let d := d.cond (l.any fun e => e.1 == 1) (Dev.heartbeatSeen path (fld (beAt pdu 0 1) 3 2))
      if d.tseqNew t then ((d.tseqTake t).inc E.TetherFramesRx).tetherOrder t pdu
      else d.inc E.TetherDuplicates

/-- TETHER_GAP_TIMEOUT: the first held frame has waited 2 µs; the gap counts and it is applied (R399). -/
def Dev.tetherGap (d : Dev) : Dev :=
  match d.pair.held with
  | h :: l =>
    if h.x + 16000 ≤ d.now then
      let d := ((d.modPair fun p => { p with held := l }).inc E.MirrorGaps).mirrorDegraded
      (d.tetherApply h.tseq h.pdu).tetherDrain l.length
    else d
  | [] => d

/-- A record presented by itself, where the pair is enabled; one that is not well formed is a bad frame. -/
def Dev.tetherOne (ty : Nat) (b : Bytes) (f : Dev → Dev) (d : Dev) : Dev :=
  if !d.getB E.PairEnable then d else if recordOk (ty, b) then f d else d.inc E.TetherBadFrames

/-! ### The commands -/

/-- TETHER_FRAME_RECEIVE (R399). -/
def execTetherFrameReceive (x path : Nat) (pdu : Bytes) (s : State) : Host.Outcome State Fault Refusal := s.live x (Dev.tetherReceive path pdu)
/-- TETHER_GAP_TIMEOUT (R399). -/
def execTetherGapTimeout (x : Nat) (s : State) : Host.Outcome State Fault Refusal := s.live x Dev.tetherGap
/-- HEARTBEAT (R398, R401, R402). -/
def execHeartbeat (x path role : Nat) (body : Bytes) (s : State) : Host.Outcome State Fault Refusal :=
  s.live x (Dev.tetherOne 1 body fun d => (d.heartbeatSeen path role).heartbeatApply role body)
/-- TETHER_L2 (R403). -/
def execTetherL2 (x : Nat) (body : Bytes) (s : State) : Host.Outcome State Fault Refusal := s.live x (Dev.tetherOne 2 body (Dev.tetherL2 body))
/-- TETHER_RECOVERY (R403). -/
def execTetherRecovery (x : Nat) (body : Bytes) (s : State) : Host.Outcome State Fault Refusal :=
  s.live x (Dev.tetherOne 3 body (Dev.tetherRecovery body))
/-- TETHER_DICT (R404). -/
def execTetherDict (x : Nat) (body : Bytes) (s : State) : Host.Outcome State Fault Refusal :=
  s.live x (Dev.tetherOne 4 body (Dev.tetherDict body))
/-- TETHER_SETPOINT (R403). -/
def execTetherSetpoint (x : Nat) (body : Bytes) (s : State) : Host.Outcome State Fault Refusal :=
  s.live x (Dev.tetherOne 5 body (Dev.tetherSetpoint body))
/-- TETHER_SERVO (R403). -/
def execTetherServo (x : Nat) (body : Bytes) (s : State) : Host.Outcome State Fault Refusal :=
  s.live x (Dev.tetherOne 6 body (Dev.tetherServo body))

end Sys2Proof.Machine
end

