-- ==== Sys2Proof/Machine/Tick.lean ====
section
/-!
DEFINITION. The tick boundary (R19): the six duties in their order, the acquire step (R88) and a change of TickPeriod or TickPhase (R94).
-/
namespace Sys2Proof.Machine

/-! ### Histograms, in the first duty (R312, R313) -/

/-- The bin of a value: 0, then one per power of two, the last open. -/
def histBin (v : Nat) : Nat := if v = 0 then 0 else min 15 (Nat.log2 v + 1)

/-- Bit lo's U32 of a row counts one and saturates. -/
def binInc (r lo : Nat) : Nat := setFld r (lo + 31) lo (min (fld r (lo + 31) lo + 1) (2 ^ 32 - 1))

/-- The delay sample of queue row r: the largest of the frames started, else the age of the head frame. -/
def Dev.delaySample (d : Dev) (r : Nat) : Option Nat :=
  match d.net.delay.get? r, d.queue r with
  | some ns, _ => some ns
  | none, e :: _ => (d.frame? e.frame).map fun f => (d.now - f.x) / 8
  | none, [] => none

/-- The histogram row of queue row r after the boundary's sample. -/
def Dev.histRow (d : Dev) (r : Nat) : Nat :=
  let h := d.row T.QueueHistograms r
  let h := setFld h 1087 1024 (fld h 1087 1024 + 1)
  let h := binInc h (512 + 32 * histBin (d.occ r))
  match d.delaySample r with
  | some ns => binInc h (32 * histBin (ns / max 1 (d.get E.DelayBinBase)))
  | none => h

/-- Every queue row in use is sampled; rows written to HistogramClear and, after a new DelayBinBase, all delay histograms are then empty. -/
def Dev.histograms (d : Dev) : Dev :=
  let lo := T.QueueHistograms * 2 ^ 20
  let clear (r h : Nat) : Nat :=
    if d.net.histReset.contains r || d.net.histReset.contains 0xFFFF then 0 else if d.net.delayReset then setFld h 511 0 0 else h
  let rows := ((List.range 1601).filter rowInUse).map fun r => (lo + r, clear r (d.histRow r))
  let old := d.dict.rows
  { d with
    dict := { d.dict with rows := old.between 0 lo ++ rows ++ old.filter fun (e : Nat × Nat) => decide (lo + 2 ^ 20 ≤ e.1) }
    net := { d.net with delay := [], histReset := [], delayReset := false } }

/-! ### Pending targets (R88, R94) -/

/-- One-shot events that `gone` names are discarded, each counted in EVENTS_DISCARDED. Answers how many. -/
def Dev.eventsDropIf (gone : Pulse → Bool) (d : Dev) : Nat × Dev :=
  d.yard.lines.foldl (fun (a : Nat × Dev) (e : Nat × YLine) =>
    let keep := e.2.queue.filter fun p => !gone p
    let n := e.2.queue.length - keep.length
    if n = 0 then a
    else (a.1 + n, ((a.2.setLine e.1 { e.2 with queue := keep }).put (E.YardQueueDepth e.1) keep.length).lineCount e.1 63 0 n)) (0, d)

/-- Frames and copies whose launch target `gone` names are dropped before they have started (R296). Answers how many. -/
def Dev.launchDrop (gone : Int → Bool) (d : Dev) : Nat × Dev :=
  let dead (e : QEntry) : Bool := e.rest.isNone && (e.target.map gone).getD false
  let queued := d.net.queues.flatMap fun (q : Nat × List QEntry) => q.2.filter dead
  let coming := d.net.copies.flatMap fun (c : Nat × List Copy) => c.2.filter fun e => dead e.entry
  let d := { d with net := { d.net with
    queues := d.net.queues.map fun (q : Nat × List QEntry) => (q.1, q.2.filter fun e => !dead e)
    copies := d.net.copies.map fun (c : Nat × List Copy) => (c.1, c.2.filter fun e => !dead e.entry) } }
  (queued.length + coming.length, (d.each queued fun e => Dev.settle e.frame).each coming fun c => Dev.copyGone c false)

/-- Residue entries that `gone` names are dropped. Answers how many. -/
def Dev.residueDropIf (gone : Residue → Bool) (d : Dev) : Nat × Dev :=
  let dead := d.net.residue.filter gone
  let d := { d with net := { d.net with residue := d.net.residue.filter fun e => !gone e } }
  (dead.length, d.each dead fun e => Dev.copyGone e.copy false)

/-- A swap armed for a tick that `gone` names is abandoned (R475). Answers how many. -/
def Dev.swapDropIf (gone : Nat → Bool) (d : Dev) : Nat × Dev :=
  if d.get E.SwapState = 3 ∧ gone d.fw.swapTick then
    (1, ((d.modFw fun f => { f with asked := false, ready := false }).inc E.SwapsAbandoned).put E.SwapState 5)
  else (0, d)

/-- The pending targets beyond output time t (2^-16 ns) and tick n are discarded and counted in DiscardedByStep. -/
def Dev.discardTargets (late : Int → Bool) (lateTick : Nat → Bool) (d : Dev) : Dev :=
  let (a, d) := d.slotsDrop
  let (b, d) := d.eventsDropIf fun p => late p.start
  let (c, d) := d.launchDrop late
  let (e, d) := d.batchesDrop
  let (f, d) := d.residueDropIf fun r => lateTick (r.tick + d.get E.ResidueLimitTicks)
  let (g, d) := d.swapDropIf lateTick
  (d.add E.DiscardedByStep (a + b + c + e + f + g)).modYard fun y => { y with genTick := [], built := [] }

/-! ### The acquire step (R88) -/

/-- What the yard has already scheduled keeps its physical distance when output time moves by v. -/
def Dev.yardShift (v : Int) (d : Dev) : Dev :=
  d.modYard fun y => { y with
    lines := y.lines.map fun (e : Nat × YLine) =>
      (e.1, { e.2 with prev := e.2.prev.map (· + v), prevEnd := e.2.prevEnd + v, endT := e.2.endT + v, tick := 0, count := 0 })
    groups := y.groups.map fun (e : Nat × YGroup) =>
      (e.1, { queue := e.2.queue.map fun q => (q.1, { q.2 with start := q.2.start + v }), last := e.2.last.map (· + v) }) }

/-- Sweep records of the last TickPeriod that are still held get ACQ_STEP (R30). -/
def Dev.dumpsAcq (d : Dev) : Dev :=
  d.modTele fun t => { t with dumps := t.dumps.map fun (q : Dump) =>
    match q.words with
    | w :: l =>
      if decide (rawOf d.now ≤ l.getD 4 0 + d.period) then { q with words := withTrailer ((setBit w 56 true :: l).dropLast) } else q
    | [] => q }

/-- The boundary now is an acquire step: the tick in progress lasts to the first boundary of the new timescale. `old` is output time as it was. -/
def Dev.acquireStep (old : Xform) (d : Dev) : Dev :=
  let d := d.markAcq.dumpsAcq
  let since := old.at d.now - d.time.boundT * 65536
  let d := { d with time := { d.time with acq := 2, gateT := some (d.time.gateT.getD since) } }
  let d := d.discardTargets (fun _ => true) (fun _ => true)
  let d := d.yardShift (d.outTime - old.at d.now)
  let d := { d with time := { d.time with nextB := firstBoundary d.period (d.get E.TickPhase) d.outTime } }
  d.modTele fun t => { t with snap := none, bwAcq := true }

/-! ### The third duty (R94, R332, R343) -/

/-- TickPeriod or TickPhase has changed at boundary time B, which began tick n of the old numbering (R94): ticks take the new numbers, and
targets beyond B are discarded. Residue whose limit is at or before B is tried once more. -/
def Dev.renumber (b n : Nat) (d : Dev) : Dev :=
  let next := d.yard.next
  let d := d.discardTargets (fun t => decide ((b : Int) * 65536 < t)) (fun m => decide (n < m))
  let d := d.modYard fun y => { y with next := next }
  let d := { d with net := { d.net with residue := d.net.residue.map fun (e : Residue) => { e with tick := 0 } } }
  { d with time := { d.time with tick := tickOf d.period (d.get E.TickPhase) b, nextB := b + d.period } }

/-- The values that wait for the boundary come into force (R242, R343). -/
def Dev.boundaryRows (d : Dev) : Dev :=
  let p := d.yard.pend
  let doms := d.yard.pendDoms
  let d := d.modYard fun y => { y with pend := {}, pendDoms := [] }
  let d := d.each p.scal fun (e : Nat × Nat) => Dev.put e.1 e.2
  let d := d.each p.rows fun (e : Nat × Nat) => Dev.boundaryInstall (e.1 / 2 ^ 20) (e.1 % 2 ^ 20) e.2
  d.each doms fun (e : Nat × Bytes) => Dev.setDom e.1 e.2

/-! ### The boundary -/

/-- The TickPeriod of the tick n that begins: a batch may bring a new one (R86). -/
def Dev.periodOf (d : Dev) (n : Nat) : Nat :=
  ((d.commit.batches.find? fun b => b.tick == n).bind fun b => b.st.scal.get? E.TickPeriod).getD d.period

/-- A PPS output whose source time went back waits for the next whole second of it (R108). -/
def Dev.ppsRebase (i : Nat) (d : Dev) : Dev :=
  match d.ppsSec i, (d.ppsOut i).lastSec with
  | some sec, some s => d.cond (decide (sec < s)) (Dev.ppsArm i)
  | _, _ => d

/-- A tick ends: each of its duties that is not finished reports class T and goes on (R29): a process port's transfer, the build of a sample group.
The blocks have no numbers in the spec (a free value). Loops and sweeps report in their own ways (R365, R509). -/
def Dev.dutyOverruns (d : Dev) : Dev :=
  let late := d.yard.busy.length + ((List.range 16).filter d.buildOpen).length
  if d.time.tickRun then d.upto late fun _ d => let (a, d) := d.free 64; d.report Src.tickOverrun a else d

/-- Tick n begins at boundary time B: the third to the last duty of R19. -/
def Dev.tickBegin (n : Nat) (d : Dev) : Dev :=
  let b := d.time.nextB
  let first := !d.time.tickRun
  let was := (d.period, d.get E.TickPhase)
  let d := { d with time := { d.time with
    tickRun := true, prevTick := d.time.tick, tick := n, boundX := d.now, boundT := b, nextB := b + d.period,
    gateT := none } }
  let d := d.commitDuty n
  let d := d.cond ((d.period, d.get E.TickPhase) != was) (Dev.renumber b n)
  let d := ((d.boundaryRows.yardReleaseDuty).resumeDuty.ownReleaseDuty).loopWindows.ppStates
  let d := d.yardDuty
  let d := d.setpointDuty
  let d := d.upto 4 fun k => Dev.emit (.interrupt d.now (8 + 2 * k) "tick")
  let d := d.residueDuty.pairDuty
  let d := { d with power := { d.power with redirect := d.power.redirect && d.get E.PowerMode != 0 } }
  d.cond first Dev.forwardingStart

/-- TICK_BOUNDARY (R19): nothing before output time reaches the boundary (R92). -/
def Dev.tickBoundary (d : Dev) : Dev :=
  if d.outTime < (d.time.nextB : Int) * 65536 then d
  else
    let n := d.nextTick
    let d := d.cond d.time.tickRun fun d => d.upto 8 Dev.evaluate
    let d := { d with time := { d.time with acq := d.time.acq - 1 } }
    let d := (d.snapshot n).histograms
    let d := ((d.servoApply 0).servoApply 1).outputSelect
    let old := d.time.out
    let (step, d) := d.outputUpdate (d.periodOf n)
    let d := ((d.ppsRebase 0).ppsRebase 1).watchdogTick
    let d := { d with net := { d.net with bounds := d.net.bounds + 1 } }
    if step then d.acquireStep old else d.dutyOverruns.tickBegin n

/-- TICK_BOUNDARY (R19). -/
def execTickBoundary (x : Nat) (s : State) : Host.Outcome State Fault Refusal := s.live x Dev.tickBoundary

end Sys2Proof.Machine
end

