-- ==== Sys2Proof/Machine/Dispatch.lean ====
section
/-!
DEFINITION. One arm per command: the one call of its meaning.
-/
namespace Sys2Proof.Machine

def exec (i : Instr) (s : State) : Host.Outcome State Fault Refusal :=
  match i with
  | .supplyValid x samples factoryLock => Sys2Proof.Machine.execSupplyValid x samples factoryLock s
  | .railLoss x aon => Sys2Proof.Machine.execRailLoss x aon s
  | .dictionaryImageLoad x flashBytes slotA slotB casc => Sys2Proof.Machine.execDictionaryImageLoad x flashBytes slotA slotB casc s
  | .firmwareLoad x bank0 bank1 boot => Sys2Proof.Machine.execFirmwareLoad x bank0 bank1 boot s
  | .tickBoundary x => Sys2Proof.Machine.execTickBoundary x s
  | .servoTimeout x d => Sys2Proof.Machine.execServoTimeout x d s
  | .residueLimitExpiry x => Sys2Proof.Machine.execResidueLimitExpiry x s
  | .recoveryResetExpiry x fn => Sys2Proof.Machine.execRecoveryResetExpiry x fn s
  | .mateLost x => Sys2Proof.Machine.execMateLost x s
  | .pathSilent x path => Sys2Proof.Machine.execPathSilent x path s
  | .generatorFire x g => Sys2Proof.Machine.execGeneratorFire x g s
  | .yardEventFire x line => Sys2Proof.Machine.execYardEventFire x line s
  | .startGroupRelease x grp => Sys2Proof.Machine.execStartGroupRelease x grp s
  | .pulseEnd x line => Sys2Proof.Machine.execPulseEnd x line s
  | .yardEdgeCapture x line rising heldNs => Sys2Proof.Machine.execYardEdgeCapture x line rising heldNs s
  | .weaveWindowOpen x port => Sys2Proof.Machine.execWeaveWindowOpen x port s
  | .sampleGroupBuild x g => Sys2Proof.Machine.execSampleGroupBuild x g s
  | .sweepDue x => Sys2Proof.Machine.execSweepDue x s
  | .sweepDumpDone x set ok => Sys2Proof.Machine.execSweepDumpDone x set ok s
  | .bandwidthWindowEnd x => Sys2Proof.Machine.execBandwidthWindowEnd x s
  | .tickIrq x => Sys2Proof.Machine.execTickIrq x s
  | .setpointStoreClose x pp => Sys2Proof.Machine.execSetpointStoreClose x pp s
  | .staleTicksExpiry x word => Sys2Proof.Machine.execStaleTicksExpiry x word s
  | .loopOverrunLimit x pair port => Sys2Proof.Machine.execLoopOverrunLimit x pair port s
  | .ppTransferEnd x pp status words crcs => Sys2Proof.Machine.execPpTransferEnd x pp status words crcs s
  | .signalDetect x p => Sys2Proof.Machine.execSignalDetect x p s
  | .autonegDone x p partner => Sys2Proof.Machine.execAutonegDone x p partner s
  | .trainingDone x p => Sys2Proof.Machine.execTrainingDone x p s
  | .trainingTimeout x p => Sys2Proof.Machine.execTrainingTimeout x p s
  | .linkLoss x p => Sys2Proof.Machine.execLinkLoss x p s
  | .linkRestore x p => Sys2Proof.Machine.execLinkRestore x p s
  | .linkDownHoldExpiry x p => Sys2Proof.Machine.execLinkDownHoldExpiry x p s
  | .remoteFault x p => Sys2Proof.Machine.execRemoteFault x p s
  | .portCalibrationDone x p ok rxPs txPs => Sys2Proof.Machine.execPortCalibrationDone x p ok rxPs txPs s
  | .preemptVerify x p ev => Sys2Proof.Machine.execPreemptVerify x p ev s
  | .frameIngress x port pl frame fragmented hold => Sys2Proof.Machine.execFrameIngress x port pl frame fragmented hold s
  | .frameTailArrival x port fragmented fcsOk last => Sys2Proof.Machine.execFrameTailArrival x port fragmented fcsOk last s
  | .copyAdmission x pl => Sys2Proof.Machine.execCopyAdmission x pl s
  | .egressSelect x port ecc => Sys2Proof.Machine.execEgressSelect x port ecc s
  | .transmitComplete x port ecc => Sys2Proof.Machine.execTransmitComplete x port ecc s
  | .cellRelease x n => Sys2Proof.Machine.execCellRelease x n s
  | .dhopLaunch x port => Sys2Proof.Machine.execDhopLaunch x port s
  | .launchTarget x port q => Sys2Proof.Machine.execLaunchTarget x port q s
  | .spillWrite x row => Sys2Proof.Machine.execSpillWrite x row s
  | .spillReadback x row => Sys2Proof.Machine.execSpillReadback x row s
  | .recirculation x pl => Sys2Proof.Machine.execRecirculation x pl s
  | .samplerRecord x pl sampler => Sys2Proof.Machine.execSamplerRecord x pl sampler s
  | .learnApply x pl => Sys2Proof.Machine.execLearnApply x pl s
  | .moveApply x pl => Sys2Proof.Machine.execMoveApply x pl s
  | .ageingVisit x pl row => Sys2Proof.Machine.execAgeingVisit x pl row s
  | .tableUpdateApply x pl => Sys2Proof.Machine.execTableUpdateApply x pl s
  | .scrubRead x pl table row bad => Sys2Proof.Machine.execScrubRead x pl table row bad s
  | .shadowRepair x pl => Sys2Proof.Machine.execShadowRepair x pl s
  | .endOp pl w => Sys2Proof.Machine.execEndOp pl w s
  | .setCtq pl w => Sys2Proof.Machine.execSetCtq pl w s
  | .fwd pl w => Sys2Proof.Machine.execFwd pl w s
  | .drop pl w => Sys2Proof.Machine.execDrop pl w s
  | .skipIf pl w => Sys2Proof.Machine.execSkipIf pl w s
  | .count pl w => Sys2Proof.Machine.execCount pl w s
  | .vlanPush pl w => Sys2Proof.Machine.execVlanPush pl w s
  | .vlanPop pl w => Sys2Proof.Machine.execVlanPop pl w s
  | .vlanSet pl w => Sys2Proof.Machine.execVlanSet pl w s
  | .macSet pl w => Sys2Proof.Machine.execMacSet pl w s
  | .ttlDec pl w => Sys2Proof.Machine.execTtlDec pl w s
  | .dscpSet pl w => Sys2Proof.Machine.execDscpSet pl w s
  | .rtagPush pl w => Sys2Proof.Machine.execRtagPush pl w s
  | .rtagPop pl w => Sys2Proof.Machine.execRtagPop pl w s
  | .hsrPush pl w => Sys2Proof.Machine.execHsrPush pl w s
  | .hsrPop pl w => Sys2Proof.Machine.execHsrPop pl w s
  | .prpAdd pl w => Sys2Proof.Machine.execPrpAdd pl w s
  | .prpStrip pl w => Sys2Proof.Machine.execPrpStrip pl w s
  | .mirror pl w => Sys2Proof.Machine.execMirror pl w s
  | .sample pl w => Sys2Proof.Machine.execSample pl w s
  | .punt pl w => Sys2Proof.Machine.execPunt pl w s
  | .launch pl w => Sys2Proof.Machine.execLaunch pl w s
  | .setpoint pl w => Sys2Proof.Machine.execSetpoint pl w s
  | .ptpSyncReceive x p frame => Sys2Proof.Machine.execPtpSyncReceive x p frame s
  | .ptpFollowUpReceive x p frame => Sys2Proof.Machine.execPtpFollowUpReceive x p frame s
  | .followUpMissing x p => Sys2Proof.Machine.execFollowUpMissing x p s
  | .ptpDelayReqReceive x p frame => Sys2Proof.Machine.execPtpDelayReqReceive x p frame s
  | .ptpDelayRespReceive x p frame => Sys2Proof.Machine.execPtpDelayRespReceive x p frame s
  | .ptpPdelayReqReceive x p frame => Sys2Proof.Machine.execPtpPdelayReqReceive x p frame s
  | .ptpPdelayRespReceive x p frame => Sys2Proof.Machine.execPtpPdelayRespReceive x p frame s
  | .pdelayLost x p => Sys2Proof.Machine.execPdelayLost x p s
  | .ptpGeneralMessage x p frame => Sys2Proof.Machine.execPtpGeneralMessage x p frame s
  | .syncOriginate x d p => Sys2Proof.Machine.execSyncOriginate x d p s
  | .delayReqSend x d p => Sys2Proof.Machine.execDelayReqSend x d p s
  | .pdelayReqSend x p => Sys2Proof.Machine.execPdelayReqSend x p s
  | .ppsInEdge x k rising => Sys2Proof.Machine.execPpsInEdge x k rising s
  | .ppsMissing x k => Sys2Proof.Machine.execPpsMissing x k s
  | .ppsOutEdge x k => Sys2Proof.Machine.execPpsOutEdge x k s
  | .pllRefLoss x => Sys2Proof.Machine.execPllRefLoss x s
  | .read x r idx sub => Sys2Proof.Machine.execRead x r idx sub s
  | .write x r idx sub ty data => Sys2Proof.Machine.execWrite x r idx sub ty data s
  | .readStaged x r idx sub => Sys2Proof.Machine.execReadStaged x r idx sub s
  | .readRow x r idx sub first count => Sys2Proof.Machine.execReadRow x r idx sub first count s
  | .writeRow x r idx sub first count data => Sys2Proof.Machine.execWriteRow x r idx sub first count data s
  | .bulkRead x r idx sub off len => Sys2Proof.Machine.execBulkRead x r idx sub off len s
  | .bulkWrite x r idx sub off total data => Sys2Proof.Machine.execBulkWrite x r idx sub off total data s
  | .bulkWriteTimeout x master idx sub => Sys2Proof.Machine.execBulkWriteTimeout x master idx sub s
  | .subscribe x r idx sub => Sys2Proof.Machine.execSubscribe x r idx sub s
  | .unsubscribe x r idx sub => Sys2Proof.Machine.execUnsubscribe x r idx sub s
  | .sessionOpen x slot nonce authentic => Sys2Proof.Machine.execSessionOpen x slot nonce authentic s
  | .sessionClose x r => Sys2Proof.Machine.execSessionClose x r s
  | .commit x r flags id tick => Sys2Proof.Machine.execCommit x r flags id tick s
  | .abort x r flags id tick => Sys2Proof.Machine.execAbort x r flags id tick s
  | .echo x r data => Sys2Proof.Machine.execEcho x r data s
  | .notifyDeliver x r => Sys2Proof.Machine.execNotifyDeliver x r s
  | .batchFoldDone x => Sys2Proof.Machine.execBatchFoldDone x s
  | .lpmReserveReturn x => Sys2Proof.Machine.execLpmReserveReturn x s
  | .prostaFrameReceive x port frame => Sys2Proof.Machine.execProstaFrameReceive x port frame s
  | .sessionIdleTimeout x sid => Sys2Proof.Machine.execSessionIdleTimeout x sid s
  | .canSegmentSingle x bus seg => Sys2Proof.Machine.execCanSegmentSingle x bus seg s
  | .canSegmentFirst x bus seg => Sys2Proof.Machine.execCanSegmentFirst x bus seg s
  | .canSegmentConsecutive x bus seg => Sys2Proof.Machine.execCanSegmentConsecutive x bus seg s
  | .canSegmentAbort x bus seg => Sys2Proof.Machine.execCanSegmentAbort x bus seg s
  | .canTransferTimeout x agent => Sys2Proof.Machine.execCanTransferTimeout x agent s
  | .canResponseSend x agent => Sys2Proof.Machine.execCanResponseSend x agent s
  | .canNotifySend x agent => Sys2Proof.Machine.execCanNotifySend x agent s
  | .windowGo x m atomic len => Sys2Proof.Machine.execWindowGo x m atomic len s
  | .windowDone x => Sys2Proof.Machine.execWindowDone x s
  | .setTime x r d t => Sys2Proof.Machine.execSetTime x r d t s
  | .rateWord x r d w => Sys2Proof.Machine.execRateWord x r d w s
  | .phaseAdjust x r d v => Sys2Proof.Machine.execPhaseAdjust x r d v s
  | .reacquire x r d v => Sys2Proof.Machine.execReacquire x r d v s
  | .outputReacquire x r v => Sys2Proof.Machine.execOutputReacquire x r v s
  | .outputDomainWrite x r v => Sys2Proof.Machine.execOutputDomainWrite x r v s
  | .profilePreset x r d v => Sys2Proof.Machine.execProfilePreset x r d v s
  | .storeImage x r v => Sys2Proof.Machine.execStoreImage x r v s
  | .storeComplete x ok => Sys2Proof.Machine.execStoreComplete x ok s
  | .l2Insert x r data => Sys2Proof.Machine.execL2Insert x r data s
  | .l2Delete x r data => Sys2Proof.Machine.execL2Delete x r data s
  | .l2Query x r key => Sys2Proof.Machine.execL2Query x r key s
  | .l2Flush x r v => Sys2Proof.Machine.execL2Flush x r v s
  | .l2FlushComplete x => Sys2Proof.Machine.execL2FlushComplete x s
  | .emInsert x r data => Sys2Proof.Machine.execEmInsert x r data s
  | .emDelete x r key => Sys2Proof.Machine.execEmDelete x r key s
  | .emQuery x r key => Sys2Proof.Machine.execEmQuery x r key s
  | .deepInsert x r data => Sys2Proof.Machine.execDeepInsert x r data s
  | .deepDelete x r data => Sys2Proof.Machine.execDeepDelete x r data s
  | .deepQuery x r data => Sys2Proof.Machine.execDeepQuery x r data s
  | .paddockComplete x r data => Sys2Proof.Machine.execPaddockComplete x r data s
  | .streamUnblock x r v => Sys2Proof.Machine.execStreamUnblock x r v s
  | .gateUnlatch x r v => Sys2Proof.Machine.execGateUnlatch x r v s
  | .histogramClear x r v => Sys2Proof.Machine.execHistogramClear x r v s
  | .queueHighWaterClear x r v => Sys2Proof.Machine.execQueueHighWaterClear x r v s
  | .yardEventPush x r line tick offq width => Sys2Proof.Machine.execYardEventPush x r line tick offq width s
  | .yardEventFlush x r line => Sys2Proof.Machine.execYardEventFlush x r line s
  | .yardSafeRequest x r v => Sys2Proof.Machine.execYardSafeRequest x r v s
  | .yardSafeRelease x r v => Sys2Proof.Machine.execYardSafeRelease x r v s
  | .tcLoopWord x pair w => Sys2Proof.Machine.execTcLoopWord x pair w s
  | .tcLoopDone x pair mask => Sys2Proof.Machine.execTcLoopDone x pair mask s
  | .mirrorResync x r v => Sys2Proof.Machine.execMirrorResync x r v s
  | .mirrorResyncDone x => Sys2Proof.Machine.execMirrorResyncDone x s
  | .takeoverArm x r v => Sys2Proof.Machine.execTakeoverArm x r v s
  | .ownClaim x r v => Sys2Proof.Machine.execOwnClaim x r v s
  | .ownRelease x r v => Sys2Proof.Machine.execOwnRelease x r v s
  | .ownGntHigh x => Sys2Proof.Machine.execOwnGntHigh x s
  | .ownSettleExpiry x => Sys2Proof.Machine.execOwnSettleExpiry x s
  | .yieldComplete x => Sys2Proof.Machine.execYieldComplete x s
  | .tetherFrameReceive x path pdu => Sys2Proof.Machine.execTetherFrameReceive x path pdu s
  | .tetherGapTimeout x => Sys2Proof.Machine.execTetherGapTimeout x s
  | .heartbeat x path role body => Sys2Proof.Machine.execHeartbeat x path role body s
  | .tetherL2 x body => Sys2Proof.Machine.execTetherL2 x body s
  | .tetherRecovery x body => Sys2Proof.Machine.execTetherRecovery x body s
  | .tetherDict x body => Sys2Proof.Machine.execTetherDict x body s
  | .tetherSetpoint x body => Sys2Proof.Machine.execTetherSetpoint x body s
  | .tetherServo x body => Sys2Proof.Machine.execTetherServo x body s
  | .pairHbInToggle x => Sys2Proof.Machine.execPairHbInToggle x s
  | .enum x f => Sys2Proof.Machine.execEnum x f s
  | .enumRetry x => Sys2Proof.Machine.execEnumRetry x s
  | .image x f => Sys2Proof.Machine.execImage x f s
  | .imageEnd x f => Sys2Proof.Machine.execImageEnd x f s
  | .cascadeImageApplied x => Sys2Proof.Machine.execCascadeImageApplied x s
  | .status x f => Sys2Proof.Machine.execStatus x f s
  | .dict x f => Sys2Proof.Machine.execDict x f s
  | .dictResp x f => Sys2Proof.Machine.execDictResp x f s
  | .test x f => Sys2Proof.Machine.execTest x f s
  | .cascadeTestDone x results => Sys2Proof.Machine.execCascadeTestDone x results s
  | .testResult x f => Sys2Proof.Machine.execTestResult x f s
  | .reset x f => Sys2Proof.Machine.execReset x f s
  | .cascadeSend x r data => Sys2Proof.Machine.execCascadeSend x r data s
  | .cascadeClockLoss x => Sys2Proof.Machine.execCascadeClockLoss x s
  | .cascadeBootWaitExpiry x => Sys2Proof.Machine.execCascadeBootWaitExpiry x s
  | .deepSearchComplete x slot ecc => Sys2Proof.Machine.execDeepSearchComplete x slot ecc s
  | .deepLearnComplete x slot => Sys2Proof.Machine.execDeepLearnComplete x slot s
  | .deepAccessComplete x acc => Sys2Proof.Machine.execDeepAccessComplete x acc s
  | .requestQueueAllocate x => Sys2Proof.Machine.execRequestQueueAllocate x s
  | .requestQueueTimeout x => Sys2Proof.Machine.execRequestQueueTimeout x s
  | .paddockOpTimeout x slot => Sys2Proof.Machine.execPaddockOpTimeout x slot s
  | .paddockRelease x => Sys2Proof.Machine.execPaddockRelease x s
  | .paddockReentry x pl => Sys2Proof.Machine.execPaddockReentry x pl s
  | .deviceReset x m key => Sys2Proof.Machine.execDeviceReset x m key s
  | .mgmtReset x m key => Sys2Proof.Machine.execMgmtReset x m key s
  | .tickCoreReset x m key => Sys2Proof.Machine.execTickCoreReset x m key s
  | .yardSafeReq x m key => Sys2Proof.Machine.execYardSafeReq x m key s
  | .yardSafeRel x m key => Sys2Proof.Machine.execYardSafeRel x m key s
  | .hostReset x m key => Sys2Proof.Machine.execHostReset x m key s
  | .dmaQuiesce x m on => Sys2Proof.Machine.execDmaQuiesce x m on s
  | .pePerst x => Sys2Proof.Machine.execPePerst x s
  | .hotReset x => Sys2Proof.Machine.execHotReset x s
  | .flr x => Sys2Proof.Machine.execFlr x s
  | .d3hotEntry x => Sys2Proof.Machine.execD3hotEntry x s
  | .d0Return x => Sys2Proof.Machine.execD0Return x s
  | .hbTimeLatch x m v => Sys2Proof.Machine.execHbTimeLatch x m v s
  | .capRearm x m => Sys2Proof.Machine.execCapRearm x m s
  | .faultNRelease x m => Sys2Proof.Machine.execFaultNRelease x m s
  | .hbRegisterWrite x m off size v => Sys2Proof.Machine.execHbRegisterWrite x m off size v s
  | .mbxTx x m ch v => Sys2Proof.Machine.execMbxTx x m ch v s
  | .mbxRxData x m ch => Sys2Proof.Machine.execMbxRxData x m ch s
  | .mbxRxStampData x m ch => Sys2Proof.Machine.execMbxRxStampData x m ch s
  | .hbSemAcquire x m sem => Sys2Proof.Machine.execHbSemAcquire x m sem s
  | .hbSemRelease x m sem v => Sys2Proof.Machine.execHbSemRelease x m sem v s
  | .hbDbSet x m v => Sys2Proof.Machine.execHbDbSet x m v s
  | .hbDbClr x m v => Sys2Proof.Machine.execHbDbClr x m v s
  | .ringEnable x ring v => Sys2Proof.Machine.execRingEnable x ring v s
  | .ringDisable x ring => Sys2Proof.Machine.execRingDisable x ring s
  | .ringTailWrite x ring v => Sys2Proof.Machine.execRingTailWrite x ring v s
  | .puntRecordWrite x ring => Sys2Proof.Machine.execPuntRecordWrite x ring s
  | .injectDescriptor x ring desc frame => Sys2Proof.Machine.execInjectDescriptor x ring desc frame s
  | .notifyRingWrite x => Sys2Proof.Machine.execNotifyRingWrite x s
  | .msixMessage x v => Sys2Proof.Machine.execMsixMessage x v s
  | .msixHoldoffExpiry x v => Sys2Proof.Machine.execMsixHoldoffExpiry x v s
  | .bar2Read x off len ecc => Sys2Proof.Machine.execBar2Read x off len ecc s
  | .bar2Write x off data => Sys2Proof.Machine.execBar2Write x off data s
  | .swapPrepare x r v => Sys2Proof.Machine.execSwapPrepare x r v s
  | .swapPrepareDone x image => Sys2Proof.Machine.execSwapPrepareDone x image s
  | .swapRequest x r tick => Sys2Proof.Machine.execSwapRequest x r tick s
  | .swapHandoffInterrupt x => Sys2Proof.Machine.execSwapHandoffInterrupt x s
  | .handoffReady x r v block => Sys2Proof.Machine.execHandoffReady x r v block s
  | .swapExecute x => Sys2Proof.Machine.execSwapExecute x s
  | .bankConfirm x r v => Sys2Proof.Machine.execBankConfirm x r v s
  | .firmwareBankWrite x r bank off total data => Sys2Proof.Machine.execFirmwareBankWrite x r bank off total data s
  | .keyRevoke x r slot => Sys2Proof.Machine.execKeyRevoke x r slot s
  | .rollbackCommit x r level => Sys2Proof.Machine.execRollbackCommit x r level s
  | .loopResume x r pair v => Sys2Proof.Machine.execLoopResume x r pair v s
  | .tickCoreMismatch x pair => Sys2Proof.Machine.execTickCoreMismatch x pair s
  | .mgmtWatchdogExpiry x => Sys2Proof.Machine.execMgmtWatchdogExpiry x s
  | .mgmtWatchdogRestart x => Sys2Proof.Machine.execMgmtWatchdogRestart x s
  | .wdMgmtKick x r v => Sys2Proof.Machine.execWdMgmtKick x r v s
  | .tickCoreWatchdogExpiry x pair => Sys2Proof.Machine.execTickCoreWatchdogExpiry x pair s
  | .wdTickKick x r pair v => Sys2Proof.Machine.execWdTickKick x r pair v s
  | .hostWatchdogExpiry x => Sys2Proof.Machine.execHostWatchdogExpiry x s
  | .hbmRetrain x r v => Sys2Proof.Machine.execHbmRetrain x r v s
  | .hbmOffline x r v => Sys2Proof.Machine.execHbmOffline x r v s
  | .hbmTrainingDone x results failing stored timeUs => Sys2Proof.Machine.execHbmTrainingDone x results failing stored timeUs s
  | .setDelays x r cmd => Sys2Proof.Machine.execSetDelays x r cmd s
  | .writePattern x r cmd => Sys2Proof.Machine.execWritePattern x r cmd s
  | .readCompare x r cmd failBlocks failBits => Sys2Proof.Machine.execReadCompare x r cmd failBlocks failBits s
  | .writeThenCompare x r cmd failBlocks failBits => Sys2Proof.Machine.execWriteThenCompare x r cmd failBlocks failBits s
  | .hbmTrainEnd x r cmd => Sys2Proof.Machine.execHbmTrainEnd x r cmd s
  | .hbmTrainSessionTimeout x => Sys2Proof.Machine.execHbmTrainSessionTimeout x s
  | .hbmRetrainSlice x pc rdEye wrEye rdStep wrStep => Sys2Proof.Machine.execHbmRetrainSlice x pc rdEye wrEye rdStep wrStep s
  | .hbmRefresh x pc bank postpone => Sys2Proof.Machine.execHbmRefresh x pc bank postpone s
  | .hbmTempRead x t0 t1 => Sys2Proof.Machine.execHbmTempRead x t0 t1 s
  | .hbmSelfRefreshEntry x pc => Sys2Proof.Machine.execHbmSelfRefreshEntry x pc s
  | .hbmSelfRefreshWake x pc => Sys2Proof.Machine.execHbmSelfRefreshWake x pc s
  | .hbmPatrolRead x addr ecc => Sys2Proof.Machine.execHbmPatrolRead x addr ecc s
  | .hbmRowRepair x pc bank row => Sys2Proof.Machine.execHbmRowRepair x pc bank row s
  | .bufferCellPatrol x cell bad => Sys2Proof.Machine.execBufferCellPatrol x cell bad s
  | .alloc x r flags size => Sys2Proof.Machine.execAlloc x r flags size s
  | .free x r handle => Sys2Proof.Machine.execFree x r handle s
  | .share x r handle owners => Sys2Proof.Machine.execShare x r handle owners s
  | .release x r handle => Sys2Proof.Machine.execRelease x r handle s
  | .query x r handle => Sys2Proof.Machine.execQuery x r handle s
  | .reclaim x r master => Sys2Proof.Machine.execReclaim x r master s
  | .faultRaise x rep => Sys2Proof.Machine.execFaultRaise x rep s
  | .faultNWidthEnd x => Sys2Proof.Machine.execFaultNWidthEnd x s
  | .internalBusTimeout x m addr access => Sys2Proof.Machine.execInternalBusTimeout x m addr access s
  | .faultNReleaseEntry x r v => Sys2Proof.Machine.execFaultNReleaseEntry x r v s
  | .faultClassClear x r v => Sys2Proof.Machine.execFaultClassClear x r v s
  | .captureRearm x r v => Sys2Proof.Machine.execCaptureRearm x r v s
  | .portShutClear x r v => Sys2Proof.Machine.execPortShutClear x r v s
  | .shedRequest x r v => Sys2Proof.Machine.execShedRequest x r v s
  | .shedExit x r v => Sys2Proof.Machine.execShedExit x r v s
  | .shedAutoExit x => Sys2Proof.Machine.execShedAutoExit x s
  | .shedRestoreDone x => Sys2Proof.Machine.execShedRestoreDone x s
  | .stabledRequest x r v => Sys2Proof.Machine.execStabledRequest x r v s
  | .stableReqPin x => Sys2Proof.Machine.execStableReqPin x s
  | .stabledEntry x => Sys2Proof.Machine.execStabledEntry x s
  | .aonComparatorSample x c mv => Sys2Proof.Machine.execAonComparatorSample x c mv s
  | .timeAlarmFire x a => Sys2Proof.Machine.execTimeAlarmFire x a s
  | .linkEnergyDetect x lane us => Sys2Proof.Machine.execLinkEnergyDetect x lane us s
  | .stableReqRelease x => Sys2Proof.Machine.execStableReqRelease x s
  | .wake x cause => Sys2Proof.Machine.execWake x cause s
  | .thermalSample x temps => Sys2Proof.Machine.execThermalSample x temps s
  | .avsUpdate x correctionMv measuredMv ok => Sys2Proof.Machine.execAvsUpdate x correctionMv measuredMv ok s
  | .avsRetry x measuredMv ok => Sys2Proof.Machine.execAvsRetry x measuredMv ok s
  | .ppsOutPulseEnd x k => Sys2Proof.Machine.execPpsOutPulseEnd x k s
  | .pllRefLock x => Sys2Proof.Machine.execPllRefLock x s
  | .refOffsetMeasurement x ppb => Sys2Proof.Machine.execRefOffsetMeasurement x ppb s
  | .ownGntLow x => Sys2Proof.Machine.execOwnGntLow x s
  | .pcieLinkUp x width speed => Sys2Proof.Machine.execPcieLinkUp x width speed s
  | .hbRegisterRead x m off size => Sys2Proof.Machine.execHbRegisterRead x m off size s
  | .tapClock rising tms tdi trstN pins => Sys2Proof.Machine.execTapClock rising tms tdi trstN pins s
  | .classicalCanFrame x bus => Sys2Proof.Machine.execClassicalCanFrame x bus s
  | .remoteFaultEnd x p => Sys2Proof.Machine.execRemoteFaultEnd x p s
  | .signalLoss x p => Sys2Proof.Machine.execSignalLoss x p s
  | .laneEyeMarginUpdate x lane hMui vMv => Sys2Proof.Machine.execLaneEyeMarginUpdate x lane hMui vMv s

end Sys2Proof.Machine
end

