-- ==== Sys2Proof/Safety.lean ====
section
/-!
DEFINITION. The terms in which claims about the block are stated: what a safe run is, when the main domains run, the block at the instant of a
command, and what it means that a command completes.
-/
namespace Sys2Proof

/-- The state after k steps, where each of them answers a next state. -/
def runsTo : Nat → Machine.State → Option Machine.State
  | 0, s => some s
  | k + 1, s => match Machine.step s with
    | .next t => runsTo k t
    | .fault _ => none
    | .refused _ => none

/-- A run of k steps from s is safe: no step faults and none is refused. -/
def Safe (k : Nat) (s : Machine.State) : Prop := (runsTo k s).isSome = true

/-- The main domains are powered: the device is starting or running (R542, R555). -/
def Machine.State.Runs (s : State) : Prop := s.dev.power.alive = true

/-- The block at the instant of a command: time has passed, and nothing else has changed (R75; log 12). -/
def Machine.State.seen (x : Nat) (s : State) : Machine.Dev := s.dev.setNow (max s.dev.now x)

/-- Command c completes on s: it answers a next state, the waiting commands are as before, and the block it leaves satisfies P. -/
def Completes (c : Instr) (s : Machine.State) (P : Machine.Dev → Prop) : Prop :=
  ∃ t, Machine.exec c s = .next t ∧ t.pending = s.pending ∧ P t.dev

/-- Counter k has counted n more between two blocks; at its width it saturates or wraps (R505). -/
def Counted (k n : Nat) (d t : Machine.Dev) : Prop := t.get k = Machine.counted k (d.get k) n

/-- The last fault that the block reported to its collector is that of a source with an address (R524). -/
def LastFault (src addr : Nat) (t : Machine.Dev) : Prop :=
  t.faults.reported.getLast?.map (fun q => (q.rep.source, q.rep.addr)) = some (src, addr)

/-- The block has driven a ball to a level last of all (R566). -/
def LastPin (name : String) (level : Bool) (t : Machine.Dev) : Prop :=
  t.out.head? = some (.pin t.now name level)

/-- The block as it meets record o of requester r presented by itself: its answer has a place (R46), and bulk writes whose gap has passed are given
up (R47). -/
def Machine.Dev.posed (r : Requester) (o : Machine.Op) (d : Dev) : Dev :=
  Dev.bulkExpire ((d.modAccess fun c => { c with nextTag := d.access.nextTag + 1 }).replyPost
    { tag := d.access.nextTag, path := .direct, who := r, recs := [{ opcode := o.opcode, idx := o.idx, sub := o.sub, waiting := true }] })

/-- Record o of requester r stands clear: no open request bears the tag that its answer gets, no bulk write of r on its object was lost (R47), none of
another requester is open there (R39), and the mirror does not take it (R404). -/
def Machine.Dev.clear (r : Requester) (o : Machine.Op) (d : Dev) : Bool :=
  d.access.replies.all (fun q => q.tag != d.access.nextTag) && !(d.posed r o).access.bulkLost.contains (r, o.key) && !(d.posed r o).heldBy r o.key &&
    (match Machine.mirrorArea o with
      | some b => !Machine.bit (d.get Machine.E.MirrorDictAreas) b
      | none => true)

/-- Every check of R36 accepts the write o of requester r, which stands clear, as the values l. -/
def Machine.Dev.takes (r : Requester) (o : Machine.Op) (l : List Machine.Put) (d : Dev) : Prop :=
  d.clear r o = true ∧ (d.posed r o).planWrite r false (d.posed r o).latest o = .ok l ∧
    ((d.posed r o).recordRel r false l).status = Machine.Status.ok

/-- Every check accepts a WRITE of v to scalar entry k. -/
def Machine.Dev.accepts (r : Requester) (k v : Nat) (d : Dev) : Prop := d.takes r (Machine.putOp k v) [.scal k v]

/-- Every check accepts a WRITE of b to DOMAIN k. -/
def Machine.Dev.acceptsDom (r : Requester) (k : Nat) (b : Bytes) (d : Dev) : Prop := d.takes r (Machine.domOp k b) [.dom k b]

/-- Steps 1 to 3 of R36 lead record o of requester r, which stands clear, to the place p. -/
def Machine.Dev.finds (r : Requester) (o : Machine.Op) (p : Machine.Place) (d : Dev) : Bool :=
  d.clear r o && (match (d.posed r o).reach r o with
    | .ok q => q == p
    | .error _ => false)

/-- Steps 1 to 6 of R36 refuse the write o of requester r, which stands clear, with status st; no limit of firmware's is touched. -/
def Machine.Dev.refuses (r : Requester) (o : Machine.Op) (st : Nat) (d : Dev) : Bool :=
  d.clear r o && (match (d.posed r o).planWrite r false (d.posed r o).latest o with
    | .ok _ => false
    | .error f => f.status == st && !f.halter)

/-- The last thing that the block has sent is the answer to an operation of requester r on entry k: its opcode, a status, a type and data (R45). -/
def Answered (r : Requester) (opcode k status ty : Nat) (data : Bytes) (t : Machine.Dev) : Prop :=
  t.out.head? = some (.response t.now r opcode status (k / 256) (k % 256) ty data)

/-- The last thing that the block has sent is the answer to a WRITE of entry k. -/
def WriteAnswered (r : Requester) (k status : Nat) (t : Machine.Dev) : Prop := Answered r 2 k status 0 [] t

/-- The deep operation of slot n may end: it is active, in its time, and first of those that use its buckets (R387, R390). -/
def Machine.Dev.mayEnd (n : Nat) (d : Dev) : Bool := (d.slot n).state == 1 && !d.overdue n && !d.bucketBusy n

/-- The registers of the test access port keep to their widths: 8 bits of instruction, 337 of the longest data register (R585). -/
def Machine.Tap.InWidth (v : Machine.Tap) : Prop := v.ir < 2 ^ 8 ∧ v.irSh < 2 ^ 8 ∧ v.drSh < 2 ^ 337 ∧ v.bound < 2 ^ 337

/-! ### Families of commands, for what a command leaves as it was -/

/-- Commands of the packet path: frames, their tables and the words of action programs. -/
def Instr.onPackets : Instr → Bool
  | .frameIngress _ _ _ _ _ _ | .frameTailArrival _ _ _ _ _ | .copyAdmission _ _ | .egressSelect _ _ _ | .cellRelease _ _ | .dhopLaunch _ _
  | .launchTarget _ _ _ | .spillWrite _ _ | .spillReadback _ _ | .recirculation _ _ | .samplerRecord _ _ _ | .paddockReentry _ _
  | .residueLimitExpiry _ | .recoveryResetExpiry _ _ | .weaveWindowOpen _ _ | .sampleGroupBuild _ _ | .injectDescriptor _ _ _ _ | .puntRecordWrite _ _
  | .learnApply _ _ | .moveApply _ _ | .ageingVisit _ _ _ | .scrubRead _ _ _ _ _ | .shadowRepair _ _ | .endOp _ _ | .setCtq _ _ | .fwd _ _ | .drop _ _
  | .skipIf _ _ | .count _ _ | .vlanPush _ _ | .vlanPop _ _ | .vlanSet _ _ | .macSet _ _ | .ttlDec _ _ | .dscpSet _ _ | .rtagPush _ _ | .rtagPop _ _
  | .hsrPush _ _ | .hsrPop _ _ | .prpAdd _ _ | .prpStrip _ _ | .mirror _ _ | .sample _ _ | .punt _ _ | .launch _ _ | .setpoint _ _ => true
  | _ => false

/-- Events of a port as its link comes up, is lost and returns. -/
def Instr.onPorts : Instr → Bool
  | .signalDetect _ _ | .autonegDone _ _ _ | .trainingDone _ _ | .trainingTimeout _ _ | .linkLoss _ _ | .linkRestore _ _ | .linkDownHoldExpiry _ _
  | .remoteFault _ _ | .remoteFaultEnd _ _ | .portCalibrationDone _ _ _ _ _ | .preemptVerify _ _ _ | .signalLoss _ _ => true
  | _ => false

/-- Time messages, PPS balls and the PLL, and the end of a transmission, which may write a time message. -/
def Instr.onClocks : Instr → Bool
  | .transmitComplete _ _ _ | .ptpSyncReceive _ _ _ | .ptpFollowUpReceive _ _ _ | .followUpMissing _ _ | .ptpDelayReqReceive _ _ _
  | .ptpDelayRespReceive _ _ _ | .ptpPdelayReqReceive _ _ _ | .ptpPdelayRespReceive _ _ _ | .pdelayLost _ _ | .ptpGeneralMessage _ _ _
  | .syncOriginate _ _ _ | .delayReqSend _ _ _ | .pdelayReqSend _ _ | .ppsInEdge _ _ _ | .ppsMissing _ _ | .ppsOutEdge _ _ | .ppsOutPulseEnd _ _
  | .pllRefLoss _ | .pllRefLock _ | .refOffsetMeasurement _ _ | .servoTimeout _ _ => true
  | _ => false

/-- Events of yard lines, setpoints and loops. -/
def Instr.onYard : Instr → Bool
  | .generatorFire _ _ | .yardEventFire _ _ | .startGroupRelease _ _ | .pulseEnd _ _ | .yardEdgeCapture _ _ _ _ | .setpointStoreClose _ _
  | .staleTicksExpiry _ _ | .loopOverrunLimit _ _ _ | .ppTransferEnd _ _ _ _ _ | .tcLoopWord _ _ _ | .tcLoopDone _ _ _ => true
  | _ => false

/-- Events of the redundant pair. -/
def Instr.onPair : Instr → Bool
  | .mateLost _ | .pathSilent _ _ | .ownGntHigh _ | .ownGntLow _ | .ownSettleExpiry _ | .yieldComplete _ | .heartbeat _ _ _ _ | .pairHbInToggle _
  | .tetherL2 _ _ | .tetherRecovery _ _ | .tetherSetpoint _ _ | .tetherServo _ _ | .mirrorResyncDone _ => true
  | _ => false

/-- Accesses and events of the host block. -/
def Instr.onHost : Instr → Bool
  | .mbxTx _ _ _ _ | .mbxRxData _ _ _ | .mbxRxStampData _ _ _ | .hbSemAcquire _ _ _ | .hbSemRelease _ _ _ _ | .hbDbSet _ _ _ | .hbDbClr _ _ _
  | .ringEnable _ _ _ | .ringDisable _ _ | .ringTailWrite _ _ _ | .hbTimeLatch _ _ _ | .capRearm _ _ | .faultNRelease _ _ | .dmaQuiesce _ _ _
  | .hbRegisterRead _ _ _ _ | .d3hotEntry _ | .d0Return _ | .notifyRingWrite _ | .msixMessage _ _ | .msixHoldoffExpiry _ _ | .pcieLinkUp _ _ _ => true
  | _ => false

/-- Resets of cores and of the host function. -/
def Instr.onResets : Instr → Bool
  | .mgmtReset _ _ _ | .tickCoreReset _ _ _ | .hostReset _ _ _ | .pePerst _ | .hotReset _ | .flr _ => true
  | _ => false

/-- Events of HBM and accesses to it through BAR2. -/
def Instr.onHbm : Instr → Bool
  | .hbmTrainingDone _ _ _ _ _ | .hbmTrainSessionTimeout _ | .hbmRetrainSlice _ _ _ _ _ _ | .hbmRefresh _ _ _ _ | .hbmTempRead _ _ _
  | .hbmSelfRefreshEntry _ _ | .hbmSelfRefreshWake _ _ | .hbmPatrolRead _ _ _ | .hbmRowRepair _ _ _ _ | .bufferCellPatrol _ _ _ | .bar2Read _ _ _ _
  | .bar2Write _ _ _ | .laneEyeMarginUpdate _ _ _ _ => true
  | _ => false

/-- Completions of the paddock and of the table update slots. -/
def Instr.onPaddock : Instr → Bool
  | .deepSearchComplete _ _ _ | .deepLearnComplete _ _ | .deepAccessComplete _ _ | .requestQueueAllocate _ | .requestQueueTimeout _
  | .paddockOpTimeout _ _ | .paddockRelease _ | .tableUpdateApply _ _ | .l2FlushComplete _ | .batchFoldDone _ | .lpmReserveReturn _ => true
  | _ => false

/-- Sweeps, bandwidth windows and the tick interrupt. -/
def Instr.onTelemetry : Instr → Bool
  | .sweepDue _ | .sweepDumpDone _ _ _ | .bandwidthWindowEnd _ | .tickIrq _ => true
  | _ => false

/-- Events of the firmware and its watchdogs. -/
def Instr.onFirmware : Instr → Bool
  | .swapPrepareDone _ _ | .swapHandoffInterrupt _ | .swapExecute _ | .mgmtWatchdogExpiry _ | .mgmtWatchdogRestart _ | .tickCoreMismatch _ _
  | .tickCoreWatchdogExpiry _ _ | .hostWatchdogExpiry _ => true
  | _ => false

/-- Events of the access paths that carry no operation of a requester. -/
def Instr.onAccess : Instr → Bool
  | .sessionIdleTimeout _ _ | .canTransferTimeout _ _ | .canResponseSend _ _ | .canNotifySend _ _ | .windowDone _ | .notifyDeliver _ _
  | .bulkWriteTimeout _ _ _ _ | .classicalCanFrame _ _ => true
  | _ => false

/-- The commands of the always-on domain, the width of FAULT_N and the test access port (R532, R542, R556, R585): the others need the
main domains. -/
def Instr.alwaysOn : Instr → Bool
  | .supplyValid _ _ _ | .railLoss _ _ | .stableReqPin _ | .stableReqRelease _ | .aonComparatorSample _ _ _ | .timeAlarmFire _ _
  | .linkEnergyDetect _ _ _ | .wake _ _ | .tapClock _ _ _ _ _ | .faultNWidthEnd _ => true
  | _ => false

end Sys2Proof
end

