-- ==== Sys2Proof/Certificates/Slice0/Obligations.lean ====
section
/-!
DEFINITION. The statements for the provers. `Completes c s P` says that the command c answers a next state from s whose block meets P and whose queue is that of s;
`s.Runs` that the main domains are powered, and `s.seen x` is the block of s at the instant of a command that carries X = x. Where a docstring names log entries, the
statement rests on those choices or readings of the model (notes/assumptions) beside the rules.
-/
open Sys2Proof Sys2Proof.Machine

/-- A step runs the command at the front of the queue. Choices or readings of the model: log entry 1. -/
def Obligations.StepRunsTheFrontCommand : Prop :=
  ∀ (s : State) (c : Instr) (l : List Instr),
    step { s with pending := c :: l } = exec c { s with pending := l } ∧ (s.pending = [] → step s = .next s)

/-- No command ever stops the block, and k steps take the first k commands. Choices or readings of the model: log entries 1 and 132. -/
def Obligations.EveryRunIsSafe : Prop :=
  (∀ (c : Instr) (s : State), Completes c s fun _ => True) ∧
    ∀ (k : Nat) (s : State), Safe k s ∧ ∀ t, runsTo k s = some t → t.pending = s.pending.drop k

/-- Time never goes back. Rests on R73, R75. Choices or readings of the model: log entry 12. -/
def Obligations.TimeNeverGoesBack : Prop :=
  (∀ (c : Instr) (s t : State), (∀ x, c ≠ .railLoss x true) → exec c s = .next t → s.dev.now ≤ t.dev.now) ∧
    (∀ (x p : Nat) (s t : State), exec (.signalDetect x p) s = .next t → t.dev.now = max s.dev.now x) ∧
    ∀ (k : Nat) (s t : State), (∀ c ∈ s.pending, ∀ x, c ≠ .railLoss x true) → runsTo k s = some t → s.dev.now ≤ t.dev.now

/-- While the main domains are off a command outside the always-on domain only passes time. Rests on R542, R555. Choices or readings of the model: log entry 12.
-/
def Obligations.DarkBlockOnlyPassesTime : Prop :=
  ∀ (c : Instr) (s : State), ¬ s.Runs → c.alwaysOn = false → ∃ x, exec c s = .next { s with dev := s.seen x }

/-- Only its own balls and the return of the supplies reach the test access port; its edges work by the TAP rules. Rests on R585. Choices or readings of the
model: log entries 22 and 23. -/
def Obligations.OnlyItsBallsReachTheTap : Prop :=
  (∀ (c : Instr) (s t : State), (∀ a b e f g, c ≠ .tapClock a b e f g) → exec c s = .next t →
     t.dev.tap = s.dev.tap ∨ (∃ x straps lock, c = .supplyValid x straps lock) ∧ s.dev.power.phase = .off ∧ t.dev.tap = {}) ∧
  (∀ (s : State) (tms tdi : Bool) (pins : BitVec 337) (v : Tap), v = s.dev.tap →
     (∀ rising trstN, Completes (.tapClock rising tms tdi trstN pins) s fun t => t.setTap v = s.dev) ∧
     (∀ rising, Completes (.tapClock rising tms tdi false pins) s fun t => t.tap.fsm = .testLogicReset ∧ t.tap.ir = 1) ∧
     (v.fsm = .captureDr → v.ir = 1 →
       Completes (.tapClock true tms tdi true pins) s fun t => t.tap.drSh % 2 ^ 28 = 0x7208 * 2 ^ 12 + 0x1B5 * 2 + 1 ∧ t.tap.ir = 1) ∧
     (v.fsm = .captureDr → v.ir = 2 ∨ v.ir = 3 ∨ v.ir = 4 ∨ v.ir = 5 → Completes (.tapClock true tms tdi true pins) s fun t => t.tap.drSh = pins.toNat) ∧
     (v.fsm = .shiftDr → 6 ≤ v.ir → Completes (.tapClock true tms tdi true pins) s fun t => t.tap.drSh = v.drSh / 2 + tdi.toNat) ∧
     (v.fsm = .shiftDr → v.ir = 2 → Completes (.tapClock true tms tdi true pins) s fun t => t.tap.drSh = v.drSh / 2 + tdi.toNat * 2 ^ 336) ∧
     (v.fsm = .shiftIr → Completes (.tapClock true tms tdi true pins) s fun t => t.tap.irSh = v.irSh / 2 + tdi.toNat * 2 ^ 7 ∧
       t.tap.fsm = if tms then .exit1Ir else .shiftIr) ∧
     (v.fsm = .updateIr → Completes (.tapClock false tms tdi true pins) s fun t => t.tap.ir = v.irSh) ∧
     (v.fsm = .updateDr → v.ir = 3 → Completes (.tapClock false tms tdi true pins) s fun t => t.tap.bound = v.drSh) ∧
     (v.fsm = .shiftDr → Completes (.tapClock false tms tdi true pins) s fun t => t.tap.tdo = bit v.drSh 0 ∧ t.tap.fsm = .shiftDr) ∧
     (∀ e, e = (fun q : Tap => q.edge true true tdi true pins.toNat) → (e (e (e (e (e v))))).fsm = .testLogicReset))

/-- Every step keeps the memory of HBM and the staged values in canonical form. Rests on R325, R480. Choices or readings of the model: log entry 134. -/
def Obligations.EveryStepKeepsCanonicalForms : Prop :=
  ∀ (s t : State), step s = .next t →
    (Memory.wf s.dev.hbm.mem = true → Memory.wf t.dev.hbm.mem = true) ∧
    (FMap.wf s.dev.commit.stage.scal = true → (∀ b ∈ s.dev.commit.batches, FMap.wf b.st.scal = true) →
      FMap.wf t.dev.commit.stage.scal = true ∧ ∀ b ∈ t.dev.commit.batches, FMap.wf b.st.scal = true)

/-- What reset leaves. Rests on R41, R542, R543, R585. Choices or readings of the model: log entries 5 and 22. -/
def Obligations.ResetState : Prop :=
  ∀ d, d = State.reset.dev → State.reset.pending = [] ∧ State.reset.Runs ∧ d.power.phase = .starting ∧ d.power.forwarding = false ∧
    d.tap.fsm = .testLogicReset ∧ d.tap.ir = 1 ∧ d.tap.InWidth ∧ d.hbm.mem = [] ∧ Memory.wf d.hbm.mem = true ∧ FMap.wf d.commit.stage.scal = true ∧ d.commit.batches = [] ∧ d.net.frames = [] ∧
    d.get E.HbmState = 0 ∧ d.get E.YardSafe = 0 ∧ d.get E.MateState = 0 ∧ d.get E.FaultClassSeen = 0 ∧
    (∀ p, p < 96 → d.get (E.PortState p) = 1 ∧ d.get (E.CalState p) = 0) ∧
    (∀ i, i < 2 → d.get (E.DomainState i) = 0) ∧ d.get E.OutputState = 0 ∧ d.get E.SwapState = 0 ∧ d.get E.OwnState = 0

/-- Writes of SetTime outside ACQUIRE and of a RateWord out of range are refused. This is R82. Choices or readings of the model: log entry 93. -/
def Obligations.TimeWritesRefused : Prop :=
  ∀ (s : State) (x i : Nat) (r : Requester) (d : Dev), s.Runs → d = s.seen x → i < 2 →
    (∀ v, d.accepts r (E.SetTime i) v → d.get (E.DomainState i) ≠ 0 → (d.domainSt i).pend.reacquire = false →
      Completes (.setTime x r i v) s fun t => WriteAnswered r (E.SetTime i) Status.invalidValue t ∧ t.time = d.time ∧
        ∀ k, k ≠ E.AccessErrors → k ≠ E.EventTraceCount → k ≠ E.Modified → t.get k = d.get k) ∧
    (∀ (w : Int) (e : EntrySpec), d.finds r (putOp (E.RateWord i) (enc 64 w)) (.entry e) = true → sgn 64 (enc 64 w) < -281474976710 ∨ 281474976710 < sgn 64 (enc 64 w) →
      Completes (.rateWord x r i w) s fun t => WriteAnswered r (E.RateWord i) Status.invalidValue t ∧ t.time = d.time ∧
        ∀ k, k ≠ E.AccessErrors → k ≠ E.EventTraceCount → k ≠ E.Modified → t.get k = d.get k)

/-- READ returns the active value, READ_STAGED the staged one. This is R325. -/
def Obligations.StagedReads : Prop :=
  ∀ (s : State) (x idx sub k v : Nat) (r : Requester) (e : EntrySpec) (d : Dev), s.Runs → d = s.seen x → idx < 65536 → sub < 256 → k = entryKey idx sub →
    d.finds r { opcode := 3, idx, sub } (.entry e) = true → e.acc = .rwt → e.ty.bytes ≠ 0 → FMap.wf d.commit.stage.scal = true →
    (∀ b ∈ d.commit.batches, FMap.wf b.st.scal = true) →
    (d.finds r { opcode := 1, idx, sub } (.entry e) = true →
      Completes (.read x r idx sub) s fun t => Answered r 1 k Status.ok e.ty.code (toBE e.ty.bytes (d.get k)) t) ∧
    (d.commit.stage.scal.get? k = some v →
      Completes (.readStaged x r idx sub) s fun t => Answered r 3 k Status.ok e.ty.code (toBE e.ty.bytes v) t) ∧
    (∀ l b m, d.commit.stage.scal.get? k = none → d.commit.batches = l ++ b :: m → b.st.scal.get? k = some v →
      (∀ a ∈ m, b.tick < a.tick ∧ a.st.scal.get? k = none) →
      Completes (.readStaged x r idx sub) s fun t => Answered r 3 k Status.ok e.ty.code (toBE e.ty.bytes v) t) ∧
    (d.commit.stage.scal.get? k = none → (∀ b ∈ d.commit.batches, b.st.scal.get? k = none) →
      Completes (.readStaged x r idx sub) s fun t => Answered r 3 k Status.ok e.ty.code (toBE e.ty.bytes (d.get k)) t)

/-- A stream gate is open exactly in its part of the cycle. This is R308. -/
def Obligations.GatesOpenByTheirTick : Prop :=
  ∀ (d : Dev) (g row n c : Nat), c = Row.StreamGates.cycleTicks row → 1 ≤ c →
    (Row.StreamGates.valid row = 1 → bit (d.row T.GateLatched g) 7 = false →
      (d.gateOpen row g n = true ↔ ((n : Int) - Row.StreamGates.offset row) % c < Row.StreamGates.openLen row)) ∧
    (Row.StreamGates.valid row = 1 → bit (d.row T.GateLatched g) 7 = false → Row.StreamGates.openLen row = c → d.gateOpen row g n = true) ∧
    (Row.StreamGates.openLen row = 0 → d.gateOpen row g n = false) ∧
    (Row.StreamGates.valid row = 0 → d.gateOpen row g n = false) ∧
    (bit (d.row T.GateLatched g) 7 = true → d.gateOpen row g n = false)

/-- The entries of the yard, and what happens on its lines. Rests on R342, R344 to R346, R348, R350, R352, R353. Choices or readings of the model: log entry 48.
-/
def Obligations.YardEntriesAndLines : Prop :=
  (∀ (s : State) (x l : Nat) (r : Requester) (d : Dev), s.Runs → d = s.seen x →
     (∀ tick offq width, l < 56 →
       d.acceptsDom r E.YardEventPush (toBE 1 l ++ [0, 0, 0] ++ toBE 8 tick ++ toBE 4 offq ++ toBE 4 width) → d.isOutput l = true → d.yardSafe = false →
       4 ≤ width → width ≤ 16777215 → offq < d.period * 8 → tick ≤ d.tickNow + 65536 → tick < 2 ^ 64 → offq < 2 ^ 32 →
       d.outTime + 131072000 ≤ (d.tickStart tick : Int) * 65536 + offq * 8192 → Row.YardLines.minPeriodNs (d.yrow l) = 0 → (d.line l).queue.length < 32 →
       Completes (.yardEventPush x r l tick offq width) s fun t =>
         (t.line l).queue = pulseInsert { start := (d.tickStart tick : Int) * 65536 + offq * 8192, width, tick } (d.line l).queue ∧
         WriteAnswered r E.YardEventPush Status.ok t) ∧
     (l < 56 → d.accepts r E.YardEventFlush l →
       Completes (.yardEventFlush x r l) s fun t => (t.line l).queue = [] ∧ WriteAnswered r E.YardEventFlush Status.ok t) ∧
     (d.accepts r E.YardSafeRequest 1 →
       Completes (.yardSafeRequest x r 1) s fun t => t.get E.YardSafe = 1 ∧ t.yard.release = false ∧ WriteAnswered r E.YardSafeRequest Status.ok t) ∧
     (d.accepts r E.YardSafeRelease 1 →
       Completes (.yardSafeRelease x r 1) s fun t => t.yard.release = d.yardSafe ∧ t.get E.YardSafe = d.get E.YardSafe ∧
         WriteAnswered r E.YardSafeRelease Status.ok t)) ∧
  (∀ (s : State) (x l : Nat) (d : Dev), s.Runs → d = s.seen x → l < 56 →
     (∀ g start, g < 16 → d.genTime g d.tickNow = some start → d.time.tickRun = true → start ≤ d.outTime → d.yard.genTick.get? g ≠ some d.tickNow →
       d.yardSafe = false →
       Completes (.generatorFire x g) s fun t => t.yard.genTick.get? g = some d.tickNow) ∧
     (∀ p q, (d.line l).queue = p :: q → p.start ≤ d.outTime → Row.YardLines.genValid (d.yrow l) = 0 → d.lineOwned l = false →
       Completes (.yardEventFire x l) s fun t => (t.line l).queue = q ∧ t.get (E.YardQueueDepth l) = q.length) ∧
     (∀ p q, (d.line l).queue = p :: q → p.start ≤ d.outTime → Row.YardLines.genValid (d.yrow l) = 0 → d.lineOwned l = true → d.startPasses l p = true →
       d.groupOf l = none → d.yard.groups.all (fun e => e.2.queue.all fun q => q.1 != l) = true →
       Completes (.yardEventFire x l) s fun t => (t.line l).queue = q ∧ (t.line l).active = true ∧ (t.line l).endT = p.start + p.width * 65536 ∧
         (t.line l).prev = some p.start) ∧
     (∀ g p, (d.yard.groups.getD g {}).queue = [(l, p)] → (d.yard.groups.getD g {}).last = none → p.start ≤ d.outTime → d.lineOwned l = true →
       d.groupHolds g l p.start = false →
       Completes (.startGroupRelease x g) s fun t => (t.yard.groups.getD g {}).queue = [] ∧ (t.yard.groups.getD g {}).last = some p.start ∧
         (t.line l).active = true ∧ (t.line l).endT = p.start + p.width * 65536) ∧
     ((d.line l).active = true → (d.line l).endT ≤ d.outTime →
       Completes (.pulseEnd x l) s fun t => (t.line l).active = false) ∧
     (∀ rising held, Row.YardLines.mode (d.yrow l) = 2 → Row.YardLines.edge (d.yrow l) = 2 → Row.YardLines.gateValid (d.yrow l) = 0 →
       Row.YardLines.deglitchNs (d.yrow l) ≤ held → (d.line l).lastX = none →
       Completes (.yardEdgeCapture x l rising held) s fun t => (t.line l).input = rising ∧ (t.line l).lastX = some d.now ∧
         Counted E.YardCaptureCount 1 d t) ∧
     (∀ rising held x0, Row.YardLines.mode (d.yrow l) = 2 → Row.YardLines.edge (d.yrow l) = 2 → Row.YardLines.gateValid (d.yrow l) = 0 →
       Row.YardLines.deglitchNs (d.yrow l) ≤ held → (d.line l).lastX = some x0 → d.now < x0 + 128 →
       Completes (.yardEdgeCapture x l rising held) s fun t => (t.line l).lost = true ∧ t.get E.YardCaptureCount = d.get E.YardCaptureCount))

/-- The process ports and the local loops. Rests on R356, R361, R364, R365, R465, R467. Choices or readings of the model: log entries 50 and 75. -/
def Obligations.SetpointsAndLoops : Prop :=
  ∀ (s : State) (x pp k : Nat) (d : Dev), s.Runs → d = s.seen x → pp < 8 → k < 4 →
    (d.closed pp = true → d.ppActive pp = true → d.yard.evalTick.get? pp ≠ some d.nextTick →
      Completes (.setpointStoreClose x pp) s fun t => t.yard.evalTick.get? pp = some d.nextTick) ∧
    (∀ w, w < 64 → d.closed pp = true → d.ppActive pp = true → d.yard.evalTick.get? pp ≠ some d.nextTick →
      Completes (.staleTicksExpiry x (pp * 64 + w)) s fun t => t.yard.evalTick.get? pp = some d.nextTick) ∧
    (∀ n status words crcs, d.yard.busy.get? pp = some n → d.transferOver pp n = true → d.crcsRight pp status words crcs = true →
      Completes (.ppTransferEnd x pp status words crcs) s fun t => t.yard.busy.get? pp = none ∧ t.yard.got.get? pp = some n ∧ t.yard.good.get? pp = some n) ∧
    (∀ n status words crcs, d.yard.busy.get? pp = some n → d.transferOver pp n = true → d.crcsRight pp status words crcs = false →
      Completes (.ppTransferEnd x pp status words crcs) s fun t => t.yard.busy.get? pp = none ∧ t.yard.good.get? pp = none ∧ LastFault Src.processPortCrc pp t) ∧
    (∀ w : BitVec 64, d.loopPair (fld w.toNat 63 61) = some k → d.suspended k = false →
      Completes (.tcLoopWord x k w) s fun t =>
        t.yard.loopWords.get? (k * 512 + fld w.toNat 63 61 * 64 + fld w.toNat 57 52) = some (fld w.toNat 31 0)) ∧
    (∀ w : BitVec 64, d.loopPair (fld w.toNat 63 61) ≠ some k →
      Completes (.tcLoopWord x k w) s fun t => t.yard = d.yard ∧ Counted (E.LoopForeign k) 1 d t) ∧
    (d.loopPair 0 = some k → d.suspended k = false → d.closed 0 = false → d.yard.loopWords = [] →
      Completes (.tcLoopDone x k 1#32) s fun t => (t.yard.loopDone.get? 0).isSome = true) ∧
    (d.loopPair 0 ≠ some k →
      Completes (.tcLoopDone x k 1#32) s fun t => t.yard = d.yard ∧ Counted (E.LoopForeign k) 1 d t) ∧
    (d.suspended k = false → d.get (E.LoopOverrunAction k) = 1 → d.get (E.LoopOverrunLimit k) ≤ d.yard.loopRun.getD (k * 8 + pp) 0 →
      Completes (.loopOverrunLimit x k pp) s fun t => t.get (E.LoopSuspended k) = 1 ∧ t.get E.YardSafe = d.get E.YardSafe) ∧
    (d.suspended k = false → d.get (E.LoopOverrunAction k) = 2 → d.get (E.LoopOverrunLimit k) ≤ d.yard.loopRun.getD (k * 8 + pp) 0 →
      Completes (.loopOverrunLimit x k pp) s fun t => t.get (E.LoopSuspended k) = 1 ∧ t.get E.YardSafe = 1)

/-- The entries of HBM, the stored image, shed mode and stabled mode. Rests on R483, R550, R552 to R555. Choices or readings of the model: log entries 67 and
85. -/
def Obligations.HbmAndPowerEntries : Prop :=
  ∀ (s : State) (x v : Nat) (r : Requester) (d : Dev), s.Runs → d = s.seen x →
    (d.accepts r E.HbmRetrain 1 → d.get E.HbmState ≠ 1 → d.get E.HbmState ≠ 5 →
      Completes (.hbmRetrain x r 1) s fun t => t.get E.HbmState = 1 ∧ WriteAnswered r E.HbmRetrain Status.ok t ∧
        t.hbm.keep = (d.get E.HbmState == 2 || d.get E.HbmState == 4)) ∧
    (d.accepts r E.HbmRetrain 1 → d.get E.HbmState = 1 →
      Completes (.hbmRetrain x r 1) s fun t => t.get E.HbmState = 1 ∧ t.hbm = d.hbm ∧ WriteAnswered r E.HbmRetrain Status.invalidValue t) ∧
    (d.accepts r E.HbmOffline 1 → d.get E.HbmState = 2 →
      Completes (.hbmOffline x r 1) s fun t => t.get E.HbmState = 4 ∧ t.hbm.keep = true ∧ WriteAnswered r E.HbmOffline Status.ok t) ∧
    (d.accepts r E.HbmOffline 1 → d.get E.HbmState ≠ 2 →
      Completes (.hbmOffline x r 1) s fun t => t.get E.HbmState = d.get E.HbmState ∧ WriteAnswered r E.HbmOffline Status.invalidValue t) ∧
    (d.accepts r E.StoreImage v → d.power.storing = false →
      Completes (.storeImage x r v) s fun t => t.power.storing = true ∧ t.get E.StoreStatus = 1 ∧ WriteAnswered r E.StoreImage Status.ok t) ∧
    (d.accepts r E.StoreImage v → d.power.storing = true →
      Completes (.storeImage x r v) s fun t => t.power.storing = true ∧ WriteAnswered r E.StoreImage Status.busy t) ∧
    (d.power.storing = true → Completes (.storeComplete x true) s fun t => t.power.storing = false ∧ t.get E.StoreStatus = 2 ∧ t.power.newest = d.storeSlot) ∧
    (d.power.storing = true → Completes (.storeComplete x false) s fun t => t.power.storing = false ∧ t.get E.StoreStatus = 3 ∧ t.power.newest = d.power.newest) ∧
    (d.accepts r E.ShedExit v → d.get E.PowerMode = 1 →
      Completes (.shedExit x r v) s fun t => t.get E.PowerMode = 2 ∧ WriteAnswered r E.ShedExit Status.ok t) ∧
    (d.accepts r E.ShedExit v → d.get E.PowerMode ≠ 1 →
      Completes (.shedExit x r v) s fun t => t.get E.PowerMode = d.get E.PowerMode ∧ WriteAnswered r E.ShedExit Status.invalidValue t) ∧
    (d.accepts r E.ShedRequest v → d.get E.PowerMode ≠ 1 →
      Completes (.shedRequest x r v) s fun t => t.get E.PowerMode = 1 ∧ t.get E.ShedCause = 1 ∧ WriteAnswered r E.ShedRequest Status.ok t) ∧
    (d.accepts r E.StabledRequest v → d.power.stabling = none → d.power.t0 + 8000000 ≤ d.now →
      Completes (.stabledRequest x r v) s fun t => t.power.stabling = some d.now ∧ WriteAnswered r E.StabledRequest Status.ok t)

/-- The entries of firmware, keys and the rollback level. Rests on R467, R471, R472, R475, R476. Choices or readings of the model: log entry 84. -/
def Obligations.FirmwareEntries : Prop :=
  ∀ (s : State) (x v : Nat) (r : Requester) (d : Dev), s.Runs → d = s.seen x →
    (d.accepts r E.SwapPrepare 1 → d.get (E.BankState d.standbyBank) = 1 → d.bankOpen d.standbyBank = false →
      Completes (.swapPrepare x r 1) s fun t => t.get E.SwapState = 1 ∧ t.fw.standby = none ∧ WriteAnswered r E.SwapPrepare Status.ok t) ∧
    (d.accepts r E.SwapPrepare 1 → d.get (E.BankState d.standbyBank) ≠ 1 →
      Completes (.swapPrepare x r 1) s fun t => t.get E.SwapState = d.get E.SwapState ∧ WriteAnswered r E.SwapPrepare Status.invalidValue t) ∧
    (d.accepts r E.SwapRequest v → d.get E.SwapState = 2 → d.tickNow + 2 ≤ v → d.fwRunning = false →
      Completes (.swapRequest x r v) s fun t => t.get E.SwapState = 3 ∧ t.fw.swapTick = v ∧ t.fw.asked = false ∧ WriteAnswered r E.SwapRequest Status.ok t) ∧
    (d.accepts r E.SwapRequest v → v < d.tickNow + 2 →
      Completes (.swapRequest x r v) s fun t => t.get E.SwapState = d.get E.SwapState ∧ WriteAnswered r E.SwapRequest Status.invalidValue t) ∧
    (∀ b, d.accepts r E.HandoffReady 1 → 1 ≤ r.master → r.master ≤ 4 →
      Completes (.handoffReady x r 1 b) s fun t => t.fw.ready = (d.fw.ready || d.fw.asked) ∧ t.dom E.HandoffBlock = b.take 1048576 ∧
        t.get E.HandoffBytes = min b.length 1048576 ∧ WriteAnswered r E.HandoffReady Status.ok t) ∧
    (d.accepts r E.BankConfirm 1 → d.fw.trial = true →
      Completes (.bankConfirm x r 1) s fun t => t.get E.ConfirmedBank = d.get E.ActiveBank ∧ t.fw.trial = false ∧ t.fw.bootSeq = (d.fw.bootSeq + 1) % 2 ^ 32 ∧
        WriteAnswered r E.BankConfirm Status.ok t) ∧
    (v < 4 → d.accepts r E.KeyRevoke v → ((List.range 4).any fun k => k != v && d.get (E.KeySlotStatus k) == 1) = true →
      ((d.fw.banks.get? (d.get E.ConfirmedBank)).map (·.keySlot) == some v) = false →
      Completes (.keyRevoke x r v) s fun t => t.get (E.KeySlotStatus v) = 2 ∧ WriteAnswered r E.KeyRevoke Status.ok t) ∧
    (∀ h, d.accepts r E.RollbackCommit v → d.fw.banks.get? (d.get E.ConfirmedBank) = some h → d.get E.RollbackLevel < v → v ≤ h.rollback →
      Completes (.rollbackCommit x r v) s fun t => t.get E.RollbackLevel = v ∧ WriteAnswered r E.RollbackCommit Status.ok t) ∧
    (∀ h, d.accepts r E.RollbackCommit v → d.fw.banks.get? (d.get E.ConfirmedBank) = some h → v ≤ d.get E.RollbackLevel →
      Completes (.rollbackCommit x r v) s fun t => t.get E.RollbackLevel = d.get E.RollbackLevel ∧ WriteAnswered r E.RollbackCommit Status.invalidValue t) ∧
    (∀ k, k < 4 → d.accepts r (E.LoopResume k) 1 →
      Completes (.loopResume x r k 1) s fun t => t.yard.resume.contains k = true ∧ WriteAnswered r (E.LoopResume k) Status.ok t)

/-- The entries of fault reporting and the watchdogs. Rests on R527, R529, R532 to R534, R539. Choices or readings of the model: log entry 78. -/
def Obligations.FaultEntries : Prop :=
  ∀ (s : State) (x v : Nat) (r : Requester) (d : Dev), s.Runs → d = s.seen x →
    (d.accepts r E.FaultNRelease v → d.faults.nLow = true → d.now < d.faults.nEnd →
      Completes (.faultNReleaseEntry x r v) s fun t => t.faults.nLow = true ∧ t.faults.nWait = true ∧ WriteAnswered r E.FaultNRelease Status.ok t) ∧
    (d.accepts r E.FaultNRelease v → d.faults.nLow = true → d.faults.nEnd ≤ d.now →
      Completes (.faultNReleaseEntry x r v) s fun t => t.faults.nLow = false ∧ t.get E.FaultNState = 0 ∧ WriteAnswered r E.FaultNRelease Status.ok t) ∧
    (d.accepts r E.FaultClassClear v →
      Completes (.faultClassClear x r v) s fun t => WriteAnswered r E.FaultClassClear Status.ok t ∧
        t.get E.FaultClassSeen = (List.range 7).foldl (fun m k => if bit v k then setBit m k false else m) (d.get E.FaultClassSeen)) ∧
    (d.accepts r E.CaptureRearm v →
      Completes (.captureRearm x r v) s fun t => t.faults.cap.valid = false ∧ t.faults.cap.more = false ∧ WriteAnswered r E.CaptureRearm Status.ok t) ∧
    (d.accepts r E.PortShutClear v → v < 64 → bit (d.get E.PortShutLow) v = true →
      Completes (.portShutClear x r v) s fun t => t.get E.PortShutLow = setBit (d.get E.PortShutLow) v false ∧ WriteAnswered r E.PortShutClear Status.ok t) ∧
    (d.accepts r E.WdMgmtKick v → 1 ≤ r.master → r.master ≤ 4 →
      Completes (.wdMgmtKick x r v) s fun t => t.wd.mgmtKick = d.now ∧ WriteAnswered r E.WdMgmtKick Status.ok t) ∧
    (d.accepts r E.WdMgmtKick v → 4 < r.master →
      Completes (.wdMgmtKick x r v) s fun t => t.wd = d.wd ∧ Counted E.HalterRefusals 1 d t) ∧
    (∀ k, k < 4 → d.accepts r (E.WdTickKick k) v → (pairMasters k).contains r.master = true →
      Completes (.wdTickKick x r k v) s fun t => t.wd.tickArmed.contains k = true ∧ t.wd.tickCount = d.wd.tickCount.set k 0 ∧
        WriteAnswered r (E.WdTickKick k) Status.ok t)

/-- Accepted writes of the time entries. Rests on R80, R85, R87, R89, R105. Choices or readings of the model: log entry 93. -/
def Obligations.TimeEntries : Prop :=
  ∀ (s : State) (x i v : Nat) (r : Requester) (d : Dev), s.Runs → d = s.seen x → i < 2 →
    (d.accepts r (E.SetTime i) v → d.get (E.DomainState i) = 0 →
      Completes (.setTime x r i v) s fun t => (t.domainSt i).pend.setTime = some (fromTimex v : Int) ∧ WriteAnswered r (E.SetTime i) Status.ok t) ∧
    (∀ w : Int, d.accepts r (E.RateWord i) (enc 64 w) → -281474976710 ≤ sgn 64 (enc 64 w) → sgn 64 (enc 64 w) ≤ 281474976710 →
      Completes (.rateWord x r i w) s fun t => (t.domainSt i).pend.rate = some (sgn 64 (enc 64 w)) ∧ WriteAnswered r (E.RateWord i) Status.ok t) ∧
    (∀ w : Int, d.accepts r (E.PhaseAdjust i) (enc 64 w) →
      Completes (.phaseAdjust x r i w) s fun t => (t.domainSt i).pend.phase = (d.domainSt i).pend.phase + sgn 64 (enc 64 w) ∧
        WriteAnswered r (E.PhaseAdjust i) Status.ok t) ∧
    (d.accepts r (E.Reacquire i) v →
      Completes (.reacquire x r i v) s fun t => (t.domainSt i).pend.reacquire = true ∧ WriteAnswered r (E.Reacquire i) Status.ok t) ∧
    (d.accepts r E.OutputReacquire v →
      Completes (.outputReacquire x r v) s fun t => t.time.outReacq = true ∧ LastFault Src.outputReacquire (d.get E.OutputDomain) t ∧
        WriteAnswered r E.OutputReacquire Status.ok t) ∧
    (d.accepts r E.OutputDomain v →
      Completes (.outputDomainWrite x r v) s fun t => t.time.outDom = some v ∧ WriteAnswered r E.OutputDomain Status.ok t) ∧
    (d.accepts r (E.ProfilePreset i) v →
      Completes (.profilePreset x r i v) s fun t => t.get (E.ProfilePreset i) = v ∧ WriteAnswered r (E.ProfilePreset i) Status.ok t)

/-- The always-on domain. Rests on R542, R543, R556, R557. Choices or readings of the model: log entries 22, 35 and 36. -/
def Obligations.AlwaysOnDomain : Prop :=
  ∀ (s : State) (x : Nat) (d : Dev), d = s.seen x →
    (∀ straps lock, d.power.phase = .off →
      Completes (.supplyValid x straps lock) s fun t => t.power.phase = .starting ∧ t.power.t0 = t.now ∧
        t.get E.BootSource = (agreedStraps straps).bootSrc.toNat ∧ t.get E.WakeCause = 0 ∧ t.power.forwarding = false ∧ t.tap = {}) ∧
    (∀ straps lock, d.power.phase = .stabled → d.power.awaiting = true →
      Completes (.supplyValid x straps lock) s fun t => t.power.phase = .starting ∧ t.power.t0 = t.now ∧ t.get E.WakeCause = d.get E.WakeCause ∧ t.tap = d.tap) ∧
    (Completes (.railLoss x false) s fun t => t.power.phase = .off ∧ t.power.forwarding = false ∧ t.now = d.now) ∧
    (Completes (.railLoss x true) s fun t => t.power.phase = .off ∧ t.power.forwarding = false ∧ t.now = 0) ∧
    (∀ c mv, c < 4 → d.power.phase ≠ .off → Row.AonComparators.valid (d.row T.AonComparators c) = 1 →
      Row.AonComparators.highMv (d.row T.AonComparators c) < min 1800 (mv / 2 * 2) →
      Row.AonComparators.lowMv (d.row T.AonComparators c) ≤ min 1800 (mv / 2 * 2) →
      Completes (.aonComparatorSample x c mv) s fun t => t.get (E.AonCmpMv c) = min 1800 (mv / 2 * 2) ∧ t.get (E.AonCmpState c) = 2) ∧
    (∀ a, a < 4 → d.power.phase ≠ .off → Row.TimeAlarms.valid (d.row T.TimeAlarms a) = 1 → Row.TimeAlarms.fired (d.row T.TimeAlarms a) = 0 →
      (fromTimex (d.row T.TimeAlarms a % 2 ^ 96) : Int) ≤ d.time.out.at d.aonX →
      Completes (.timeAlarmFire x a) s fun t => t.row T.TimeAlarms a = setFld (d.row T.TimeAlarms a) 125 125 1) ∧
    (∀ lane us, d.power.phase ≠ .off → d.get E.LinkEnergyUs ≤ us →
      Completes (.linkEnergyDetect x lane us) s fun t => t.power.flfEnergy = d.power.flfEnergy.set lane 1) ∧
    (d.power.alive = false → Completes (.stableReqPin x) s fun t => t.power.reqPin = false) ∧
    (Completes (.stableReqRelease x) s fun t => t.power.reqPin = true) ∧
    (∀ c, d.power.phase = .stabled → d.power.awaiting = false → d.wakePresent c = true →
      Completes (.wake x c) s fun t => t.power.awaiting = true ∧ t.get E.WakeCause = c ∧ LastPin "AON_WAKE_N" false t)

/-- FAULT_N, timeouts of the internal bus, and the watchdogs. Rests on R460, R530, R532 to R535. Choices or readings of the model: log entries 14 and 78. -/
def Obligations.FaultNTimeoutsAndWatchdogs : Prop :=
  (∀ (s : State) (x : Nat) (d : Dev), d = s.seen x →
     (∀ m addr w op, s.Runs → Completes (.internalBusTimeout x m addr ⟨w, op⟩) s fun t =>
       LastFault Src.internalBusTimeout addr t ∧ t.faults.reported.getLast?.map (fun q => (q.rep.master, q.rep.access)) = some (m, w.toNat)) ∧
     (d.faults.nLow = true → d.faults.nEnd ≤ d.now → d.faults.nWait = true →
       Completes (.faultNWidthEnd x) s fun t => t.faults.nLow = false ∧ t.get E.FaultNState = 0 ∧ LastPin "FAULT_N" true t) ∧
     (d.faults.nLow = true → d.faults.nEnd ≤ d.now → d.faults.nWait = false →
       Completes (.faultNWidthEnd x) s fun t => t.faults.nLow = true ∧ t.get E.FaultNState = 2)) ∧
  (∀ (s : State) (x : Nat) (d : Dev), s.Runs → d = s.seen x →
     (d.wd.mgmtArmed = true → d.wd.mgmtKick + 8000000 * d.get E.WdMgmtMs ≤ d.now →
       Completes (.mgmtWatchdogExpiry x) s fun t => t.get E.FirmwareState = 3 ∧ Counted E.WdMgmtExpiries 1 d t ∧ t.wd.mgmtArmed = false ∧
         LastFault Src.managementWatchdog 0 t) ∧
     (∀ e, d.wd.expired = some e → e + 80000000 ≤ d.now → d.getB E.WdMgmtRestart = true → d.wd.restarts = [] → 1 ≤ d.get E.WdRestartLimit →
       d.get E.ActiveBank ≠ 0xFF →
       Completes (.mgmtWatchdogRestart x) s fun t => t.get E.FirmwareState = 2 ∧ t.wd.mgmtArmed = true ∧ t.wd.mgmtKick = d.now ∧
         t.wd.expired = none ∧ t.wd.restarts = [d.now]) ∧
     (∀ k, d.wd.tickArmed.contains k = true → d.get (E.WdTickTicks k) ≠ 0 → d.get (E.WdTickTicks k) ≤ d.wd.tickCount.getD k 0 →
       Completes (.tickCoreWatchdogExpiry x k) s fun t => t.wd.tickArmed.contains k = false ∧ LastFault Src.tickCoreWatchdog k t) ∧
     (d.wd.hostArmed = true → d.get E.HostWdTicks ≠ 0 → d.get E.HostWdTicks ≤ d.wd.hostCount →
       Completes (.hostWatchdogExpiry x) s fun t => t.wd.hostArmed = false ∧ Counted E.HostWdExpiries 1 d t ∧ LastFault Src.hostWatchdog 0 t) ∧
     (∀ k, Completes (.tickCoreMismatch x k) s fun t => t.wd.tickArmed.contains k = false ∧ LastFault Src.tickCoreMismatch k t))

/-- A fault without a reaction is counted and logged, and changes no output. Rests on R524, R528, R531. Choices or readings of the model: log entry 14. -/
def Obligations.FaultIsCountedAndLogged : Prop :=
  ∀ (s : State) (x : Nat) (d : Dev) (q : FaultReport) (cls : Nat), s.Runs → d = s.seen x → q.source < 4096 → classOf q.source = some cls →
    d.row T.FaultReactions q.source = 0 → d.faults.logged = [] →
      Completes (.faultRaise x (some q)) s fun t =>
        Counted (E.ClassCounts cls) 1 d t ∧ bit (t.get E.FaultClassSeen) cls = true ∧ Counted E.FaultLogCount 1 d t ∧
        t.faults.cap = d.faults.cap ∧ t.out = d.out

/-- PPS inputs and outputs and the reference of the PLL. Rests on R106 to R109. Choices or readings of the model: log entry 33. -/
def Obligations.PpsAndPll : Prop :=
  (∀ (s : State) (x i : Nat) (d : Dev), s.Runs → d = s.seen x → i < 2 →
     (∀ rising, d.getB (E.InEnable i) = true → rising = (d.get (E.InEdge i) == 0) →
       Completes (.ppsInEdge x i rising) s fun t =>
         (t.ppsIn i).last = some d.now ∧ (t.ppsIn i).run = (d.ppsIn i).run + 1 ∧ Counted E.TimeEventCount 1 d t) ∧
     (∀ l, (d.ppsIn i).last = some l → d.getB (E.InEnable i) = true → l + 8008000000 ≤ d.now →
       Completes (.ppsMissing x i) s fun t =>
         (t.ppsIn i).run = 0 ∧ Counted (E.InMissing i) 1 d t ∧ t.get (E.InRatePpb i) = 0x80000000) ∧
     (∀ v sec q, d.ppsSource i = some v → (v - sgn 32 (d.get (E.OutOffset i)) * 65536) / 65536000000000 = sec →
       (d.ppsOut i).lastSec = some q → q < sec → d.ppsGated i = false →
       Completes (.ppsOutEdge x i) s fun t =>
         t.ppsOut i = ⟨true, some sec, d.after (d.get (E.OutWidth i))⟩ ∧ LastPin (if i = 0 then "PPS_A_OUT" else "PPS_B_OUT") true t) ∧
     ((d.ppsSource i).isSome = true → (d.ppsOut i).lastSec = none →
       Completes (.ppsOutEdge x i) s fun t => t.ppsOut i = { d.ppsOut i with lastSec := d.ppsSec i } ∧ t.out = d.out) ∧
     ((d.ppsOut i).level = true → (d.ppsOut i).endX ≤ d.now →
       Completes (.ppsOutPulseEnd x i) s fun t =>
         (t.ppsOut i).level = false ∧ LastPin (if i = 0 then "PPS_A_OUT" else "PPS_B_OUT") false t)) ∧
  (∀ (s : State) (x : Nat) (d : Dev), s.Runs → d = s.seen x →
     (d.get E.PllRefSelect ≠ 0 → d.get E.PllState ≠ 3 →
       Completes (.pllRefLoss x) s fun t => t.get E.PllState = 3 ∧ Counted E.RefLossCount 1 d t ∧ t.get E.RefOffsetPpb = 0x80000000 ∧
         LastFault Src.pllRefLoss (d.get E.PllRefSelect) t) ∧
     (d.get E.PllRefSelect = 0 → Completes (.pllRefLock x) s fun t => t.get E.PllState = 0) ∧
     (d.get E.PllRefSelect ≠ 0 → Completes (.pllRefLock x) s fun t => t.get E.PllState = 2 ∧ t.time.refRun = 0) ∧
     (∀ ppb, d.get E.PllState = 2 → 7 ≤ d.time.refRun →
       Completes (.refOffsetMeasurement x ppb) s fun t => t.get E.RefOffsetPpb = enc 32 ppb ∧ t.time.refRun = d.time.refRun + 1) ∧
     (∀ ppb, d.get E.PllState = 2 → d.time.refRun < 7 →
       Completes (.refOffsetMeasurement x ppb) s fun t => t.get E.RefOffsetPpb = d.get E.RefOffsetPpb ∧ t.time.refRun = d.time.refRun + 1))

/-- A silent servo puts its domain in HOLDOVER. Rests on R83. -/
def Obligations.SilentServoHoldsOver : Prop :=
  ∀ (s : State) (x i : Nat) (d : Dev), s.Runs → d = s.seen x → i < 2 → d.get (E.DomainState i) = 1 →
    (d.get (E.ServoTimeout i) ≤ (d.domainSt i).quiet →
      Completes (.servoTimeout x i) s fun t => t.get (E.DomainState i) = 2 ∧ t.get (E.Locked i) = 0 ∧ LastFault Src.domainHoldover i t) ∧
    ((d.domainSt i).quiet < d.get (E.ServoTimeout i) →
      Completes (.servoTimeout x i) s fun t => t.get (E.DomainState i) = 1 ∧ t.time = d.time)

/-- Ports come up, serve, and fall. Rests on R96, R119, R121, R122, R135. Choices or readings of the model: log entries 17 and 18. -/
def Obligations.PortsComeUpAndServe : Prop :=
  (∀ (s : State) (x p : Nat) (d : Dev), s.Runs → d = s.seen x → p < 96 →
     (d.power.forwarding = true → d.get (E.PortState p) = 1 → d.anUsed p = false →
       Completes (.signalDetect x p) s fun t => t.get (E.PortState p) = 3 ∧ (t.port p).mode = d.get (E.PortMode p)) ∧
     (d.power.forwarding = true → d.get (E.PortState p) = 1 → d.anUsed p = true →
       Completes (.signalDetect x p) s fun t => t.get (E.PortState p) = 2 ∧ t.get (E.AnStatus p) = 1) ∧
     (d.get (E.PortState p) = 2 ∨ d.get (E.PortState p) = 3 →
       Completes (.signalLoss x p) s fun t => t.get (E.PortState p) = 1 ∧ t.get (E.AnStatus p) = 0) ∧
     (∀ partner m, d.get (E.PortState p) = 2 → d.anResolve p partner = some m →
       Completes (.autonegDone x p partner) s fun t => t.get (E.PortState p) = 3 ∧ t.get (E.AnStatus p) = 2 ∧ (t.port p).mode = m) ∧
     (∀ partner, d.get (E.PortState p) = 2 → d.anResolve p partner = none →
       Completes (.autonegDone x p partner) s fun t => t.get (E.PortState p) = 2 ∧ t.get (E.AnStatus p) = 3) ∧
     (d.get (E.PortState p) = 3 →
       Completes (.trainingDone x p) s fun t => t.get (E.PortState p) = 4 ∧ t.get (E.CalState p) = 1 ∧
         t.get (E.ResolvedMode p) = (d.port p).mode ∧ Counted (E.LinkUps p) 1 d t) ∧
     (d.get (E.PortState p) = 3 → d.anUsed p = true →
       Completes (.trainingTimeout x p) s fun t => t.get (E.PortState p) = 2 ∧ t.get (E.AnStatus p) = 1)) ∧
  (∀ (s : State) (x p : Nat) (d : Dev), s.Runs → d = s.seen x → p < 96 →
     (d.get (E.PortState p) = 4 →
       Completes (.linkLoss x p) s fun t => t.get (E.PortState p) = 5 ∧ t.get (E.ResolvedMode p) = 0 ∧ (t.port p).holdX = d.now) ∧
     (d.get (E.PortState p) = 5 → d.now < d.holdEnd p →
       Completes (.linkRestore x p) s fun t => t.get (E.PortState p) = 4 ∧ t.get (E.ResolvedMode p) = (d.port p).mode) ∧
     (d.get (E.PortState p) = 5 → d.holdEnd p ≤ d.now →
       Completes (.linkDownHoldExpiry x p) s fun t => t.get (E.PortState p) = 1 ∧ t.get (E.ResolvedMode p) = 0) ∧
     (d.get (E.PortState p) = 4 →
       Completes (.remoteFault x p) s fun t => (t.port p).remote = true ∧ t.get (E.PortState p) = 4) ∧
     (d.get (E.PortState p) = 4 →
       Completes (.remoteFaultEnd x p) s fun t => (t.port p).remote = false ∧ t.get (E.PortState p) = 4) ∧
     (∀ rx tx, d.get (E.PortState p) = 4 → d.get (E.CalState p) = 1 →
       Completes (.portCalibrationDone x p true rx tx) s fun t =>
         t.get (E.CalState p) = 2 ∧ (t.port p).rxPs = rx ∧ (t.port p).txPs = tx) ∧
     (∀ rx tx, d.get (E.PortState p) = 4 → d.get (E.CalState p) = 1 →
       Completes (.portCalibrationDone x p false rx tx) s fun t => t.get (E.CalState p) = 3 ∧ LastFault Src.portCalFailed p t) ∧
     (d.get (E.VerifyStatus p) = 1 →
       Completes (.preemptVerify x p .timerEnd) s fun t => t.get (E.VerifyStatus p) = 2 ∧ Counted (E.TxVerifyFrames p) 1 d t) ∧
     (d.get (E.VerifyStatus p) = 2 →
       Completes (.preemptVerify x p .respondFrame) s fun t => t.get (E.VerifyStatus p) = 3))

/-- The dictionary is loaded at the start. Rests on R41, R419, R543 to R548. Choices or readings of the model: log entries 98 and 100. -/
def Obligations.StartLoadsTheDictionary : Prop :=
  ∀ (s : State) (x flash : Nat) (l : List CascEntry) (d : Dev), s.Runs → d = s.seen x → d.power.loaded = false →
    (∀ a b, d.casc.waiting = false → d.get E.BootSource = 3 →
      Completes (.dictionaryImageLoad x flash a b l) s fun t => t.power.loaded = true) ∧
    (∀ a b, d.casc.waiting = false → d.get E.BootSource = 1 → 134217728 ≤ flash →
      Completes (.dictionaryImageLoad x flash a b l) s fun t => t.casc.waiting = true ∧ t.power.loaded = false ∧ t.get E.FlashBytes = flash) ∧
    (∀ b d', d.casc.waiting = false → d.get E.BootSource = 0 → 134217728 ≤ flash → d.get E.CascadeRole = 0 → imageSound b = true →
      (d.store E.FlashBytes flash).imageApply (d.time.stableX != 0) b = .ok d' →
      Completes (.dictionaryImageLoad x flash (some b) none l) s fun t => t.power.loaded = true ∧ t.get E.ImageLoadStatus = 1 ∧ t.get E.DictionarySource = 1 ∧
        t.get E.ImageSlot = 0 ∧ t.get E.ImageSequence = imageSeq b) ∧
    (∀ b, d.casc.waiting = false → d.get E.BootSource = 0 → 134217728 ≤ flash → d.get E.CascadeRole = 0 → imageSound b = false →
      Completes (.dictionaryImageLoad x flash (some b) none l) s fun t => t.power.loaded = true ∧ t.get E.ImageLoadStatus = 2) ∧
    (d.casc.waiting = true → d.power.t0 + 8000000 * d.get E.CascadeBootWaitMs ≤ d.now →
      Completes (.cascadeBootWaitExpiry x) s fun t => t.casc.waiting = false ∧ t.power.loaded = true)

/-- The master of the cascade. Rests on R416 to R418, R428. Choices or readings of the model: log entries 114 and 115. -/
def Obligations.CascadeMaster : Prop :=
  ∀ (s : State) (x : Nat) (f : CascFrame) (r : Requester) (d : Dev), s.Runs → d = s.seen x → d.get E.CascadeRole = 1 →
    (f.crc = cascCrc f → cascPayloadOk f = true → f.type = 1 → d.get E.CascadeState ≠ 2 → beAt f.payload 4 8 = d.get E.UniqueId → beAt f.payload 0 1 ≠ 0xFE →
      d.get E.CascadeNodeBase = 0 → d.casc.images = [] →
      Completes (.enum x f) s fun t => t.get E.CascadeLength = beAt f.payload 0 1 + 1 ∧ t.get E.CascadeState = 2) ∧
    (f.crc = cascCrc f → cascPayloadOk f = true → f.type = 1 → beAt f.payload 4 8 ≠ d.get E.UniqueId →
      Completes (.enum x f) s fun t => t.casc.stopped = true ∧ Counted E.CascadeConflicts 1 d t ∧ t.get E.CascadeState = 3 ∧
        LastFault Src.cascadeFault (beAt f.payload 0 1) t) ∧
    (d.power.loaded = true → d.get E.CascadeState ≠ 2 → d.casc.enumX + 80000000 ≤ d.now → d.casc.stopped = false →
      Completes (.enumRetry x) s fun t => t.casc.enumX = d.now ∧ t.get E.CascadePosition = 0 ∧ ∃ g, t.out.head? = some (.cascade t.now g) ∧ g.dest = 0xFF ∧
        g.type = 1) ∧
    (f.crc = cascCrc f → cascPayloadOk f = true → f.type = 4 → beAt f.payload 0 1 ≠ 2 →
      Completes (.status x f) s fun t => Counted E.CascadeReplyCount 1 d t ∧ t.out = d.out) ∧
    (f.crc = cascCrc f → cascPayloadOk f = true → f.type = 6 →
      Completes (.dictResp x f) s fun t => Counted E.CascadeReplyCount 1 d t ∧ t.out = d.out) ∧
    (f.crc = cascCrc f → cascPayloadOk f = true → f.type = 8 →
      Completes (.testResult x f) s fun t => Counted E.CascadeReplyCount 1 d t ∧ t.out = d.out) ∧
    (∀ data, d.acceptsDom r E.CascadeSend data → d.casc.stopped = false → d.casc.busyX ≤ d.now →
      Completes (.cascadeSend x r data) s fun t => WriteAnswered r E.CascadeSend Status.ok t ∧ d.now < t.casc.busyX ∧
        ∃ g, t.out.tail.head? = some (.cascade t.now g) ∧ g.dest = beAt data 0 1 ∧ g.type = beAt data 1 1 ∧ g.payload = data.drop 3) ∧
    (∀ data, d.acceptsDom r E.CascadeSend data → d.casc.stopped = false → d.now < d.casc.busyX →
      Completes (.cascadeSend x r data) s fun t => WriteAnswered r E.CascadeSend Status.busy t ∧ t.casc = d.casc)

/-- A slave of the cascade. Rests on R414 to R420. Choices or readings of the model: log entry 114. -/
def Obligations.CascadeSlave : Prop :=
  ∀ (s : State) (x : Nat) (f : CascFrame) (d : Dev), s.Runs → d = s.seen x → d.get E.CascadeRole = 2 →
    (f.crc = cascCrc f → cascPayloadOk f = true → f.type = 1 → beAt f.payload 0 1 < 31 →
      Completes (.enum x f) s fun t => t.get E.CascadeRole = 2 ∧ t.get E.CascadePosition = beAt f.payload 0 1 + 1 ∧ t.get E.CascadeState = 2 ∧
        t.out.head? = some (.cascade t.now (cascSeal { f with payload := toBE 1 (beAt f.payload 0 1 + 1) ++ f.payload.drop 1 }))) ∧
    (f.crc ≠ cascCrc f → f.type = 1 →
      Completes (.enum x f) s fun t => Counted E.CascadeCrcErrors 1 d t ∧ t.casc = d.casc ∧ t.out = d.out) ∧
    (f.crc = cascCrc f → cascPayloadOk f = true → f.type = 2 → f.dest = d.get E.CascadePosition → f.dest < 32 → d.cascTargeted (beAt f.payload 4 4) = true →
      beAt f.payload 8 4 = 0 →
      Completes (.image x f) s fun t => t.casc.image =
        some ⟨beAt f.payload 0 1, beAt f.payload 4 4, beAt f.payload 12 4, bit f.flags 0, f.payload.drop 16⟩) ∧
    (∀ i, f.crc = cascCrc f → cascPayloadOk f = true → f.type = 3 → f.dest = d.get E.CascadePosition → f.dest < 32 → d.cascTargeted (beAt f.payload 4 4) = true →
      d.casc.image = some i → i.kind = 2 → beAt f.payload 0 1 = 2 → i.target = beAt f.payload 4 4 → i.total = beAt f.payload 8 4 → i.got.length = i.total →
      crc32c 0xFFFFFFFF i.got = beAt f.payload 12 4 →
      Completes (.imageEnd x f) s fun t => t.casc.image = none ∧ t.casc.pendImg = some { i with store := i.store || bit f.flags 0 }) ∧
    (f.crc = cascCrc f → cascPayloadOk f = true → f.type = 3 → f.dest = d.get E.CascadePosition → f.dest < 32 → d.cascTargeted (beAt f.payload 4 4) = true →
      d.casc.image = none →
      Completes (.imageEnd x f) s fun t => ∃ g, t.out.head? = some (.cascade t.now g) ∧ g.dest = 0 ∧ g.type = 4 ∧ beAt g.payload 0 1 = 2) ∧
    (∀ i, d.casc.pendImg = some i → i.kind = 1 → i.store = false → d.casc.waiting = false →
      Completes (.cascadeImageApplied x) s fun t => t.casc.pendImg = none ∧ ∃ g, t.out.head? = some (.cascade t.now g) ∧ g.dest = 0 ∧ g.type = 4 ∧
        beAt g.payload 0 1 = (if d.imageFits i.got then 1 else 2)) ∧
    (∀ k v, f.crc = cascCrc f → f.type = 5 → f.payload.length ≤ 480 → f.dest = d.get E.CascadePosition → f.dest < 32 → requestOps f.payload = some [putOp k v] →
      k ∈ [E.NodeId, E.DefaultHopLimit, E.ProstaQueue, E.SessionIdleTimeout] → d.accepts ⟨0x31, 0⟩ k v →
      Completes (.dict x f) s fun t => t.get k = v ∧ ∃ g, t.out.head? = some (.cascade t.now g) ∧ g.dest = 0 ∧ g.type = 6) ∧
    (f.crc = cascCrc f → cascPayloadOk f = true → f.type = 7 → f.dest = d.get E.CascadePosition → f.dest < 32 → d.casc.test = none →
      Completes (.test x f) s fun t => t.casc.test = some (f.payload, d.now + 8000000 * beAt f.payload 4 2) ∧
        t.casc.held = ((testLanes f.payload).map d.lanePort).filter fun p => d.getB (E.PortEnable p)) ∧
    (∀ b x0 results, d.casc.test = some (b, x0) → x0 ≤ d.now → d.casc.held = [] →
      Completes (.cascadeTestDone x results) s fun t => t.casc.test = none ∧ ∃ g, t.out.head? = some (.cascade t.now g) ∧ g.dest = 0 ∧ g.type = 8 ∧
        beAt g.payload 0 2 = beAt b 0 2) ∧
    (f.crc = cascCrc f → cascPayloadOk f = true → f.type = 9 → f.dest = d.get E.CascadePosition → f.dest < 32 → d.cascTargeted (beAt f.payload 0 4) = true →
      Completes (.reset x f) s fun t => t.power.phase = .starting ∧ t.power.loaded = false ∧ t.power.forwarding = false ∧ t.power.t0 = d.now ∧
        t.get E.WakeCause = 5) ∧
    (d.get E.CascadeState ≠ 0 →
      Completes (.cascadeClockLoss x) s fun t => t.get E.CascadeState = 0 ∧ LastFault Src.cascadeFault 0 t)

/-- The registers of BAR0 and the messages of the host function. Rests on R432 to R438, R454. Choices or readings of the model: log entries 107, 110 and 138. -/
def Obligations.HostRegisters : Prop :=
  ∀ (s : State) (x m : Nat) (d : Dev), s.Runs → d = s.seen x →
    (∀ v, v < 2 ^ 32 → Completes (.hbRegisterWrite x m 0x0C 4 v) s fun t => t.host.scratch = v) ∧
    (∀ off size v, ¬(size = 4 ∧ off % 4 = 0) → ¬(size = 8 ∧ off % 8 = 0 ∧ wideAt off = true) →
      Completes (.hbRegisterWrite x m off size v) s fun t => Counted E.HostBadAccess 1 d t) ∧
    (Completes (.hbRegisterRead x m 0x0C 4) s fun t => t.out.head? = some (.value t.now m d.host.scratch)) ∧
    (Completes (.hbRegisterRead x m 0x00 4) s fun t => t.out.head? = some (.value t.now m (0x7208 * 2 ^ 16 + d.get E.SiliconStep))) ∧
    (∀ v : BitVec 32, bit v.toNat 0 = true →
      Completes (.hbTimeLatch x m v) s fun t => t.host.time = d.stamp ∧ t.host.raw = rawOf d.now) ∧
    (∀ v : BitVec 32, bit v.toNat 0 = false →
      Completes (.hbTimeLatch x m v) s fun t => t.host.time = d.host.time ∧ t.host.raw = d.host.raw) ∧
    (Completes (.capRearm x m) s fun t => t.faults.cap = { d.faults.cap with valid := false, more := false }) ∧
    (d.faults.nLow = true → d.faults.nEnd ≤ d.now →
      Completes (.faultNRelease x m) s fun t => t.faults.nLow = false ∧ t.get E.FaultNState = 0 ∧ LastPin "FAULT_N" true t) ∧
    (d.faults.nLow = true → d.now < d.faults.nEnd →
      Completes (.faultNRelease x m) s fun t => t.faults.nLow = true ∧ t.faults.nWait = true ∧ t.out = d.out) ∧
    (∀ on, Completes (.dmaQuiesce x m on) s fun t => t.host.quiesce = on ∧ t.host.rings = d.host.rings) ∧
    (∀ width speed, width < 16 → speed < 16 →
      Completes (.pcieLinkUp x width speed) s fun t => t.host.linked = true ∧
        t.get E.LinkStatus = width * 16 + min speed (d.get E.MaxLinkSpeed) % 16) ∧
    (∀ v, d.host.due.contains v = true → d.host.d3 = false →
      Completes (.msixMessage x v) s fun t => t.host.due = d.host.due.erase v ∧
        t.out.head? = some (.msix t.now v (d.host.vecs.getD v {}).addr (d.host.vecs.getD v {}).data)) ∧
    (∀ v e, (d.host.hold.find? fun h => h.1 == v) = some e → e.2 + d.holdoffX v ≤ d.now → d.host.d3 = false →
      Completes (.msixHoldoffExpiry x v) s fun t => t.host.hold = d.host.hold.erase e ∧
        t.out.head? = some (.msix t.now v (d.host.vecs.getD v {}).addr (d.host.vecs.getD v {}).data)) ∧
    (∀ v e, (d.host.hold.find? fun h => h.1 == v) = some e → d.now < e.2 + d.holdoffX v →
      Completes (.msixHoldoffExpiry x v) s fun t => t.host.hold = d.host.hold ∧ t.out = d.out)

/-- Mailboxes, semaphores and doorbells. Rests on R440, R442 to R445. Choices or readings of the model: log entries 109 and 153. -/
def Obligations.MailboxesSemaphoresAndDoorbells : Prop :=
  ∀ (s : State) (x m c : Nat) (d : Dev), s.Runs → d = s.seen x →
    (∀ (v : BitVec 32) a, d.mboxEnd c m = some a → d.host.resetAt.get? (d.mboxOwner c (!a)) ≠ some (coreClock d.now) → ((d.mboxCh c).out a).length < 8 →
      Completes (.mbxTx x m c v) s fun t => (t.mboxCh c).out a = (d.mboxCh c).out a ++ [⟨v.toNat, m, d.epoch m⟩]) ∧
    (∀ (v : BitVec 32) a, d.mboxEnd c m = some a → d.host.resetAt.get? (d.mboxOwner c (!a)) = some (coreClock d.now) →
      Completes (.mbxTx x m c v) s fun t => (t.mboxCh c).out a = (d.mboxCh c).out a ∧ ((t.mboxCh c).side a).dropped = true) ∧
    (∀ (v : BitVec 32) a, d.mboxEnd c m = some a → d.host.resetAt.get? (d.mboxOwner c (!a)) ≠ some (coreClock d.now) → 8 ≤ ((d.mboxCh c).out a).length →
      Completes (.mbxTx x m c v) s fun t => (t.mboxCh c).out a = (d.mboxCh c).out a ∧ ((t.mboxCh c).side a).overflow = true ∧
        Counted E.MailboxOverflows 1 d t) ∧
    (∀ v : BitVec 32, d.mboxEnd c m = none → Completes (.mbxTx x m c v) s fun t => t.host.mbox = d.host.mbox ∧ Counted E.MailboxForeign 1 d t) ∧
    (∀ a w q, d.mboxEnd c m = some a → (d.mboxCh c).out (!a) = w :: q →
      Completes (.mbxRxData x m c) s fun t => (t.mboxCh c).out (!a) = q ∧ t.out.head? = some (.value t.now m w.data)) ∧
    (∀ a w q, d.mboxEnd c m = some a → (d.mboxCh c).out (!a) = w :: q →
      Completes (.mbxRxStampData x m c) s fun t => (t.mboxCh c).out (!a) = q ∧
        t.out.head? = some (.value t.now m (w.data * 2 ^ 32 + (2 ^ 31 + w.epoch * 2 ^ 8 + w.sender)))) ∧
    (∀ a, d.mboxEnd c m = some a → (d.mboxCh c).out (!a) = [] →
      Completes (.mbxRxData x m c) s fun t => t.host.mbox = d.host.mbox ∧ t.out.head? = some (.value t.now m 0)) ∧
    (∀ k n l, (d.sem k).holder = none → s.semRivals x m k = n :: l →
      Completes (.hbSemAcquire x m k) s fun t => t.sem k = d.sem k ∧
        ∃ w ∈ n :: l, t.out.head? = some (.value t.now m (2 ^ 31 + d.epoch w * 2 ^ 8 + w))) ∧
    (∀ k, (d.sem k).holder = none → s.semRivals x m k = [] →
      Completes (.hbSemAcquire x m k) s fun t => (t.sem k).holder = some (m, d.epoch m) ∧
        t.out.head? = some (.value t.now m (2 ^ 30 + (d.sem k).broken.toNat * 2 ^ 29 + d.epoch m * 2 ^ 8 + m))) ∧
    (∀ k h e, (d.sem k).holder = some (h, e) →
      Completes (.hbSemAcquire x m k) s fun t => t.sem k = d.sem k ∧
        t.out.head? = some (.value t.now m ((if h = m then 3 else 2) * 2 ^ 30 + e * 2 ^ 8 + h))) ∧
    (∀ k (v : BitVec 32) e, (d.sem k).holder = some (m, e) → v.toNat % 2 = 1 →
      Completes (.hbSemRelease x m k v) s fun t => (t.sem k).holder = none ∧ (t.sem k).broken = (d.sem k).broken) ∧
    (∀ k (v : BitVec 32), (d.sem k).holder.map (·.1) ≠ some m → v.toNat % 2 = 1 →
      Completes (.hbSemRelease x m k v) s fun t => t.sem k = d.sem k ∧ Counted E.SemaphoreForeignReleases 1 d t) ∧
    (∀ v : BitVec 64, Completes (.hbDbSet x 0x10 v) s fun t => t.host.dbPend = d.host.dbPend ||| v.toNat % 2 ^ 32) ∧
    (∀ v : BitVec 64, 1 ≤ m → m ≤ 4 →
      Completes (.hbDbSet x m v) s fun t => t.host.dbPend = d.host.dbPend ||| v.toNat / 2 ^ 32 * 2 ^ 32) ∧
    (∀ v : BitVec 64, Completes (.hbDbClr x 0x10 v) s fun t =>
        t.host.dbPend = d.host.dbPend &&& ((2 ^ 64 - 1 - v.toNat / 2 ^ 32 * 2 ^ 32) ||| if d.host.dbClk = coreClock d.now then d.host.dbSet else 0)) ∧
    (∀ v : BitVec 64, 1 ≤ m → m ≤ 4 →
      Completes (.hbDbClr x m v) s fun t =>
        t.host.dbPend = d.host.dbPend &&& ((2 ^ 64 - 1 - v.toNat % 2 ^ 32) ||| if d.host.dbClk = coreClock d.now then d.host.dbSet else 0))

/-- The rings of the host. Rests on R447 to R453. Choices or readings of the model: log entries 106, 111, 112 and 153. -/
def Obligations.HostRings : Prop :=
  ∀ (s : State) (x r : Nat) (d : Dev), s.Runs → d = s.seen x →
    (∀ (v : BitVec 32) n, n = setBit v.toNat 31 true → (d.ring r).enable = false → 6 ≤ fld n 27 24 → fld n 27 24 ≤ 15 →
      Completes (.ringEnable x r v) s fun t =>
        t.ring r = { d.ring r with log2 := fld n 27 24, units := fld n 5 0, enable := true, head := 0, phase := true }) ∧
    (∀ (v : BitVec 32) n, n = setBit v.toNat 31 true → (d.ring r).enable = false → fld n 27 24 < 6 →
      Completes (.ringEnable x r v) s fun t => (t.ring r).enable = false) ∧
    (Completes (.ringDisable x r) s fun t => t.ring r = { d.ring r with enable := false, waits := false }) ∧
    (∀ v : BitVec 32, Completes (.ringTailWrite x r v) s fun t => t.ring r = { d.ring r with tail := fld v.toNat 14 0 }) ∧
    (∀ e l f, r < 8 → d.queue (96 * 16 + r) = e :: l → d.frame? e.frame = some f → f.tail = 1 →
      d.puntPick.1 = some r →
      Completes (.puntRecordWrite x r) s fun t => t.queue (96 * 16 + r) = l ∧ Counted (E.PuntRecords r) 1 d t ∧
        (t.ring r).head = (d.ring r).step ((d.ring r).need (d.puntRecord 96 e r).length)) ∧
    (∀ e l f, r < 8 → d.queue (96 * 16 + r) = e :: l → d.frame? e.frame = some f → f.tail = 2 →
      Completes (.puntRecordWrite x r) s fun t => t.queue (96 * 16 + r) = l ∧ t.ring r = d.ring r ∧ t.out = d.out ∧ Counted E.PuntBadFrames 1 d t) ∧
    (∀ e l f, r < 8 → d.queue (96 * 16 + r) = e :: l → d.frame? e.frame = some f → f.tail = 1 → (d.ring r).enable = true → (d.ring r).waits = false →
      d.ringRoom r (d.puntRecord 96 e r).length = false →
      Completes (.puntRecordWrite x r) s fun t => t.queue (96 * 16 + r) = e :: l ∧ Counted (E.PuntNoBuffer r) 1 d t ∧ (t.ring r).noBuf = true) ∧
    (∀ (v : BitVec 256) b, r < 8 → (d.ring (8 + r)).enable = true → (d.ring (8 + r)).avail ≠ 0 → d.host.quiesce = false → d.host.d3 = false →
      d.power.forwarding = true → bit v.toNat 103 = false → injectRefused v.toNat = false → fld v.toNat 79 64 ≠ 0 →
      Completes (.injectDescriptor x r v (some b)) s fun t => Counted (E.InjectFrames r) 1 d t ∧
        (t.ring (8 + r)).head = (d.ring (8 + r)).step 1) ∧
    (∀ (v : BitVec 256), r < 8 → (d.ring (8 + r)).enable = true → (d.ring (8 + r)).avail ≠ 0 → d.host.quiesce = false → d.host.d3 = false →
      d.power.forwarding = true → bit v.toNat 103 = false → injectRefused v.toNat = false → fld v.toNat 79 64 ≠ 0 →
      Completes (.injectDescriptor x r v none) s fun t => (t.ring (8 + r)).error = true ∧ (t.ring (8 + r)).enable = false ∧
        t.get (E.InjectFrames r) = d.get (E.InjectFrames r) ∧ LastFault Src.injectReadError r t) ∧
    (∀ (v : BitVec 256) b, r < 8 → (d.ring (8 + r)).enable = true → (d.ring (8 + r)).avail ≠ 0 → d.host.quiesce = false → d.host.d3 = false →
      d.power.forwarding = true → bit v.toNat 103 = false → injectRefused v.toNat = true →
      Completes (.injectDescriptor x r v b) s fun t => t.get (E.InjectFrames r) = d.get (E.InjectFrames r) ∧ Counted (E.InjectErrors r) 1 d t ∧
        (t.ring (8 + r)).head = (d.ring (8 + r)).step 1 ∧
        t.out.head? = some (.host t.now ((d.ring (8 + r)).base + 32 * (d.ring (8 + r)).head + 24) (toLE 8 (2 ^ 63 + Status.invalidValue * 2 ^ 48)))) ∧
    (∀ e, d.ringRoom 16 1 = true → (d.notifyTake ⟨0x10, 0⟩).1 = some e →
      Completes (.notifyRingWrite x) s fun t => Counted E.NotifyRecords 1 d t ∧ (t.ring 16).head = (d.ring 16).step 1 ∧
        t.out.head? = some (.host t.now ((d.ring 16).base + 64 * (d.ring 16).head) (notifySlot (d.ring 16).phase (notifyRecord e))))

/-- The host reads HBM through BAR2 and writes its own region, and no other byte changes. Rests on R455, R480. Choices or readings of the model: log entries 68,
112 and 134. -/
def Obligations.HostReachesHbm : Prop :=
  ∀ (s : State) (x off : Nat) (d : Dev), s.Runs → d = s.seen x →
    (∀ n, d.bar2Ok off n [1, 2, 3, 4] = true → 3 ≤ hbmRegion off →
      Completes (.bar2Read x off n .clean) s fun t => t.out.head? = some (.bytes t.now (d.hbmBytes off n)) ∧ t.hbm = d.hbm) ∧
    (∀ n, d.bar2Ok off n [1, 2, 3, 4] = true → 3 ≤ hbmRegion off →
      Completes (.bar2Read x off n .corrected) s fun t => t.out.head? = some (.bytes t.now (d.hbmBytes off n)) ∧ t.hbm.mem = d.hbm.mem ∧
        Counted E.HbmCorrected 1 d t) ∧
    (∀ n, d.bar2Ok off n [1, 2, 3, 4] = true →
      Completes (.bar2Read x off n .uncorrected) s fun t => t.out.head? = some (.poisoned t.now) ∧ LastFault Src.bar2Poisoned off t) ∧
    (∀ n ecc, d.bar2Ok off n [1, 2, 3, 4] = false →
      Completes (.bar2Read x off n ecc) s fun t => t.out.head? = some (.bytes t.now (List.replicate n 255)) ∧ Counted E.Bar2Errors 1 d t ∧ t.hbm = d.hbm) ∧
    (∀ b, Memory.wf d.hbm.mem = true → d.bar2Ok off b.length [4] = true →
      Completes (.bar2Write x off b) s fun t => t.hbmBytes off b.length = b ∧ Memory.wf t.hbm.mem = true ∧
        ∀ a, a < off ∨ off + b.length ≤ a → t.hbmBytes a 1 = d.hbmBytes a 1) ∧
    (∀ b, d.bar2Ok off b.length [4] = false →
      Completes (.bar2Write x off b) s fun t => t.hbm = d.hbm ∧ Counted E.Bar2Errors 1 d t)

/-- The resets and their keys. Rests on R353, R431, R435, R436. Choices or readings of the model: log entries 76 and 78. -/
def Obligations.ResetsAndKeys : Prop :=
  ∀ (s : State) (x : Nat) (d : Dev), s.Runs → d = s.seen x →
    (∀ m, Completes (.deviceReset x m 0xA5) s fun t => t.power.phase = .starting ∧ t.power.forwarding = false ∧ t.get E.WakeCause = 5 ∧
      t.host.rings = [] ∧ t.net.frames = [] ∧ t.hbm.mem = [] ∧ t.ports = [] ∧ t.power.straps = d.power.straps) ∧
    (∀ m, d.get E.ActiveBank ≠ 0xFF →
      Completes (.mgmtReset x m 0xA5) s fun t => (∀ k, 1 ≤ k → k ≤ 4 → t.epoch k = (d.epoch k + 1) % 256) ∧ t.get E.FirmwareState = 2 ∧
        t.wd.mgmtArmed = true ∧ t.wd.mgmtKick = d.now) ∧
    (∀ m, d.get E.ActiveBank = 0xFF →
      Completes (.mgmtReset x m 0xA5) s fun t => (∀ k, 1 ≤ k → k ≤ 4 → t.epoch k = (d.epoch k + 1) % 256) ∧
        t.get E.FirmwareState = d.get E.FirmwareState) ∧
    (∀ m, Completes (.tickCoreReset x m 0xA5) s fun t => (∀ k, k < 8 → t.epoch (8 + k) = (d.epoch (8 + k) + 1) % 256) ∧
      ∀ e ∈ t.yard.loopWords, 4 ≤ e.1 / 512) ∧
    (∀ m, d.get E.YardSafe = 0 →
      Completes (.yardSafeReq x m 0xA5) s fun t => t.get E.YardSafe = 1 ∧ t.get E.YardSafeCause = 1 ∧ Counted E.YardSafeEntries 1 d t) ∧
    (∀ m, Completes (.yardSafeRel x m 0xA5) s fun t => t.get E.YardSafe = d.get E.YardSafe ∧ t.yard.release = (d.get E.YardSafe == 1)) ∧
    (∀ m, Completes (.hostReset x m 0xA5) s fun t => t.host.scratch = 0 ∧ t.host.rings = [] ∧ t.epoch 0x10 = (d.epoch 0x10 + 1) % 256 ∧
      Counted E.HostResets 1 d t) ∧
    (Completes (.flr x) s fun t => t.host.scratch = 0 ∧ t.host.rings = [] ∧ t.epoch 0x10 = (d.epoch 0x10 + 1) % 256 ∧ t.host.linked = d.host.linked ∧
      Counted E.HostResets 1 d t) ∧
    (Completes (.pePerst x) s fun t => t.host.rings = [] ∧ t.host.linked = false ∧ t.get E.LinkStatus = 0 ∧
      t.host.subsys = d.get E.SubsystemId * 2 ^ 16 + d.get E.SubsystemVendorId ∧ Counted E.HostResets 1 d t) ∧
    (Completes (.hotReset x) s fun t => t.host.rings = [] ∧ t.host.linked = false ∧ t.get E.LinkStatus = 0 ∧ Counted E.HostResets 1 d t) ∧
    (Completes (.d3hotEntry x) s fun t => t.host = { d.host with d3 := true }) ∧
    (Completes (.d0Return x) s fun t => t.host = { d.host with d3 := false }) ∧
    (∀ m key, m ≠ 0x10 → key ≠ 0xA5 →
      Completes (.deviceReset x m key) s fun t => t = d) ∧
    (∀ m key, m ≠ 0x10 → key ≠ 0xA5 →
      Completes (.mgmtReset x m key) s fun t => t = d)

/-- The tick boundary and what follows from it. Rests on R19, R92, R204, R268, R291, R367. Choices or readings of the model: log entry 123. -/
def Obligations.TickBoundaryAndItsDuties : Prop :=
  ∀ (s : State) (x p : Nat) (d : Dev), s.Runs → d = s.seen x → p < 96 →
    (d.outTime < (d.time.nextB : Int) * 65536 → Completes (.tickBoundary x) s fun t => t = d) ∧
    ((d.time.nextB : Int) * 65536 ≤ d.outTime → d.time.acquire = false → d.time.outReacq = false → (∀ b ∈ d.commit.batches, b.tick ≠ d.nextTick) →
      Completes (.tickBoundary x) s fun t => t.time.tickRun = true ∧ t.time.tick = d.nextTick ∧ t.time.prevTick = d.time.tick ∧ t.time.boundX = d.now ∧
        t.time.nextB = d.time.nextB + d.period ∧ t.net.bounds = d.net.bounds + 1 ∧ t.yard.next = []) ∧
    ((d.time.nextB : Int) * 65536 ≤ d.outTime → d.time.acquire = false → d.time.outReacq = false → (∀ b ∈ d.commit.batches, b.tick ≠ d.nextTick) →
      d.power.phase = .starting → d.power.loaded = true → d.time.tickRun = false →
      Completes (.tickBoundary x) s fun t => t.power.phase = .running ∧ t.power.forwarding = true) ∧
    (∀ e, d.net.residue = [e] → e.tick + d.get E.ResidueLimitTicks ≤ d.tickNow → e.copy.entry.target = none → (d.frame? e.copy.entry.frame).isSome = true →
      d.admitsTo (e.copy.port * 16 + e.copy.queue) e.copy.entry.colour = false →
      Completes (.residueLimitExpiry x) s fun t => t.net.residue = [] ∧
        fld (t.row T.QueueDrops e.key.1) 127 64 = (fld (d.row T.QueueDrops e.key.1) 127 64 + 1) % 2 ^ 64) ∧
    ((∀ e ∈ d.net.residue, d.tickNow < e.tick + d.get E.ResidueLimitTicks) → Completes (.residueLimitExpiry x) s fun t => t = d) ∧
    (∀ n, (d.net.recs.getD n {}).takeAny = false →
      (d.net.recs.getD n {}).last + Row.RecoveryFunctions.resetTicks (d.row T.RecoveryFunctions n) ≤ d.net.bounds →
      Completes (.recoveryResetExpiry x n) s fun t => (t.net.recs.getD n {}).takeAny = true ∧ (t.net.recs.getD n {}).last = d.net.bounds ∧
        fld (t.row T.RecoveryCounters n) 63 0 = (fld (d.row T.RecoveryCounters n) 63 0 + 1) % 2 ^ 64) ∧
    (∀ q e l, q < 8 → d.net.tx.get? p = none → d.queue (p * 16 + q) = e :: l → bit (d.gates p) q = false →
      Completes (.weaveWindowOpen x p) s fun t => t.queue (p * 16 + q) = { e with tag := none } :: l) ∧
    (∀ q e l, q < 8 → d.net.tx.get? p = none → d.queue (p * 16 + q) = e :: l → bit (d.gates p) q = true →
      Completes (.weaveWindowOpen x p) s fun t => t.queue (p * 16 + q) = e :: l) ∧
    (∀ tx, d.net.tx.get? p = some tx → bit (d.gates p) (tx.row % 16) = false → tx.entry.dhop = none → d.canPreempt p tx = true →
      Completes (.weaveWindowOpen x p) s fun t => t.net.tx.get? p = none ∧ Counted (E.TxFragments p) 1 d t ∧ Counted (E.TxHolds p) 1 d t) ∧
    (∀ g r, g < 16 → r = d.row T.SampleGroups g → Row.SampleGroups.valid r = 1 → d.time.tickRun = true → d.yard.built.get? g ≠ some d.time.tick →
      ((d.time.tick : Int) - Row.SampleGroups.phaseTicks r) % (max 1 (Row.SampleGroups.periodTicks r) : Nat) = 0 →
      (d.time.boundT : Int) + d.buildStart r d.ppRan d.ppRow ≤ d.outNs → (d.dom (E.TemplateImage (Row.SampleGroups.template r))).isEmpty = false →
      Completes (.sampleGroupBuild x g) s fun t => t.yard.built.get? g = some d.time.tick ∧ t.yard.groupN.getD g 0 = d.yard.groupN.getD g 0 + 1 ∧
        fld (t.row T.SampleGroupCounters g) 127 64 = (fld (d.row T.SampleGroupCounters g) 127 64 + 1) % 2 ^ 64) ∧
    (∀ g r, g < 16 → r = d.row T.SampleGroups g → Row.SampleGroups.valid r = 0 → Completes (.sampleGroupBuild x g) s fun t => t = d)

/-- Shed mode, stabled mode, thermal limits and the core voltage. Rests on R552, R554, R555, R558 to R560. Choices or readings of the model: log entries 15, 36
and 158. -/
def Obligations.PowerAndThermal : Prop :=
  (∀ (s : State) (x : Nat) (d : Dev), s.Runs → d = s.seen x →
     (d.get E.PowerMode = 2 → Completes (.shedRestoreDone x) s fun t => t.get E.PowerMode = 0 ∧ t.get E.ShedCause = 0) ∧
     (d.get E.PowerMode ≠ 2 → Completes (.shedRestoreDone x) s fun t => t = d) ∧
     (∀ t0, d.power.stabling = some t0 → d.allWordsSafe = true ∨ t0 + 8000000 * d.get E.StabledRampLimitMs ≤ d.now →
       Completes (.stabledEntry x) s fun t => t.power.phase = .stabled ∧ t.power.forwarding = false ∧ t.time.stableX = d.now ∧ t.yard.busy = [] ∧
         t.get (E.DomainState 0) = 2 ∧ t.get (E.DomainState 1) = 2 ∧ Counted E.StabledEntries 1 d t) ∧
     (∀ t0, d.power.stabling = some t0 → d.allWordsSafe = false → d.now < t0 + 8000000 * d.get E.StabledRampLimitMs →
       Completes (.stabledEntry x) s fun t => t = d) ∧
     (∀ temps k tj, hottest (temps.take 16) = (k, tj) → sgn 32 (d.get E.ThrottleThresholdC) + 3 < tj → d.get E.ThrottleLevel = 0 →
       tj < sgn 32 (d.get E.TripTempC) →
       Completes (.thermalSample x temps) s fun t => t.get E.ThrottleLevel = 2 ∧ Counted E.ThrottleEntries 1 d t ∧ t.power.tj = tj ∧
         t.get E.PowerMode = d.get E.PowerMode ∧ LastFault Src.thermalThrottle k t) ∧
     (∀ temps k tj, hottest (temps.take 16) = (k, tj) → tj ≤ sgn 32 (d.get E.ThrottleThresholdC) - 3 → tj < sgn 32 (d.get E.TripTempC) →
       Completes (.thermalSample x temps) s fun t => t.get E.ThrottleLevel = 0 ∧ t.get E.ThrottleEntries = d.get E.ThrottleEntries ∧ t.faults = d.faults) ∧
     (∀ temps k tj, hottest (temps.take 16) = (k, tj) → sgn 32 (d.get E.TripTempC) ≤ tj → d.power.tj < sgn 32 (d.get E.TripTempC) → d.get E.PowerMode = 0 →
       Completes (.thermalSample x temps) s fun t => t.get E.PowerMode = 1 ∧ t.get E.ShedCause = 2 ∧ t.power.redirect = true)) ∧
  (∀ (s : State) (x : Nat) (d : Dev), s.Runs → d = s.seen x →
     (∀ c, d.power.cool = some c → d.get E.PowerMode = 1 → d.get E.ShedCause = 2 → d.getB E.ShedAutoExit = true → c + 80000000000 ≤ d.now →
       Completes (.shedAutoExit x) s fun t => t.get E.PowerMode = 2) ∧
     (∀ corr mv, d.getB E.AvsEnable = true →
       Completes (.avsUpdate x corr mv true) s fun t => t.get E.AvsTargetMv = d.avsTarget corr ∧ t.get E.AvsMeasuredMv = mv ∧ t.power.avsFailed = none) ∧
     (∀ corr mv, d.getB E.AvsEnable = true →
       Completes (.avsUpdate x corr mv false) s fun t => t.get E.AvsTargetMv = d.get E.AvsTargetMv ∧ t.power.avsFailed = some (d.avsTarget corr) ∧
         Counted E.AvsErrors 1 d t) ∧
     (∀ v mv, d.getB E.AvsEnable = true → d.power.avsFailed = some v →
       Completes (.avsRetry x mv true) s fun t => t.get E.AvsTargetMv = v ∧ t.get E.AvsMeasuredMv = mv ∧ t.power.avsFailed = none))

/-- Frames arrive. Rests on R125, R127, R138, R591. Choices or readings of the model: log entry 40. -/
def Obligations.FramesArrive : Prop :=
  ∀ (s : State) (x p : Nat) (d : Dev), s.Runs → d = s.seen x → p < 96 →
    (∀ pl b frag hold, d.portUp p = true → 60 ≤ b.length →
      Completes (.frameIngress x p pl b frag hold) s fun t => t.net.nextId = d.net.nextId + 1 ∧
        ∃ f, t.frame? d.net.nextId = some f ∧ f.bytes = b ∧ f.port = p ∧ f.x = d.ingressX p d.now ∧ f.tail = 0 ∧ f.frag = frag) ∧
    (∀ pl b frag hold, d.portUp p = true → b.length < 60 →
      Completes (.frameIngress x p pl b frag hold) s fun t => t.net = d.net ∧ Counted (E.RxUndersize p) 1 d t) ∧
    (∀ pl b frag hold, d.portUp p = false → Completes (.frameIngress x p pl b frag hold) s fun t => t = d) ∧
    (∀ pl b frag hold, d.portUp p = true → 60 ≤ b.length → beAt b 12 2 = 0x8808 →
      Completes (.frameIngress x p pl b frag hold) s fun t => Counted (E.RxMacControl p) 1 d t ∧ t.net.copies = d.net.copies ∧ t.net.queues = d.net.queues ∧
        t.net.stage = d.net.stage) ∧
    (∀ id f frag n, d.arriving p frag = some (id, f) → f.prp = none →
      f.len ≤ d.get (E.MaxFrameBytes p) + (parse (d.get E.ExtraTpid) f.bytes).tagBytes →
      Completes (.frameTailArrival x p frag true ⟨false, n⟩) s fun t => Counted (E.RxFrames p) 1 d t ∧ Counted (E.RxLpi p) n.lpi d t ∧
        t.get (E.RxFcsErrors p) = d.get (E.RxFcsErrors p) ∧ (∀ g, t.frame? id = some g → g.tail = 1)) ∧
    (∀ id f frag n, d.arriving p frag = some (id, f) → f.len ≤ d.get (E.MaxFrameBytes p) + (parse (d.get E.ExtraTpid) f.bytes).tagBytes →
      Completes (.frameTailArrival x p frag false ⟨false, n⟩) s fun t => Counted (E.RxFcsErrors p) 1 d t ∧ t.get (E.RxFrames p) = d.get (E.RxFrames p) ∧
        (∀ g, t.frame? id = some g → g.tail = 2)) ∧
    (∀ ok ended, d.arriving p false = none → Completes (.frameTailArrival x p false ok { ended }) s fun t => t = d) ∧
    (∀ ok ended, d.arriving p true = none → Completes (.frameTailArrival x p true ok { ended }) s fun t => Counted (E.RxAssemblyErrors p) 1 d t)

/-- Frames leave. Rests on R249, R254, R266, R278, R285, R286, R297. Choices or readings of the model: log entries 26, 30 and 54. -/
def Obligations.FramesLeave : Prop :=
  ∀ (s : State) (x p q : Nat) (d : Dev), s.Runs → d = s.seen x → p < 96 → q < 16 →
    (∀ pl c f, d.net.copies.getD pl [] = [c] → c.port = p → c.queue = q → d.frame? c.entry.frame = some f → f.tail ≠ 2 → d.downForAdmission p = false →
      d.entryLen p c.entry ≤ d.get (E.MaxFrameBytes p) + (parse (d.get E.ExtraTpid) (d.entryBytes p c.entry)).tagBytes →
      (d.asOf f.x).isDhop p q = false →
      d.net.residue = [] → c.entry.target = none → d.getB (E.CutThrough p) = false → d.admitsTo (p * 16 + q) c.entry.colour = true →
      Completes (.copyAdmission x pl) s fun t => t.net.copies.getD pl [] = [] ∧
        t.queue (p * 16 + q) = d.queue (p * 16 + q) ++ [{ c.entry with part := if d.spilling (p * 16 + q) then 1 else 0 }]) ∧
    (∀ pl c f, d.net.copies.getD pl [] = [c] → c.port = p → c.queue = q → d.frame? c.entry.frame = some f → f.tail ≠ 2 → d.downForAdmission p = true →
      Completes (.copyAdmission x pl) s fun t => t.net.copies.getD pl [] = [] ∧ t.net.queues = d.net.queues ∧
        fld (t.row T.PortBufferCounters p) 127 64 = (fld (d.row T.PortBufferCounters p) 127 64 + 1) % 2 ^ 64) ∧
    (∀ e f, q < 8 → d.canSend p = true → d.net.tx.get? p = none → (∀ k, k < 16 → k ≠ q → d.queue (p * 16 + k) = []) → d.queue (p * 16 + q) = [e] →
      e.dhop = none → e.target = none → e.rest = none → d.frame? e.frame = some f → f.tail = 1 → d.offers p q 4 = true →
      Completes (.egressSelect x p .clean) s fun t => t.queue (p * 16 + q) = [] ∧
        (t.net.tx.get? p).map (fun k => (k.row, k.entry.frame, k.x, k.len, k.cut)) = some (p * 16 + q, e.frame, d.now, d.entryLen p e, e.cut)) ∧
    (d.canSend p = false → ∀ ecc, Completes (.egressSelect x p ecc) s fun t => t = d) ∧
    (∀ k f, d.net.tx.get? p = some k → k.total * 64000 ≤ (d.now - k.x) * d.portRate p → d.frame? k.entry.frame = some f → f.tail = 1 →
      Completes (.transmitComplete x p .clean) s fun t => t.net.tx.get? p = none ∧ Counted (E.TxFrames p) 1 d t ∧
        ∃ b, t.out.head? = some (.frame t.now p b true)) ∧
    (∀ k, d.net.tx.get? p = some k → (d.now - k.x) * d.portRate p < k.total * 64000 →
      ∀ ecc, Completes (.transmitComplete x p ecc) s fun t => t = d) ∧
    (∀ n, Completes (.cellRelease x n) s fun t => t.net = { d.net with releasing := d.net.releasing - n }) ∧
    (∀ e f, 12 ≤ q → d.canSend p = true → d.get (E.PortState p) ≠ 5 → d.net.tx.get? p = none → (∀ k, k < 16 → k ≠ q → d.queue (p * 16 + k) = []) →
      d.queue (p * 16 + q) = [e] → e.rest = none → d.dhopNext p = some (p * 16 + q, 0, e) → d.frame? e.frame = some f → f.tail = 1 →
      d.dhopIsLate p e = false →
      Completes (.dhopLaunch x p) s fun t => t.queue (p * 16 + q) = [] ∧
        (t.net.tx.get? p).map (fun k => (k.row, k.entry.frame, k.x)) = some (p * 16 + q, e.frame, d.now)) ∧
    (∀ e f, 12 ≤ q → d.canSend p = true → d.get (E.PortState p) ≠ 5 → d.net.tx.get? p = none → (∀ k, k < 16 → k ≠ q → d.queue (p * 16 + k) = []) →
      d.queue (p * 16 + q) = [e] → e.rest = none → d.dhopNext p = some (p * 16 + q, 0, e) → d.frame? e.frame = some f → f.tail = 1 →
      d.dhopIsLate p e = true → d.get (E.DhopLateAction p) = 0 →
      Completes (.dhopLaunch x p) s fun t => t.queue (p * 16 + q) = [] ∧ t.net.tx.get? p = none ∧ Counted (E.DhopLate p) 1 d t) ∧
    (∀ e f v, 12 ≤ q → d.canSend p = true → d.get (E.PortState p) ≠ 5 → d.net.tx.get? p = none → (∀ k, k < 16 → k ≠ q → d.queue (p * 16 + k) = []) →
      d.queue (p * 16 + q) = [e] → e.rest = none → e.dhop = none → e.target = some v → 0 ≤ d.lateBy p e → d.frame? e.frame = some f → f.tail = 1 →
      d.launchIsLate p (p * 16 + q) e = false → d.offers p q 2 = true →
      Completes (.launchTarget x p q) s fun t => t.queue (p * 16 + q) = [] ∧
        (t.net.tx.get? p).map (fun k => (k.row, k.entry.frame, k.x)) = some (p * 16 + q, e.frame, d.now))

/-- Frames take side ways: spill, recirculation, samples, the paddock. Rests on R124, R262, R263, R272, R383. Choices or readings of the model: log entries 43
and 151. -/
def Obligations.FramesTakeSideWays : Prop :=
  ∀ (s : State) (x r pl : Nat) (d : Dev), s.Runs → d = s.seen x →
    (∀ i e f, d.hbmUp = true → firstPart 1 (d.queue r) = some (i, e) → d.frame? e.frame = some f → f.tail ≠ 0 →
      d.spillFits r (cdiv f.len 256) = true →
      Completes (.spillWrite x r) s fun t =>
        t.queue r = (d.queue r).take i ++ { e with part := 2, counted := false } :: (d.queue r).drop (i + 1)) ∧
    (∀ i e f, d.hbmUp = true → firstPart 1 (d.queue r) = some (i, e) → d.frame? e.frame = some f → f.tail ≠ 0 → e.counted = false →
      d.spillFits r (cdiv f.len 256) = false →
      Completes (.spillWrite x r) s fun t => Counted E.SpillNoSpace 1 d t ∧
        t.queue r = (d.queue r).take i ++ { e with counted := true } :: (d.queue r).drop (i + 1)) ∧
    (∀ i e, d.hbmUp = true → d.headPart r < Row.QueueConfig.spillOn (d.row T.QueueConfig r) → firstPart 2 (d.queue r) = some (i, e) →
      Completes (.spillReadback x r) s fun t => t.queue r = (d.queue r).take i ++ { e with part := 0 } :: (d.queue r).drop (i + 1)) ∧
    (d.hbmUp = false → Completes (.spillReadback x r) s fun t => t = d) ∧
    (∀ id f, d.net.recirc = [id] → d.frame? id = some f → f.pl = pl →
      Completes (.recirculation x pl) s fun t => t.net.recirc = [] ∧ Counted (E.RxFrames 99) 1 d t) ∧
    (d.net.recirc = [] → Completes (.recirculation x pl) s fun t => t = d) ∧
    (∀ k v, d.net.samples = [v] → v.pl = pl → v.sampler = k → v.ready = true → Row.Samplers.target (d.row T.Samplers k) = 1 →
      Completes (.samplerRecord x pl k) s fun t => t.net.samples = [] ∧ (if (d.free 1).1 = 1 then Counted (E.SamplesLost k) 1 d t
        else t.out.head? = some (.firmware t.now (sampleMeta v (decide (Row.Samplers.trunc (d.row T.Samplers k) < v.bytes.length)))
          (v.bytes.take (Row.Samplers.trunc (d.row T.Samplers k)))))) ∧
    (∀ k v ring, d.net.samples = [v] → v.pl = pl → v.sampler = k → v.ready = true → Row.Samplers.target (d.row T.Samplers k) ≠ 1 →
      Row.Samplers.ringFromSpread (d.row T.Samplers k) ≠ 1 → ring = Row.Samplers.ring (d.row T.Samplers k) → (d.ring ring).enable = false →
      k < 16 →
      Completes (.samplerRecord x pl k) s fun t => t.net.samples = [] ∧ Counted (E.SamplesLost k) 1 d t) ∧
    (∀ id f, d.net.reentry = [id] → d.frame? id = some f → f.pl = pl → f.tail = 1 →
      Completes (.paddockReentry x pl) s fun t => Counted (E.RxFrames 100) 1 d t) ∧
    (∀ id f, d.net.reentry = [id] → d.frame? id = some f → f.pl = pl → f.tail = 2 →
      Completes (.paddockReentry x pl) s fun t => t.net.reentry = [] ∧ t.get (E.RxFrames 100) = d.get (E.RxFrames 100))

/-- Action words that work on the context of a frame. Rests on R224, R226 to R229, R235 to R237, R271, R272. Choices or readings of the model: log entry 41. -/
def Obligations.ActionWordsOnTheContext : Prop :=
  ∀ (s : State) (pl : Nat) (w : BitVec 26) (n : Nat) (st : Stage) (f : Frame) (d : Dev), s.Runs → d = s.seen s.dev.now → pl < 8 → n = w.toNat →
    d.stageAt pl = some st → d.frame? st.frame = some f → st.ended = false → st.pc + 1 < st.len →
    (∀ k, st.skip = k + 1 → Completes (.drop pl w) s fun t => t.stageAt pl = some { st with skip := k, pc := st.pc + 1 } ∧ t.net.frames = d.net.frames) ∧
    (st.skip = 0 → Completes (.endOp pl w) s fun t => t.stageAt pl = none) ∧
    (st.skip = 0 → Completes (.drop pl w) s fun t => t.stageAt pl = none ∧ Counted (E.ProgramDrops pl) 1 d t ∧ t.net.queues = d.net.queues) ∧
    (st.skip = 0 →
      Completes (.setCtq pl w) s fun t => t.stageAt pl = some { st with pc := st.pc + 1 } ∧
        ∀ tc colour queue, tc = (if bit n 25 then fld n 24 22 else f.ctx.tc) → colour = (if bit n 21 then fld n 20 19 else f.ctx.colour) →
          queue = (if bit n 18 then fld n 17 14 else f.ctx.queue) → t.frame? st.frame = some { f with ctx := { f.ctx with tc, colour, queue } }) ∧
    (st.skip = 0 → fld n 25 24 = 2 →
      Completes (.fwd pl w) s fun t => t.stageAt pl = some { st with pc := st.pc + 1 } ∧
        t.frame? st.frame = some { f with ctx := { f.ctx with dest := some (fld n 15 0) } }) ∧
    (st.skip = 0 → fld n 25 24 = 0 →
      Completes (.fwd pl w) s fun t => t.stageAt pl = some { st with pc := st.pc + 1 } ∧
        t.frame? st.frame = some { f with ctx := { f.ctx with dest := f.ctx.bridged } }) ∧
    (st.skip = 0 → fld n 25 24 = 1 → f.ctx.nh = none →
      Completes (.fwd pl w) s fun t => t.stageAt pl = none ∧ Counted (E.NoRoute pl) 1 d t) ∧
    (∀ k, st.skip = 0 → k = (if skipCond f (fld n 24 21) (fld n 15 0) != bit n 25 then fld n 20 17 else 0) →
      Completes (.skipIf pl w) s fun t => t.net.frames = d.net.frames ∧ t.stageAt pl = some { st with pc := st.pc + 1, skip := k }) ∧
    (st.skip = 0 →
      Completes (.count pl w) s fun t => t.stageAt pl = some { st with pc := st.pc + 1 } ∧
        fld (t.row T.ActionCounters (fld n 15 0)) 127 64 = (fld (d.row T.ActionCounters (fld n 15 0)) 127 64 + 1) % 2 ^ 64 ∧
        fld (t.row T.ActionCounters (fld n 15 0)) 63 0 = (fld (d.row T.ActionCounters (fld n 15 0)) 63 0 + f.len) % 2 ^ 64) ∧
    (∀ r v, st.skip = 0 → r = d.row T.MirrorSessions (fld n 3 0) → Row.MirrorSessions.valid r = 1 → Row.MirrorSessions.truncEn r = 0 →
      Row.MirrorSessions.tagEn r = 0 → v = Row.MirrorSessions.dest r → destKind v = 0 → d.isTether (destOf v) = false →
      Completes (.mirror pl w) s fun t => t.stageAt pl = some { st with pc := st.pc + 1 } ∧
        t.net.copies.getD pl [] = d.net.copies.getD pl [] ++
          [⟨destOf v, internalQueue (destOf v) (Row.MirrorSessions.queue r),
            { frame := st.frame, tc := f.ctx.tc, colour := Row.MirrorSessions.colour r, mirror := some (fld n 3 0),
              dhop := if (d.asOf f.x).isDhop (destOf v) (internalQueue (destOf v) (Row.MirrorSessions.queue r)) then some f.dhopX else none,
              punt := { cause := 3 } }, false⟩]) ∧
    (∀ r, st.skip = 0 → r = d.row T.MirrorSessions (fld n 3 0) → Row.MirrorSessions.valid r = 0 →
      Completes (.mirror pl w) s fun t => t.net.copies = d.net.copies ∧ Counted (E.MirrorDrops (fld n 3 0)) 1 d t) ∧
    (∀ r c, st.skip = 0 → r = d.row T.Samplers (fld n 3 0) → Row.Samplers.valid r = 1 → c = d.net.offers.getD (fld n 3 0 * 8 + pl) 0 + 1 →
      Row.Samplers.n r ≤ c →
      Completes (.sample pl w) s fun t => t.stageAt pl = some { st with pc := st.pc + 1 } ∧ t.net.offers.getD (fld n 3 0 * 8 + pl) 0 = 0 ∧
        t.net.samples.length = d.net.samples.length + 1 ∧ Counted (E.SamplesTaken (fld n 3 0)) 1 d t) ∧
    (∀ r c, st.skip = 0 → r = d.row T.Samplers (fld n 3 0) → Row.Samplers.valid r = 1 → c = d.net.offers.getD (fld n 3 0 * 8 + pl) 0 + 1 →
      c < Row.Samplers.n r →
      Completes (.sample pl w) s fun t => t.net.offers.getD (fld n 3 0 * 8 + pl) 0 = c ∧ t.net.samples = d.net.samples) ∧
    (st.skip = 0 → fld n 25 24 = 0 → bit n 23 = true → bit n 22 = false →
      Completes (.punt pl w) s fun t => t.stageAt pl = some { st with pc := st.pc + 1 } ∧
        t.net.copies.getD pl [] = d.net.copies.getD pl [] ++ [puntCopy st.frame f.ctx true (fld n 21 19) 0 (fld n 15 0)]) ∧
    (st.skip = 0 → fld n 25 24 ≠ 2 → bit n 23 = false → Completes (.punt pl w) s fun t => t.stageAt pl = none) ∧
    (st.skip = 0 → fld n 25 24 = 0 →
      Completes (.launch pl w) s fun t =>
        t.stageAt pl = some { st with pc := st.pc + 1, launch := some (((d.tickStart (f.tick + fld n 23 12) + st.arg : Nat) : Int) * 65536) }) ∧
    (st.skip = 0 → fld n 24 23 = 0 →
      Completes (.setpoint pl w) s fun t => t.stageAt pl = some { st with pc := st.pc + 1, consume := st.consume || !bit n 25 } ∧
        t.frame? st.frame = some { f with blocks := f.blocks ++ [{ off := some (fld n 22 15), mask := fld n 7 0 }] })

/-- Action words that edit the frame. Rests on R226, R230, R231, R234. Choices or readings of the model: log entries 19, 20 and 41. -/
def Obligations.ActionWordsEditTheFrame : Prop :=
  ∀ (s : State) (pl : Nat) (w : BitVec 26) (n : Nat) (st : Stage) (f : Frame) (q : Parsed) (b : Bytes) (d : Dev), s.Runs → d = s.seen s.dev.now → pl < 8 →
    n = w.toNat → d.stageAt pl = some st → d.frame? st.frame = some f → st.ended = false → st.skip = 0 → st.pc + 1 < st.len → d.head st f = (q, b) →
    (∀ v, st.edits.length < 8 → fld n 25 24 = 0 → q.vlans.length < 3 → bit n 21 = false → vidOf f.ctx (fld n 23 22) (fld n 11 0) = some v →
      Completes (.vlanPush pl w) s fun t => t.stageAt pl =
        some { st with pc := st.pc + 1, edits := st.edits ++ [.vlanPush 0x8100 (fld n 20 18 * 2 ^ 13 + fld n 17 17 * 2 ^ 12 + v)] }) ∧
    (3 ≤ q.vlans.length →
      Completes (.vlanPush pl w) s fun t => t.stageAt pl = some { st with pc := st.pc + 1 } ∧ Counted (E.EditRefused pl) 1 d t) ∧
    (st.edits.length < 8 → fld n 25 24 ≤ q.vlans.length →
      Completes (.vlanPop pl w) s fun t => t.stageAt pl = some { st with pc := st.pc + 1, edits := st.edits ++ [.vlanPop (fld n 25 24)] }) ∧
    (8 ≤ st.edits.length →
      Completes (.vlanPop pl w) s fun t => t.stageAt pl = some { st with pc := st.pc + 1 } ∧ Counted (E.EditRefused pl) 1 d t) ∧
    (st.edits.length < 8 → q.vlans ≠ [] → bit n 25 = true → bit n 24 = false → bit n 23 = false → bit n 20 = true → fld n 22 21 = 0 →
      Completes (.vlanSet pl w) s fun t => t.stageAt pl =
        some { st with pc := st.pc + 1, edits := st.edits ++ [.vlanSet 0xFFF (f.ctx.tc * 2 ^ 13 + fld n 16 16 * 2 ^ 12 + fld n 11 0)] }) ∧
    (st.edits.length < 8 → fld n 25 24 = 2 → fld n 23 22 = 2 →
      Completes (.macSet pl w) s fun t => t.stageAt pl = some { st with pc := st.pc + 1, edits := st.edits ++
        [.mac (some (d.row T.MacPool (fld n 15 8))) (some (d.row T.MacPool (fld n 7 0))) false] }) ∧
    (st.edits.length < 8 → q.l3Ok b = true → 2 ≤ beAt b (q.l3 + if q.kind = 1 then 8 else 7) 1 →
      Completes (.ttlDec pl w) s fun t => t.stageAt pl = some { st with pc := st.pc + 1, edits := st.edits ++ [.ttl] }) ∧
    (st.edits.length < 8 → q.l3Ok b = true → beAt b (q.l3 + if q.kind = 1 then 8 else 7) 1 ≤ 1 → fld n 25 24 = 0 →
      Completes (.ttlDec pl w) s fun t => t.stageAt pl = none ∧ Counted (E.TtlExpired pl) 1 d t) ∧
    (st.edits.length < 8 → q.l3Ok b = true → bit n 25 = false →
      Completes (.dscpSet pl w) s fun t => t.stageAt pl = some { st with pc := st.pc + 1, edits := st.edits ++ [.dscp (fld n 5 0)] }) ∧
    (∀ r, st.edits.length < 8 → q.tagAt 1 = none → r = d.row T.SeqGen (fld n 11 0) → Row.SeqGen.valid r = 1 →
      Completes (.rtagPush pl w) s fun t => t.stageAt pl = some { st with pc := st.pc + 1, edits := st.edits ++ [.rtagPush (Row.SeqGen.next r)] } ∧
        Row.SeqGen.next (t.row T.SeqGen (fld n 11 0)) = (Row.SeqGen.next r + 1) % 2 ^ 16) ∧
    (∀ r, r = d.row T.SeqGen (fld n 11 0) → Row.SeqGen.valid r = 0 →
      Completes (.rtagPush pl w) s fun t => t.stageAt pl = some { st with pc := st.pc + 1 } ∧ Counted (E.EditRefused pl) 1 d t ∧
        t.row T.SeqGen (fld n 11 0) = r) ∧
    (st.edits.length < 8 → (q.tagAt 1).isSome = true →
      Completes (.rtagPop pl w) s fun t => t.stageAt pl = some { st with pc := st.pc + 1, edits := st.edits ++ [.rtagPop] }) ∧
    (∀ r, st.edits.length < 8 → q.tagAt 2 = none → r = d.row T.SeqGen (fld n 11 0) → Row.SeqGen.valid r = 1 →
      Completes (.hsrPush pl w) s fun t => t.stageAt pl =
        some { st with pc := st.pc + 1, edits := st.edits ++ [.hsrPush (fld n 19 16) (Row.SeqGen.next r)] }) ∧
    (st.edits.length < 8 → (q.tagAt 2).isSome = true →
      Completes (.hsrPop pl w) s fun t => t.stageAt pl = some { st with pc := st.pc + 1, edits := st.edits ++ [.hsrPop] }) ∧
    (∀ r, st.edits.length < 8 → r = d.row T.SeqGen (fld n 11 0) → Row.SeqGen.valid r = 1 →
      Completes (.prpAdd pl w) s fun t => t.stageAt pl =
        some { st with pc := st.pc + 1, edits := st.edits ++ [.prpAdd (fld n 17 16) (Row.SeqGen.next r)] }) ∧
    (st.edits.length < 8 → (prpSeq b).isSome = true →
      Completes (.prpStrip pl w) s fun t => t.stageAt pl = some { st with pc := st.pc + 1, edits := st.edits ++ [.prpStrip] }) ∧
    (prpSeq b = none →
      Completes (.prpStrip pl w) s fun t => t.stageAt pl = some { st with pc := st.pc + 1 } ∧ Counted (E.EditRefused pl) 1 d t)

/-- Time messages: what is taken, answered and originated. Rests on R97, R99 to R104. Choices or readings of the model: log entries 116, 118, 119, 120 and 147.
-/
def Obligations.TimeMessages : Prop :=
  (∀ (s : State) (x p i : Nat) (b : Bytes) (m : PtpHead) (d : Dev), s.Runs → d = s.seen x → p < 96 → i < 2 → d.portUp p = true → d.ptpHead b = some m →
     (m.kind = 0 → d.ptpDomains m = [i] → d.ptpRole p i = 3 ∨ d.ptpRole p i = 4 → m.twoStep = false →
       Completes (.ptpSyncReceive x p b) s fun t => Counted E.TimeEventCount 1 d t ∧ t.time.syncs = d.time.syncs) ∧
     (m.kind = 0 → d.ptpDomains m = [i] → d.ptpRole p i = 3 ∨ d.ptpRole p i = 4 → m.twoStep = true →
       Completes (.ptpSyncReceive x p b) s fun t => t.get E.TimeEventCount = d.get E.TimeEventCount ∧
         t.time.syncs.getLast? = some ⟨p, i, m.clockId, m.portNum, m.seq, d.ingressX p d.now, m.corr + d.asymmetry p⟩) ∧
     (m.kind = 0 → d.ptpDomains m = [0, 1] → (∀ j, j < 2 → d.ptpRole p j = 3 ∨ d.ptpRole p j = 4) → m.twoStep = false →
       Completes (.ptpSyncReceive x p b) s fun t => Counted E.TimeEventCount 2 d t) ∧
     (m.kind = 2 → (d.ptpDomains m).contains 0 = true → d.ptpTakes p m = false → 60 ≤ b.length →
       Completes (.ptpPdelayReqReceive x p b) s fun t => t.net.nextId = d.net.nextId + 2) ∧
     (m.kind = 0 → d.ptpTakes p m = false → 60 ≤ b.length →
       Completes (.ptpSyncReceive x p b) s fun t => t.net.nextId = d.net.nextId + 1 ∧ t.get E.TimeEventCount = d.get E.TimeEventCount) ∧
     (∀ e, m.kind = 8 → d.ptpDomains m = [i] → d.ptpRole p i = 3 ∨ d.ptpRole p i = 4 → d.time.syncs = [e] → e.port = p → e.domain = i →
       e.clockId = m.clockId → e.portNum = m.portNum → e.seq = m.seq →
       Completes (.ptpFollowUpReceive x p b) s fun t => Counted E.TimeEventCount 1 d t ∧ t.time.syncs = []) ∧
     (∀ e, d.time.twoStep = [e] → e.egress = p → e.domain = i → e.tick + 4 * d.get (E.SyncIntervalTicks i) ≤ d.net.bounds →
       Completes (.followUpMissing x p) s fun t => Counted (E.FollowUpMissing i) 1 d t ∧ t.time.twoStep = []) ∧
     (m.kind = 1 → d.ptpDomains m = [i] → d.ptpRole p i = 2 →
       Completes (.ptpDelayReqReceive x p b) s fun t => t.net.nextId = d.net.nextId + 1 ∧ t.time = d.time) ∧
     (∀ x0, m.kind = 9 → d.ptpDomains m = [i] → d.ptpRole p i = 3 → (d.ptp p).dreq.get? i = some (m.seq, some x0) → d.ptpToMe p m b = true →
       Completes (.ptpDelayRespReceive x p b) s fun t => Counted E.TimeEventCount 1 d t ∧ (t.ptp p).dreq.get? i = none) ∧
     (m.kind = 2 → (d.ptpDomains m).contains 0 = true → d.ptpTakes p m = true →
       Completes (.ptpPdelayReqReceive x p b) s fun t => t.net.nextId = d.net.nextId + 1) ∧
     (∀ x1 q, m.kind = 3 → (d.ptpDomains m).contains 0 = true → d.ptpTakes p m = true → (d.ptp p).pdReq = some { seq := m.seq, t1 := some x1, resp := q } →
       d.ptpToMe p m b = true → m.twoStep = false →
       Completes (.ptpPdelayRespReceive x p b) s fun t => (t.ptp p).pdReq = none ∧ (t.ptp p).pdLost = 0 ∧
         (t.ptp p).pdDone.length = min 8 ((d.ptp p).pdDone.length + 1)) ∧
     (∀ x1 q, m.kind = 3 → (d.ptpDomains m).contains 0 = true → d.ptpTakes p m = true → (d.ptp p).pdReq = some { seq := m.seq, t1 := some x1, resp := q } →
       d.ptpToMe p m b = true → m.twoStep = true →
       Completes (.ptpPdelayRespReceive x p b) s fun t => (t.ptp p).pdDone = (d.ptp p).pdDone ∧
         ((t.ptp p).pdReq.bind fun r => r.resp) = some (ptpTime b m.off - m.corr, rawTime (d.ingressX p d.now))) ∧
     (∀ q, d.pdelayDue p = true → (d.ptp p).pdReq = some q → (d.ptp p).pdLost = 2 →
       Completes (.pdelayLost x p) s fun t => Counted (E.PdelayLost p) 1 d t ∧ (t.ptp p).pdReq = none ∧ t.get (E.LinkDelayValid p) = 0 ∧
         t.get (E.MeanLinkDelay p) = 0 ∧ LastFault Src.pdelayLost p t) ∧
     (∀ q, d.pdelayDue p = true → (d.ptp p).pdReq = some q → (d.ptp p).pdLost < 2 →
       Completes (.pdelayLost x p) s fun t => Counted (E.PdelayLost p) 1 d t ∧ (t.ptp p).pdLost = (d.ptp p).pdLost + 1 ∧ t.faults = d.faults) ∧
     (m.kind = 11 → d.ptpTakes p m = true → d.get E.FirmwareState ≠ 2 →
       Completes (.ptpGeneralMessage x p b) s fun t => t.time.generals = d.time.generals + 1 ∧ t.net = d.net) ∧
     (m.kind = 11 → d.ptpTakes p m = true → d.get E.FirmwareState = 2 →
       Completes (.ptpGeneralMessage x p b) s fun t => t.net.nextId = d.net.nextId + 1 ∧ t.time = d.time)) ∧
  (∀ (s : State) (x p i : Nat) (d : Dev), s.Runs → d = s.seen x → p < 96 → i < 2 → d.portUp p = true →
     (d.ptpRole p i = 2 → d.get (E.MasterMode i) = 0 → (d.ptp p).nextSync.getD i 0 ≤ d.net.bounds →
       Completes (.syncOriginate x i p) s fun t => t.net.nextId = d.net.nextId + 1 ∧ (t.ptp p).syncSeq = ((d.ptp p).syncSeq + 1) % 65536 ∧
         (t.ptp p).nextSync.getD i 0 = d.net.bounds + d.get (E.SyncIntervalTicks i)) ∧
     (d.net.bounds < (d.ptp p).nextSync.getD i 0 → Completes (.syncOriginate x i p) s fun t => t = d) ∧
     (d.ptpRole p i = 3 → d.get (E.DelayMechanism i) = 1 → d.get (E.DelayReqIntervalTicks i) ≠ 0 → (d.ptp p).nextDreq.getD i 0 ≤ d.net.bounds →
       Completes (.delayReqSend x i p) s fun t => t.net.nextId = d.net.nextId + 1 ∧ (t.ptp p).dreq.get? i = some ((d.ptp p).dreqSeq, none) ∧
         (t.ptp p).dreqSeq = ((d.ptp p).dreqSeq + 1) % 65536 ∧
         (t.ptp p).nextDreq.getD i 0 = d.net.bounds + d.get (E.DelayReqIntervalTicks i)) ∧
     (d.get (E.DelayMechanism i) ≠ 1 → Completes (.delayReqSend x i p) s fun t => t = d) ∧
     (d.pdelayDue p = true → (d.ptp p).pdReq = none →
       Completes (.pdelayReqSend x p) s fun t => t.net.nextId = d.net.nextId + 1 ∧ (t.ptp p).pdReq = some { seq := (d.ptp p).pdSeq } ∧
         (t.ptp p).pdSeq = ((d.ptp p).pdSeq + 1) % 65536 ∧ (t.ptp p).nextPdreq = d.net.bounds + d.get (E.PdelayIntervalTicks p)) ∧
     (d.pdelayDue p = false → Completes (.pdelayReqSend x p) s fun t => t = d))

/-- Firmware starts and swaps. Rests on R468 to R470, R473, R475, R476. Choices or readings of the model: log entries 82 and 83. -/
def Obligations.FirmwareStartsAndSwaps : Prop :=
  ∀ (s : State) (x : Nat) (d : Dev), s.Runs → d = s.seen x →
    (∀ b, d.get E.BootSource ≠ 3 → d.get E.FirmwareState = 0 → d.power.loaded = true → d.get E.FlashBytes ≠ 0 → b ≠ [] →
      Completes (.firmwareLoad x (some b) none none) s fun t => t.get (E.LoadStatus 0) = d.imageCheck (some b) ∧ t.get (E.LoadStatus 1) = 10 ∧
        t.get E.FirmwareState = (if d.imageCheck (some b) = 1 then 2 else 0) ∧
        (d.imageCheck (some b) = 1 → t.get E.ActiveBank = 0 ∧ t.get E.FirmwareVersion = beAt b 8 4 ∧ t.wd.mgmtArmed = true) ∧
        (d.imageCheck (some b) ≠ 1 → LastFault Src.noFirmwareLoadable 0 t)) ∧
    (∀ b, d.get E.SwapState = 1 → d.get E.ActiveBank = 0 →
      Completes (.swapPrepareDone x b) s fun t => t.get (E.LoadStatus 1) = d.imageCheck (some b) ∧
        t.get E.SwapState = (if d.imageCheck (some b) = 1 then 2 else 6) ∧
        (d.imageCheck (some b) = 1 → t.fw.standby = some (bankHdr b))) ∧
    (d.get E.SwapState = 3 → d.fw.asked = false → d.fw.swapTick ≤ d.tickNow + 1 →
      Completes (.swapHandoffInterrupt x) s fun t => t.fw.asked = true ∧ t.out.head? = some (.interrupt t.now 15 "handoff")) ∧
    (∀ h, d.get E.SwapState = 3 → d.fw.swapTick ≤ d.tickNow → d.fw.ready = true → d.fw.standby = some h → d.get E.ActiveBank = 0 →
      Completes (.swapExecute x) s fun t => t.get E.SwapState = 4 ∧ t.get E.ActiveBank = 1 ∧ t.fw.running = some h ∧ t.fw.trial = true ∧
        t.get E.FirmwareVersion = h.version ∧ Counted E.Swaps 1 d t) ∧
    (d.get E.SwapState = 3 → d.fw.swapTick ≤ d.tickNow → d.fw.ready = false → d.fwRunning = true →
      Completes (.swapExecute x) s fun t => t.get E.SwapState = 5 ∧ t.get E.ActiveBank = d.get E.ActiveBank ∧ t.fw.running = d.fw.running ∧
        Counted E.SwapsAbandoned 1 d t)

/-- Telemetry follows the boundary from its snapshot. Rests on R454, R507 to R513, R520. Choices or readings of the model: log entries 121 and 122. -/
def Obligations.TelemetryFollowsBoundaries : Prop :=
  ∀ (s : State) (x q : Nat) (d : Dev), s.Runs → d = s.seen x → q < 8 →
    (∀ k, d.tele.snap = some k → d.tele.swept ≠ d.net.bounds → d.tele.dumps = [] → d.sweepTarget q = true →
      (∀ i, i < 8 → (sweepDueAt (({ d with dict := k.dict }).row T.SweepSets i) k.tick && d.sweepValid i && d.get (E.SweepState i) != 2) = (i == q)) →
      d.sweepFits q (({ d with dict := k.dict }).recordWords q) = true →
      Completes (.sweepDue x) s fun t => t.tele.swept = d.net.bounds ∧ t.get (E.SweepState q) = 1 ∧ t.tele.dumps.map (fun (u : Dump) => (u.set, u.bank)) = [(q, 0)]) ∧
    (∀ k, d.tele.snap = some k → d.tele.swept ≠ d.net.bounds → d.tele.dumps = [] → d.sweepTarget q = true →
      (∀ i, i < 8 → (sweepDueAt (({ d with dict := k.dict }).row T.SweepSets i) k.tick && d.sweepValid i && d.get (E.SweepState i) != 2) = (i == q)) →
      d.sweepFits q (({ d with dict := k.dict }).recordWords q) = false →
      Completes (.sweepDue x) s fun t => t.tele.swept = d.net.bounds ∧ t.tele.dumps = [] ∧ Counted (E.SweepSkipped q) 1 d t) ∧
    (∀ u, d.tele.dumps = [u] → u.set = q → Row.SweepSets.target (d.row T.SweepSets q) = 1 →
      Completes (.sweepDumpDone x q false) s fun t => t.tele.dumps = [] ∧ t.get (E.SweepState q) = 2 ∧ LastFault Src.sweepTargetError q t) ∧
    (∀ u, d.tele.dumps = [u] → u.set = q → d.sweepTarget q = true →
      Completes (.sweepDumpDone x q true) s fun t => t.tele.dumps = [] ∧ t.get (E.SweepState q) = 0 ∧ Counted (E.SweepRecords q) 1 d t ∧
        t.get (E.SweepHead q) = (d.get (E.SweepHead q) + 8 * u.words.length) % max 1 (Row.SweepSets.size4k (d.row T.SweepSets q) * 4096)) ∧
    (∀ k, d.tele.snap = some k → d.tele.bwDone ≠ d.net.bounds → k.tick % max 1 (d.get E.BwWindowTicks) = 0 →
      Completes (.bandwidthWindowEnd x) s fun t => t.tele.bwDone = d.net.bounds ∧ t.tele.bwTime = some (fromTimex k.time : Int) ∧ t.tele.bwAcq = false) ∧
    (d.get E.TickIrqDivider ≠ 0 → d.time.tickRun = true → d.time.tick % d.get E.TickIrqDivider = 0 → d.tele.irqDone ≠ d.net.bounds →
      Completes (.tickIrq x) s fun t => t.tele.irqDone = d.net.bounds ∧ bit t.host.cause 37 = true)

/-- Reads of the dictionary. Rests on R36, R37, R44, R325, R590. Choices or readings of the model: log entry 90. -/
def Obligations.DictionaryReads : Prop :=
  ∀ (s : State) (x idx sub : Nat) (r : Requester) (d : Dev), s.Runs → d = s.seen x → idx < 65536 → sub < 256 →
    (∀ e o, o = { opcode := 1, idx, sub : Op } → d.finds r o (.entry e) = true → e.acc ≠ .wo → e.acc ≠ .rc → e.ty.bytes ≠ 0 →
      Completes (.read x r idx sub) s fun t => Answered r 1 (entryKey idx sub) Status.ok e.ty.code (toBE e.ty.bytes ((d.posed r o).scalNow (entryKey idx sub))) t ∧
        ∀ k, k ≠ E.FreeCellsLow → k ≠ E.EventTraceCount → t.get k = d.get k) ∧
    (∀ e o, o = { opcode := 1, idx, sub : Op } → d.finds r o (.entry e) = true → e.acc = .rc → e.ty.bytes ≠ 0 → entryKey idx sub ≠ E.EventTraceCount →
      entryKey idx sub ≠ E.FreeCellsLow →
      Completes (.read x r idx sub) s fun t => Answered r 1 (entryKey idx sub) Status.ok e.ty.code (toBE e.ty.bytes ((d.posed r o).scalNow (entryKey idx sub))) t ∧
        t.get (entryKey idx sub) = 0) ∧
    (∀ e o, o = { opcode := 3, idx, sub : Op } → d.finds r o (.entry e) = true → e.acc = .rwt → e.ty.bytes ≠ 0 →
      Completes (.readStaged x r idx sub) s fun t =>
        Answered r 3 (entryKey idx sub) Status.ok e.ty.code (toBE e.ty.bytes ((d.posed r o).staged.scalNow (entryKey idx sub))) t) ∧
    (∀ e t' row q o, o = { opcode := 4, idx, sub, ty := 0x0F, data := toBE 4 row ++ toBE 2 1 : Op } → d.finds r o (.table e t') = true → row < t'.cap → row < 2 ^ 32 → t'.bits ≤ 8192 → (rowsOf idx row).head? = some q → (d.posed r o).rowsBad idx row 1 = false →
      Completes (.readRow x r idx sub row 1) s fun t =>
        Answered r 4 (entryKey idx sub) Status.ok 0x0F (toBE 2 1 ++ toBE (cdiv t'.bits 8) ((d.posed r o).rowNow q.1 q.2)) t) ∧
    (∀ e off len o, o = { opcode := 6, idx, sub, data := toBE 4 off ++ toBE 2 len : Op } → d.finds r o (.entry e) = true → e.acc ≠ .wo → e.ty = .domain →
      entryKey idx sub ≠ E.DeepQueryResult → (d.posed r o).entryBad (entryKey idx sub) = false → off < 2 ^ 32 → len ≤ 1452 → off ≤ ((d.posed r o).domNow (entryKey idx sub) r.master).length →
      Completes (.bulkRead x r idx sub off len) s fun t =>
        Answered r 6 (entryKey idx sub) Status.ok 0x0E (slice ((d.posed r o).domNow (entryKey idx sub) r.master) off len) t)

/-- Writes of the dictionary. Rests on R36, R39, R46, R47, R323, R474, R589. Choices or readings of the model: log entries 96 and 136. -/
def Obligations.DictionaryWrites : Prop :=
  ∀ (s : State) (x idx sub : Nat) (r : Requester) (d : Dev), s.Runs → d = s.seen x → idx < 65536 → sub < 256 →
    (∀ v data ty, d.takes r { opcode := 2, idx, sub, ty, data } [.scal (entryKey idx sub) v] →
      entryKey idx sub ∈ [E.NodeId, E.DefaultHopLimit, E.ProstaQueue, E.SessionIdleTimeout, E.TickIrqDivider, E.HostWdTicks] →
      Completes (.write x r idx sub ty data) s fun t => t.get (entryKey idx sub) = v ∧ t.get E.Modified = 1 ∧ WriteAnswered r (entryKey idx sub) Status.ok t) ∧
    (∀ v data ty, d.takes r { opcode := 2, idx, sub, ty, data } [.scal (entryKey idx sub) v] → (Put.scal (entryKey idx sub) v).stages = true →
      Completes (.write x r idx sub ty data) s fun t => t.commit.stage.scal.get? (entryKey idx sub) = some v ∧
        WriteAnswered r (entryKey idx sub) Status.ok t) ∧
    (∀ st data ty, d.refuses r { opcode := 2, idx, sub, ty, data } st = true → st ≠ Status.ok →
      Completes (.write x r idx sub ty data) s fun t => WriteAnswered r (entryKey idx sub) st t ∧ Counted E.AccessErrors 1 d t ∧
        ∀ k, k ≠ E.AccessErrors → k ≠ E.EventTraceCount → t.get k = d.get k) ∧
    (∀ row v data, d.takes r { opcode := 5, idx, sub, ty := 0x0F, data := toBE 4 row ++ toBE 2 1 ++ data } [.row idx row v] → row < 2 ^ 20 →
      idx = T.EventFilters ∨ idx = T.ProstaRoutes →
      Completes (.writeRow x r idx sub row 1 data) s fun t => t.row idx row = rowNorm idx v ∧ Answered r 5 (entryKey idx sub) Status.ok 0 [] t) ∧
    (∀ e total data o, o = { opcode := 7, idx, sub, data := toBE 4 0 ++ toBE 4 total ++ data : Op } → d.finds r o (.entry e) = true →
      e.writable false (entryKey idx sub) = true → e.ty = .domain → d.access.bulks = [] → totalOk (.entry e) total = Status.ok → total < 2 ^ 32 →
      data.length < total → entryKey idx sub ≠ E.FirmwareBank 0 → entryKey idx sub ≠ E.FirmwareBank 1 →
      Completes (.bulkWrite x r idx sub 0 total data) s fun t =>
        t.access.bulks = [{ who := r, key := entryKey idx sub, total, got := data, last := d.now }] ∧ Answered r 7 (entryKey idx sub) Status.ok 0 [] t) ∧
    (∀ e bank data o, bank < 2 → o = { opcode := 7, idx := E.FirmwareBank 0 / 256, sub := bank + 1, data := toBE 4 0 ++ toBE 4 data.length ++ data : Op } →
      d.finds r o (.entry e) = true → e.writable false o.key = true → e.ty = .domain → d.access.bulks = [] → totalOk (.entry e) data.length = Status.ok →
      data.length < 2 ^ 32 → isFirmware r.master = false → d.get E.ActiveBank ≠ bank → putValid (.dom o.key data) = true →
      ((d.posed r o).recordRel r false [.dom o.key data]).status = Status.ok →
      Completes (.firmwareBankWrite x r bank 0 data.length data) s fun t =>
        t.get (E.LoadStatus bank) = d.imageCheck (some data) ∧ t.get (E.BankState bank) = (if d.imageCheck (some data) = 1 then 1 else 2) ∧
        Answered r 7 o.key (if d.imageCheck (some data) = 1 then Status.ok else Status.invalidValue) 0 [] t) ∧
    (∀ b m, d.access.bulks = [b] → b.who.master = m → b.key = entryKey idx sub → b.last + 8000000000 < d.now →
      Completes (.bulkWriteTimeout x m idx sub) s fun t => t.access.bulks = [] ∧ t.access.bulkLost = d.access.bulkLost ++ [(b.who, b.key)])

/-- The other operations: subscriptions, sessions, echo, commit and abort. Rests on R44, R54, R60, R194, R327 to R334. Choices or readings of the model: log
entries 94 and 137. -/
def Obligations.OtherOperations : Prop :=
  ∀ (s : State) (x idx sub : Nat) (r : Requester) (d : Dev), s.Runs → d = s.seen x → idx < 65536 → sub < 256 →
    (∀ o, o = { opcode := 8, idx, sub : Op } → d.clear r o = true → (d.posed r o).subCheck r o = Status.ok → subscribes r = true → d.access.subs.length < 64 →
      Completes (.subscribe x r idx sub) s fun t => t.access.subs.any (fun q => q.who == r && q.idx == idx && q.sub == sub) = true ∧
        t.access.queues.any (fun q => q.who == r) = (d.access.queues.any (fun q => q.who == r) || !d.access.subs.any (fun q => q.who == r && q.idx == idx && q.sub == sub)) ∧
        Answered r 8 (entryKey idx sub) Status.ok 0 [] t) ∧
    (∀ o, o = { opcode := 9, idx, sub : Op } → d.clear r o = true → (d.posed r o).subCheck r o = Status.ok → subscribes r = true →
      Completes (.unsubscribe x r idx sub) s fun t => t.access.subs.any (fun q => q.who == r && q.idx == idx && q.sub == sub) = false ∧
        Answered r 9 (entryKey idx sub) Status.ok 0 [] t) ∧
    (d.clear r { opcode := 0x0B, idx := 0, sub := 0 } = true → r.master = 0x20 → r.session ≠ 0 → (d.session? r.session).isSome = true →
      Completes (.sessionClose x r) s fun t => t.session? r.session = none ∧ Answered r 0x0B 0 Status.ok 0 [] t) ∧
    (∀ data, d.clear r { opcode := 0x0D, idx := 0, sub := 0, data } = true → d.mayOperate r 0x0D = true → data.length ≤ 64 →
      Completes (.echo x r data) s fun t => Answered r 0x0D 0 Status.ok 0 (data ++ toBE 12 d.stamp ++ toBE 12 d.stamp) t) ∧
    (∀ id tick q, q = d.posed r (commitRecord 1 0 id tick) → d.clear r (commitRecord 1 0 id tick) = true → d.mayOperate r 0x0C = true → id ≠ 0 → id < 0xFFFF →
      tick < 2 ^ 64 → tick < d.tickNow + 2 ^ 31 → d.commit.batches = [] → d.tooLate (d.time.out.at d.arriveX) tick = false →
      Dev.contentOk q.staged d.commit.stage tick false q = true →
      Completes (.commit x r 0 id tick) s fun t => t.commit.stage = {} ∧
        t.commit.batches.map (fun (b : Batch) => (b.id, b.tick, b.st, b.master)) = [(id, tick, d.commit.stage, r.master)] ∧
        Answered r 0x0C (0x0280 * 256) Status.ok 0
          (toBE 2 id ++ [0, 0] ++ toBE 8 tick ++ toBE 4 d.commit.stage.total ++ toBE 4 ((d.get E.EpochNumber + 1) % 2 ^ 32)) t) ∧
    (d.clear r (commitRecord 2 0 0xFFFF 0) = true → d.mayOperate r 0x0C = true →
      Completes (.abort x r 0 0xFFFF 0) s fun t => t.commit.stage = {} ∧ t.commit.batches = d.commit.batches ∧ Counted E.CommitsAborted 1 d t ∧
        Answered r 0x0C (0x0280 * 256) Status.ok 0 (toBE 2 0xFFFF ++ [0, 0] ++ toBE 8 0 ++ toBE 4 d.commit.stage.total ++ toBE 4 0) t) ∧
    (Completes (.batchFoldDone x) s fun t => t.commit.folding = d.commit.folding.drop 1 ∧ t.commit.batches = d.commit.batches) ∧
    (Completes (.lpmReserveReturn x) s fun t => (∀ e, e ∈ t.commit.lpmHeld ↔ e ∈ d.commit.lpmHeld ∧ d.now < e.1 + 40000) ∧
      t.commit.batches = d.commit.batches)

/-- Prosta frames and sessions. Rests on R48 to R58. Choices or readings of the model: log entries 9, 101, 102 and 103. -/
def Obligations.ProstaFramesAndSessions : Prop :=
  ∀ (s : State) (x : Nat) (d : Dev), s.Runs → d = s.seen x →
    (∀ p b m, p < 96 → d.power.forwarding = true → d.isTether p = false → d.isProsta p b = true →
      m = (pduIn (d.get E.ExtraTpid) b).pdu → pduOk b.length m = false ∨ 64 ≤ d.agentHeld →
      Completes (.prostaFrameReceive x p b) s fun t => Counted E.RxDropped 1 d t ∧ t.out = d.out) ∧
    (∀ p b m, p < 96 → d.power.forwarding = true → d.isTether p = false → d.isProsta p b = true →
      m = (pduIn (d.get E.ExtraTpid) b).pdu → pduOk b.length m = true → d.agentHeld < 64 → Pdu.dest m ∉ [0, d.get E.NodeId, d.get E.AssumedNodeId] →
      Pdu.request m = false → Pdu.hop m ≤ 1 →
      Completes (.prostaFrameReceive x p b) s fun t => Counted E.HopLimitExpired 1 d t ∧ t.out = d.out) ∧
    (∀ p b q m, p < 96 → d.power.forwarding = true → d.isTether p = false → d.isProsta p b = true →
      m = (pduIn (d.get E.ExtraTpid) b).pdu → pduOk b.length m = true → d.agentHeld < 64 → Pdu.dest m ∉ [0, d.get E.NodeId, d.get E.AssumedNodeId] →
      1 < Pdu.hop m → d.prostaRoute (Pdu.dest m) = some q →
      Completes (.prostaFrameReceive x p b) s fun t => Counted E.TransitFrames 1 d t) ∧
    (∀ slot nonce, slot < 8 → d.getB (E.KeySlotEnable slot) = true → d.access.sessions.length < 16 →
      Completes (.sessionOpen x slot nonce true) s fun t =>
        t.access.sessions.map (fun (q : Session) => (q.id, q.slot)) = d.access.sessions.map (fun (q : Session) => (q.id, q.slot)) ++ [(sessionId d.access.nextSid, slot)] ∧
        t.access.nextSid = d.access.nextSid + 1 ∧ Counted (E.KeySlotOpens slot) 1 d t) ∧
    (∀ slot nonce, slot < 8 →
      Completes (.sessionOpen x slot nonce false) s fun t => t.access.sessions = d.access.sessions ∧ Counted E.AuthFailures 1 d t) ∧
    (∀ sid q, d.session? sid = some q → q.last + 8000000000 * d.get E.SessionIdleTimeout ≤ d.now →
      Completes (.sessionIdleTimeout x sid) s fun t => t.session? sid = none)

/-- CAN FD transfers and the dictionary window. Rests on R63 to R68. Choices or readings of the model: log entry 104. -/
def Obligations.CanAgentsAndWindow : Prop :=
  ∀ (s : State) (x a : Nat) (d : Dev), s.Runs → d = s.seen x → a < 2 →
    (∀ seg o, d.getB (E.CanEnable a) = true → seg.length = 64 → beAt seg 0 1 / 64 = 0 → beAt seg 0 1 % 16 = 0 → (d.can a).active = false →
      requestOps (slice seg 1 (min 63 (beAt seg 3 2))) = some [o] → o.opcode = 0x0D → o.data.length ≤ 64 → d.mayOperate ⟨0x21 + a, 0⟩ 0x0D = true →
      d.clear ⟨0x21 + a, 0⟩ o = true →
      Completes (.canSegmentSingle x ⟨a, d.get (E.CanRequestId a)⟩ seg) s fun t => (t.can a).resp = some (beAt seg 0 1 / 16 % 4,
        ({ opcode := 0x0D, idx := o.idx, sub := o.sub, data := o.data ++ toBE 12 d.stamp ++ toBE 12 d.stamp } : Resp).bytes)) ∧
    (∀ seg, d.getB (E.CanEnable a) = true → seg.length = 64 → beAt seg 0 1 / 64 = 1 → beAt seg 0 1 % 16 = 0 → (d.can a).active = false →
      61 < beAt seg 1 2 → beAt seg 1 2 ≤ 4096 →
      Completes (.canSegmentFirst x ⟨a, d.get (E.CanRequestId a)⟩ seg) s fun t => (t.can a).active = true ∧ (t.can a).len = beAt seg 1 2 ∧ (t.can a).buf = slice seg 3 61 ∧
        (t.can a).tag = beAt seg 0 1 / 16 % 4 ∧ (t.can a).last = d.now) ∧
    (∀ seg, d.getB (E.CanEnable a) = true → seg.length = 64 → beAt seg 0 1 / 64 = 2 → (d.can a).active = true → d.now ≤ (d.can a).last + 800000000 →
      beAt seg 0 1 % 16 = ((d.can a).count + 1) % 16 → beAt seg 0 1 / 16 % 4 = (d.can a).tag → (d.can a).buf.length + 63 < (d.can a).len →
      Completes (.canSegmentConsecutive x ⟨a, d.get (E.CanRequestId a)⟩ seg) s fun t => (t.can a).active = true ∧ (t.can a).buf = (d.can a).buf ++ slice seg 1 63 ∧
        (t.can a).count = ((d.can a).count + 1) % 16) ∧
    (∀ seg, d.getB (E.CanEnable a) = true → seg.length = 64 → beAt seg 0 1 / 64 = 3 →
      Completes (.canSegmentAbort x ⟨a, d.get (E.CanRequestId a)⟩ seg) s fun t => (t.can a).active = false ∧ (t.can a).buf = []) ∧
    ((d.can a).active = true → (d.can a).last + 800000000 < d.now →
      Completes (.canTransferTimeout x a) s fun t => (t.can a).active = false ∧ Counted (E.SegmentErrors a) 1 d t) ∧
    (∀ tag b, (d.can a).resp = some (tag, b) →
      Completes (.canResponseSend x a) s fun t => (t.can a).resp = none ∧ ∃ seg, t.out.head? = some (.can t.now a (d.get (E.CanResponseId a)) seg)) ∧
    (∀ e l lost, (d.can a).resp = none → d.access.queues = [⟨⟨0x21 + a, 0⟩, e :: l, lost⟩] →
      Completes (.canNotifySend x a) s fun t => t.access.queues = [⟨⟨0x21 + a, 0⟩, l, lost⟩] ∧ ∃ seg, t.out.head? = some (.can t.now a (d.get (E.CanResponseId a)) seg)) ∧
    (∀ e l lost, (d.can a).resp = none → d.access.queues = [⟨⟨0x21 + a, 0⟩, e :: l, lost⟩] →
      Completes (.notifyDeliver x ⟨0x21 + a, 0⟩) s fun t => t.access.queues = [⟨⟨0x21 + a, 0⟩, l, lost⟩] ∧ ∃ seg, t.out.head? = some (.can t.now a (d.get (E.CanResponseId a)) seg)) ∧
    (∀ k seg, k ≠ d.get (E.CanRequestId a) → Completes (.canSegmentSingle x ⟨a, k⟩ seg) s fun t => t = d) ∧
    (∀ k, k = d.get (E.CanRequestId a) → d.getB (E.CanEnable a) = true →
      Completes (.classicalCanFrame x ⟨a, k⟩) s fun t => Counted (E.SegmentErrors a) 1 d t ∧ t.access.canA = d.access.canA ∧ t.access.canB = d.access.canB) ∧
    (∀ len o, d.access.window.busy = false → 8 ≤ len → len ≤ 4096 → requestOps (fitBytes len d.access.window.buf) = some [o] → o.opcode = 0x0D →
      o.data.length ≤ 64 → d.mayOperate ⟨0x10, 0⟩ 0x0D = true → d.clear ⟨0x10, 0⟩ o = true →
      Completes (.windowGo x 0x10 false len) s fun t => t.access.window.busy = true ∧ t.access.window.ready = true ∧ t.access.window.resp =
        ({ opcode := 0x0D, idx := o.idx, sub := o.sub, data := o.data ++ toBE 12 d.stamp ++ toBE 12 d.stamp } : Resp).bytes) ∧
    (∀ m atomic len, d.access.window.busy = true →
      Completes (.windowGo x m atomic len) s fun t => t.access.window = { d.access.window with overrun := true }) ∧
    (d.access.window.busy = true → d.access.window.ready = true → d.access.window.discard = false →
      Completes (.windowDone x) s fun t => t.access.window.busy = false ∧ t.access.window.done = true ∧
        t.access.window.status = d.access.window.resp.length ∧ t.access.window.buf = patch d.access.window.buf 0 d.access.window.resp ∧ bit t.host.cause 2 = true)

/-- The pair and the ownership of the shared outputs. Rests on R401, R402, R405, R407, R409, R411, R412. Choices or readings of the model: log entries 50, 63
and 65. -/
def Obligations.PairAndOwnership : Prop :=
  ∀ (s : State) (x : Nat) (r : Requester) (d : Dev), s.Runs → d = s.seen x →
    (d.get E.MateState = 1 → d.get E.HbMissLimit ≤ d.pair.miss → d.getB E.TakeoverArmed = false →
      Completes (.mateLost x) s fun t => t.get E.MateState = 2 ∧ t.get E.MirrorState = 0 ∧ t.get E.Takeovers = d.get E.Takeovers ∧ LastFault Src.mateLost 0 t) ∧
    (d.get E.MateState = 1 → d.get E.HbMissLimit ≤ d.pair.miss → d.getB E.TakeoverArmed = true →
      d.dom E.TakeoverPlan = List.replicate 24 0 →
      Completes (.mateLost x) s fun t => t.get E.MateState = 2 ∧ Counted E.Takeovers 1 d t ∧ t.get E.LastTakeoverTick = d.tickNow ∧
        t.get E.TakeoverArmed = 0 ∧ LastFault Src.takeover (d.tickNow % 2 ^ 32) t) ∧
    (∀ k, d.get E.MateState = 1 → d.paths.contains k = true → d.pair.flagged.contains k = false → d.get E.HbMissLimit ≤ d.pair.silent.getD k 0 →
      Completes (.pathSilent x k) s fun t => t.pair.flagged = k :: d.pair.flagged ∧ Counted (if k = 0 then E.HbMissSideband else E.HbMissTether) 1 d t ∧
        LastFault Src.pairPathSilent (2 ^ k) t) ∧
    (∀ k, d.get E.MateState = 1 → d.pair.silent.getD k 0 < d.get E.HbMissLimit →
      Completes (.pathSilent x k) s fun t => t.pair = d.pair ∧ t.faults = d.faults) ∧
    (d.accepts r E.TakeoverArm 1 → d.getB E.PairEnable = true → d.get E.MateState = 1 →
      Completes (.takeoverArm x r 1) s fun t => t.get E.TakeoverArmed = 1 ∧ WriteAnswered r E.TakeoverArm Status.ok t) ∧
    (d.accepts r E.TakeoverArm 0 →
      Completes (.takeoverArm x r 0) s fun t => t.get E.TakeoverArmed = 0 ∧ WriteAnswered r E.TakeoverArm Status.ok t) ∧
    (d.accepts r E.OwnClaim 1 → d.get E.OwnState = 0 → d.pair.ownGnt = false →
      Completes (.ownClaim x r 1) s fun t => t.get E.OwnState = 1 ∧ t.pair.ownReq = true ∧ t.pair.claimX = d.now ∧ t.pair.viaTakeover = false ∧
        WriteAnswered r E.OwnClaim Status.ok t) ∧
    (d.accepts r E.OwnRelease 1 →
      Completes (.ownRelease x r 1) s fun t => t.pair.release = (d.get E.OwnState == 1 || d.get E.OwnState == 2) ∧ t.get E.OwnState = d.get E.OwnState ∧
        WriteAnswered r E.OwnRelease Status.ok t) ∧
    (d.get E.OwnState = 0 →
      Completes (.ownGntHigh x) s fun t => t.pair.ownGnt = true ∧ t.get E.OwnState = 0) ∧
    (d.get E.OwnState = 1 → d.get E.PairRole = 2 →
      Completes (.ownGntHigh x) s fun t => t.pair.ownGnt = true ∧ t.get E.OwnState = 3 ∧ t.pair.yieldX = d.now) ∧
    (Completes (.ownGntLow x) s fun t => t.pair.ownGnt = false ∧ t.pair.claimX = d.now ∧ t.get E.OwnState = d.get E.OwnState) ∧
    (d.get E.OwnState = 1 → d.pair.ownGnt = false → d.pair.claimX + 8 * d.get E.OwnSettleNs ≤ d.now →
      Completes (.ownSettleExpiry x) s fun t => t.get E.OwnState = 2 ∧ Counted E.OwnChanges 1 d t ∧ t.pair.viaTakeover = false) ∧
    (d.get E.OwnState = 3 → d.pair.yieldX + 1600 ≤ d.now →
      Completes (.yieldComplete x) s fun t => t.get E.OwnState = 0 ∧ Counted E.OwnYields 1 d t ∧ t.pair.ownReq = false)

/-- The tether and the mirror. Rests on R398 to R405, R424. Choices or readings of the model: log entries 49, 64, 65, 66 and 113. -/
def Obligations.TetherAndMirror : Prop :=
  ∀ (s : State) (x : Nat) (r : Requester) (d : Dev), s.Runs → d = s.seen x →
    (∀ path pdu l, d.getB E.PairEnable = true → path = 1 ∨ path = 2 → d.paths.contains path = true → tetherParse pdu = some l →
      (∀ e ∈ l, 7 ≤ e.1) → d.tseqNew (beAt pdu 4 4) = true → d.pair.applied = none →
      Completes (.tetherFrameReceive x path pdu) s fun t => Counted E.TetherFramesRx 1 d t ∧ t.pair.applied = some (beAt pdu 4 4)) ∧
    (∀ path pdu, d.getB E.PairEnable = true → path = 1 ∨ path = 2 → d.paths.contains path = true → tetherParse pdu = none →
      Completes (.tetherFrameReceive x path pdu) s fun t => Counted E.TetherBadFrames 1 d t ∧ t.pair = d.pair) ∧
    (∀ h l, d.pair.held = [h] → h.x + 16000 ≤ d.now → tetherParse h.pdu = some l → (∀ e ∈ l, 7 ≤ e.1) → d.get E.MirrorState = 3 →
      Completes (.tetherGapTimeout x) s fun t => t.pair.held = [] ∧ t.pair.applied = some h.tseq ∧ Counted E.MirrorGaps 1 d t) ∧
    (∀ path role body, d.getB E.PairEnable = true → recordOk (1, body) = true → d.paths.contains path = true → role ≠ d.get E.PairRole →
      role + d.get E.PairRole = 3 →
      Completes (.heartbeat x path role body) s fun t => t.pair.badRole = false ∧ t.pair.alive.contains path = true ∧
        t.get E.MateOwnState = beAt body 0 1 ∧ t.get E.MateNodeId = beAt body 2 2 ∧ t.get E.MateUniqueId = beAt body 4 8) ∧
    (∀ path body, d.getB E.PairEnable = true → recordOk (1, body) = true → d.paths.contains path = true → d.pair.badRole = false →
      Completes (.heartbeat x path (d.get E.PairRole) body) s fun t => t.pair.badRole = true ∧ t.get E.MateState = 0 ∧ t.get E.TakeoverArmed = 0 ∧
        LastFault Src.roleConflict 0 t) ∧
    (∀ body i j, d.getB E.PairEnable = true → recordOk (2, body) = true →
      d.l2Search (beAt body 0 1) (beAt body 2 2 % 2 ^ 12) (beAt body 4 6) = (some i, j) → Row.L2Rows.static (d.row (T.L2Rows (beAt body 0 1)) i) = 0 →
      Completes (.tetherL2 x body) s fun t => t.row (T.L2Rows (beAt body 0 1)) i =
        l2Row false false false (beAt body 2 2 % 2 ^ 12) (beAt body 4 6) (beAt body 10 2)) ∧
    (∀ body i j, d.getB E.PairEnable = true → recordOk (2, body) = true →
      d.l2Search (beAt body 0 1) (beAt body 2 2 % 2 ^ 12) (beAt body 4 6) = (some i, j) → Row.L2Rows.static (d.row (T.L2Rows (beAt body 0 1)) i) = 1 →
      Completes (.tetherL2 x body) s fun t => t.row (T.L2Rows (beAt body 0 1)) i = d.row (T.L2Rows (beAt body 0 1)) i ∧
        Counted (E.StaticConflicts (beAt body 0 1)) 1 d t) ∧
    (∀ body, d.getB E.PairEnable = true → recordOk (3, body) = true →
      Completes (.tetherRecovery x body) s fun t => t.pair.shadow.get? (beAt body 0 2) =
        some { takeAny := bit (beAt body 2 1) 7, seq := beAt body 4 2, history := beAt body 8 16 }) ∧
    (∀ body, d.getB E.PairEnable = true → recordOk (4, body) = true → dictOps (body.drop 4) = none →
      Completes (.tetherDict x body) s fun t => Counted E.TetherBadFrames 1 d t) ∧
    (∀ body k v, d.getB E.PairEnable = true → recordOk (4, body) = true → bit (beAt body 1 1) 7 = false → dictOps (body.drop 4) = some [putOp k v] →
      k ∈ [E.NodeId, E.DefaultHopLimit, E.ProstaQueue, E.SessionIdleTimeout] → d.accepts ⟨0x30, 0⟩ k v →
      Completes (.tetherDict x body) s fun t => t.get k = v ∧ t.get E.MirrorDictRefused = d.get E.MirrorDictRefused) ∧
    (∀ body, d.getB E.PairEnable = true → recordOk (5, body) = true →
      Completes (.tetherSetpoint x body) s fun t => (t.pair.words.get? (beAt body 0 1)).map (·.tick) = some (beAt body 4 8)) ∧
    (∀ body, d.getB E.PairEnable = true → recordOk (6, body) = true →
      Completes (.tetherServo x body) s fun t => t.dom E.MateServo = body) ∧
    (Completes (.pairHbInToggle x) s fun t => t.pair.alive.contains 0 = true ∧ ∀ k, k ≠ 0 → t.pair.alive.contains k = d.pair.alive.contains k) ∧
    (d.accepts r E.MirrorResync 1 → d.get E.MateState = 1 → (∀ pl, pl < 8 → d.l2Learned pl = []) → d.net.recs.filter (fun e => d.recMarked e.1) = [] →
      Completes (.mirrorResync x r 1) s fun t => t.get E.MirrorState = 1 ∧ WriteAnswered r E.MirrorResync Status.ok t) ∧
    (d.accepts r E.MirrorResync 1 → d.get E.MateState ≠ 1 →
      Completes (.mirrorResync x r 1) s fun t => t.get E.MirrorState = d.get E.MirrorState ∧ WriteAnswered r E.MirrorResync Status.invalidValue t) ∧
    (d.get E.MirrorState = 1 → d.pair.sendQ = [] →
      Completes (.mirrorResyncDone x) s fun t => t.get E.MirrorState = 2)

/-- The L2 table and the scrub keep the tables. Rests on R183 to R187, R210, R494. Choices or readings of the model: log entries 24 and 56. -/
def Obligations.TablesKeepThemselves : Prop :=
  ∀ (s : State) (x pl i : Nat) (d : Dev), s.Runs → d = s.seen x → pl < 8 → i < 262144 →
    (∀ q l, d.net.learnQ.getD pl [] = q :: l → q.old = none → (d.l2Search pl q.fid q.mac).1 = none → d.getB E.MirrorL2 = false →
      (l2Cands q.fid q.mac).find? (fun j => Row.L2Rows.valid (d.row (T.L2Rows pl) j) == 0 && !d.isBad (T.L2Rows pl) j) = some i →
      Completes (.learnApply x pl) s fun t => t.row (T.L2Rows pl) i = l2Row false false false q.fid q.mac q.dest ∧ Counted (E.L2Learns pl) 1 d t ∧
        t.net.learnQ.getD pl [] = l) ∧
    (∀ q l o, d.net.learnQ.getD pl [] = q :: l → q.old = some o → (d.l2Search pl q.fid q.mac).1 = some i → d.getB E.MirrorL2 = false →
      l2Dest (d.row (T.L2Rows pl) i) ≠ q.dest → Row.L2Rows.static (d.row (T.L2Rows pl) i) = 0 → d.heldOff pl q.fid q.mac = false →
      Completes (.moveApply x pl) s fun t => t.row (T.L2Rows pl) i = setBit (setFld (d.row (T.L2Rows pl) i) 15 0 q.dest) 85 true ∧
        Counted (E.L2Moves pl) 1 d t ∧ t.net.learnQ.getD pl [] = l) ∧
    (d.getB E.L2AgeEnable = true → Row.L2Rows.valid (d.row (T.L2Rows pl) i) ≠ 0 → Row.L2Rows.static (d.row (T.L2Rows pl) i) = 0 →
      d.isBad (T.L2Rows pl) i = false → Row.L2Rows.hit (d.row (T.L2Rows pl) i) = 1 → d.ageDue pl i = true →
      Completes (.ageingVisit x pl i) s fun t => t.row (T.L2Rows pl) i = setBit (d.row (T.L2Rows pl) i) 85 false) ∧
    (d.getB E.L2AgeEnable = true → Row.L2Rows.valid (d.row (T.L2Rows pl) i) ≠ 0 → Row.L2Rows.static (d.row (T.L2Rows pl) i) = 0 →
      d.isBad (T.L2Rows pl) i = false → Row.L2Rows.hit (d.row (T.L2Rows pl) i) = 0 → d.ageDue pl i = true →
      Completes (.ageingVisit x pl i) s fun t => t.row (T.L2Rows pl) i = 0 ∧ t.ageDue pl i = decide (d.get E.L2AgeTime = 0) ∧ Counted (E.L2AgedOut pl) 1 d t) ∧
    (∀ v, d.net.updates = [{ ticket := none, op := .row (T.TreeRules (pl / 2)) i v, left := [(pl, 1)] }] →
      Completes (.tableUpdateApply x pl) s fun t => t.row (T.TreeRules (pl / 2)) i = v ∧ t.net.updates = []) ∧
    (∀ v, i < 8192 → d.net.updates = [{ ticket := none, op := .row T.AssocRowsAll i v, left := [(pl, 1)] }] →
      Completes (.tableUpdateApply x pl) s fun t => t.row T.AssocRows (pl * 8192 + i) = v ∧ t.net.updates = []) ∧
    (∀ l j, j ≠ pl → d.net.updates = [{ ticket := none, op := .em l, left := [(j, l.length), (pl, l.length)] }] → 1 < l.length →
      Completes (.tableUpdateApply x pl) s fun t =>
        t.net.updates = [{ ticket := none, op := .em l, left := [(j, l.length), (pl, l.length - 1)] }]) ∧
    (∀ n, d.hbmUp = true → d.isBad n i = false → d.net.repair.getD pl [] = [] →
      Completes (.scrubRead x pl n i true) s fun t => t.isBad n i = true ∧ t.net.repair.getD pl [] = [(n, i)] ∧
        LastFault Src.tableParity (n * 2 ^ 32 + i) t) ∧
    (∀ n, d.isBad n i = false → d.net.scrub.get? pl = none →
      Completes (.scrubRead x pl n i false) s fun t => t.isBad n i = false ∧ t.net.scrub.get? pl = some (n * 2 ^ 20 + i, d.now) ∧ t.faults = d.faults) ∧
    (∀ n l, d.hbmUp = true → d.net.repair.getD pl [] = (n, i) :: l → l2Pl n = none →
      Completes (.shadowRepair x pl) s fun t => t.isBad n i = false ∧ t.net.repair.getD pl [] = l ∧ t.row n i = d.row n i)

/-- The entries of tables and queues that act. Rests on R189, R213, R281, R311, R313. Choices or readings of the model: log entries 57, 125 and 149. -/
def Obligations.TableEntries : Prop :=
  ∀ (s : State) (x v : Nat) (r : Requester) (d : Dev), s.Runs → d = s.seen x →
    (d.accepts r E.L2Flush v → fld v 23 22 = 2 → fld v 21 20 = 0 → bit v 7 = false → d.get E.L2FlushBusy = 0 → maskPls (fld v 31 24) ≠ [] →
      Completes (.l2Flush x r v) s fun t => t.get E.L2FlushBusy = 1 ∧ t.net.updates = d.net.updates ++
        [{ ticket := some (d.access.nextTag, 0), op := .flush 2 (fld v 6 0) (fld v 19 8), left := (maskPls (fld v 31 24)).map fun pl => (pl, 262144) }]) ∧
    (d.accepts r E.L2Flush v → fld v 23 22 = 2 → fld v 21 20 = 0 → bit v 7 = false → d.get E.L2FlushBusy = 1 →
      Completes (.l2Flush x r v) s fun t => t.net.updates = d.net.updates ∧ WriteAnswered r E.L2Flush Status.busy t) ∧
    (∀ pl i, pl < 8 → i < 262144 → d.net.updates = [{ ticket := none, op := .flush 2 0 0, left := [(pl, 262144)] }] → d.get E.L2FlushBusy = 1 →
      d.l2Learned pl = [(i, d.row (T.L2Rows pl) i)] →
      Completes (.l2FlushComplete x) s fun t => t.get E.L2FlushBusy = 0 ∧ t.net.updates = [] ∧ t.row (T.L2Rows pl) i = 0) ∧
    (d.accepts r E.StreamUnblock v → v < 2 ^ 20 → bit (d.row T.StreamBlocked v) 7 = true →
      Completes (.streamUnblock x r v) s fun t => t.row T.StreamBlocked v = 0 ∧ t.get E.StreamsBlocked = d.get E.StreamsBlocked - 1 ∧
        WriteAnswered r E.StreamUnblock Status.ok t) ∧
    (d.accepts r E.GateUnlatch v → v < 2 ^ 20 → bit (d.row T.GateLatched v) 7 = true →
      Completes (.gateUnlatch x r v) s fun t => t.row T.GateLatched v = 0 ∧ WriteAnswered r E.GateUnlatch Status.ok t) ∧
    (d.accepts r E.HistogramClear v →
      Completes (.histogramClear x r v) s fun t => t.net.histReset = v :: d.net.histReset ∧ WriteAnswered r E.HistogramClear Status.ok t) ∧
    (d.accepts r E.QueueHighWaterClear v → v ≠ 0xFFFF → v < 2 ^ 20 →
      Completes (.queueHighWaterClear x r v) s fun t => t.row T.QueueState v = setFld (d.row T.QueueState v) 108 90 (d.occ v) ∧
        WriteAnswered r E.QueueHighWaterClear Status.ok t)

/-- Inserts, deletes and queries of the tables by software. Rests on R189, R199, R208, R211, R213, R375, R381. Choices or readings of the model: log entries 31,
44, 86 and 149. -/
def Obligations.TableOperationsWait : Prop :=
  ∀ (s : State) (x data : Nat) (r : Requester) (d : Dev), s.Runs → d = s.seen x → d.net.updates = [] →
    (d.acceptsDom r E.L2Insert (toBE 14 data) → data < 2 ^ 112 → fld data 103 88 = 0 → (data % 2 ^ 88 &&& ((tableOf (T.L2Rows 0)).map (·.resv)).getD 0) = 0 →
      Row.L2Rows.valid (data % 2 ^ 88) = 1 → Row.L2Rows.static (data % 2 ^ 88) = 1 → destRefused (l2Dest (data % 2 ^ 88)) = false →
      maskPls (fld data 111 104) ≠ [] → (maskPls (fld data 111 104)).all (fun pl =>
        (d.l2Place pl (Row.L2Rows.fid (data % 2 ^ 88)) (Row.L2Rows.mac (data % 2 ^ 88))).isSome) = true →
      Completes (.l2Insert x r data) s fun t => t.net.updates =
        [{ ticket := some (d.access.nextTag, 0), op := .l2Insert (data % 2 ^ 88), left := (maskPls (fld data 111 104)).map fun pl => (pl, 1) }]) ∧
    (d.acceptsDom r E.L2Delete (toBE 9 data) → beAt (toBE 9 data) 1 2 ≤ 4095 → maskPls (beAt (toBE 9 data) 0 1) ≠ [] →
      Completes (.l2Delete x r data) s fun t => t.net.updates =
        [{ ticket := some (d.access.nextTag, 0), op := .l2Delete (beAt (toBE 9 data) 1 2) (beAt (toBE 9 data) 3 6),
           left := (maskPls (beAt (toBE 9 data) 0 1)).map fun pl => (pl, 1) }]) ∧
    (∀ l, d.acceptsDom r E.EmInsert (toBE 30 data) → data < 2 ^ 240 → ((2 ^ 255 + data) &&& ((tableOf (T.EmRows 0)).map (·.resv)).getD 0) = 0 →
      emKeyOk (Row.EmRows.key (2 ^ 255 + data)) = true → (d.emAt 0 (Row.EmRows.key (2 ^ 255 + data))).isSome = false → d.emPlan (2 ^ 255 + data) = some l →
      Completes (.emInsert x r data) s fun t => t.net.updates =
        [{ ticket := some (d.access.nextTag, 0), op := .em l, left := (List.range 8).map fun pl => (pl, l.length) }]) ∧
    (∀ i, d.acceptsDom r E.EmDelete (toBE 20 data) → data < 2 ^ 160 → emKeyOk data = true → d.emAt 0 data = some i →
      Completes (.emDelete x r data) s fun t => t.net.updates =
        [{ ticket := some (d.access.nextTag, 0), op := .em [.put i 0], left := (List.range 8).map fun pl => (pl, 1) }]) ∧
    (d.acceptsDom r E.DeepInsert (toBE 31 data) → data < 2 ^ 248 → deepKeyOk (data / 2 ^ 80) = true → deepResultOk (data / 2 ^ 80) (data % 2 ^ 80) = true → d.hbmUp = true → d.net.slots = [] → d.net.waiting = [] →
      1 ≤ d.get E.SourceSlotLimit →
      Completes (.deepInsert x r data) s fun t => (t.slot 0).state = 1 ∧ (t.slot 0).kind = 4 ∧ (t.slot 0).data = data ∧ (t.slot 0).who = r ∧
        (t.slot 0).ticket = some (d.access.nextTag, 0)) ∧
    (d.acceptsDom r E.DeepDelete (toBE 21 data) → data < 2 ^ 168 → deepKeyOk data = true → d.hbmUp = true → d.net.slots = [] → d.net.waiting = [] →
      1 ≤ d.get E.SourceSlotLimit →
      Completes (.deepDelete x r data) s fun t => (t.slot 0).state = 1 ∧ (t.slot 0).kind = 4 ∧ (t.slot 0).data = 2 ^ 256 + data) ∧
    (∀ e, d.acceptsDom r E.DeepQueryKey (toBE 21 data) → data < 2 ^ 168 → d.finds r (getOp E.DeepQueryResult) (.entry e) = true → e.acc = .ro →
      deepKeyOk data = true → d.hbmUp = true → d.net.slots = [] → d.net.waiting = [] → 1 ≤ d.get E.SourceSlotLimit →
      Completes (.deepQuery x r data) s fun t => t.dom E.DeepQueryKey = toBE 21 data ∧ (t.slot 0).state = 1 ∧ (t.slot 0).kind = 5 ∧ (t.slot 0).data = data) ∧
    (∀ e : Nat → EntrySpec, d.acceptsDom r E.L2QueryKey (toBE 8 data) → (List.range 8).all (fun i => d.finds r (getOp (E.L2QueryResult i)) (.entry (e i)) &&
        (e i).acc == .ro && (e i).ty.bytes == 0) = true →
      Completes (.l2Query x r data) s fun t => t.dom E.L2QueryKey = toBE 8 data ∧ Answered r 1 (E.L2QueryResult 7) Status.ok (e 7).ty.code
        (toBE 11 (((d.l2At 7 (beAt (toBE 8 data) 0 2) (beAt (toBE 8 data) 2 6)).map fun i => d.row (T.L2Rows 7) i).getD 0)) t) ∧
    (∀ e, d.acceptsDom r E.EmQueryKey (toBE 20 data) → d.finds r (getOp E.EmQueryResult) (.entry e) = true → e.acc ≠ .wo → e.acc ≠ .rwt → e.ty.bytes = 0 →
      Completes (.emQuery x r data) s fun t => t.dom E.EmQueryKey = toBE 20 data ∧ Answered r 1 E.EmQueryResult Status.ok e.ty.code
        (toBE 32 (d.setDom E.EmQueryKey (toBE 20 data)).emQuery) t)

/-- The operations of the paddock. Rests on R206 to R208, R381 to R391. Choices or readings of the model: log entries 44, 45 and 46. -/
def Obligations.PaddockOperations : Prop :=
  ∀ (s : State) (x n : Nat) (r : Requester) (d : Dev), s.Runs → d = s.seen x → n < 4096 →
    (∀ k key, (d.slot n).kind = 1 → d.mayEnd n = true → (d.slot n).keys = [(k, key)] →
      Completes (.deepSearchComplete x n .clean) s fun t => (t.slot n).state = 2 ∧
        (t.slot n).hits = [(k, (d.deepFind key).1.map fun e => d.net.deep.getD e 0)] ∧
        Counted E.DeepHits (if (d.deepFind key).1.isSome then 1 else 0) d t) ∧
    (∀ k key, (d.slot n).kind = 1 → d.mayEnd n = true → (d.slot n).keys = [(k, key)] →
      Completes (.deepSearchComplete x n .uncorrected) s fun t => (t.slot n).state = 2 ∧ (t.slot n).hits = [(k, none)] ∧
        t.altCount (deepPrimary key) = 15 ∧ Counted E.DeepBucketsLost 1 d t) ∧
    (∀ q e, (d.slot n).kind = 2 → d.mayEnd n = true → (d.slot n).learn = some q → (d.deepFind (deepL2Key (d.slot n).pl q.fid q.mac)).1 = some e →
      fld (d.net.deep.getD e 0) 79 64 = q.dest →
      Completes (.deepLearnComplete x n) s fun t => (t.slot n).state = 2 ∧ t.net.deep.getD e 0 = setBit (d.net.deep.getD e 0) 254 true) ∧
    ((d.slot n).kind = 5 → d.mayEnd n = true →
      Completes (.deepAccessComplete x ⟨n, .clean⟩) s fun t => (t.slot n).state = 2 ∧
        (t.slot n).data = ((d.deepFind (d.slot n).data).1.map fun e => d.deepEntry e).getD 0) ∧
    ((d.slot n).kind = 4 → d.mayEnd n = true → (d.slot n).data < 2 ^ 256 → (d.deepFind ((d.slot n).data / 2 ^ 80)).1 = none →
      (d.deepInsert ((d.slot n).data / 2 ^ 80) ((d.slot n).data % 2 ^ 80)).1 = true →
      Completes (.deepAccessComplete x ⟨n, .clean⟩) s fun t => (t.slot n).state = 2 ∧ (t.slot n).status = (d.slot n).status ∧ Counted E.DeepEntries 1 d t) ∧
    ((d.slot n).kind = 4 ∨ (d.slot n).kind = 5 → d.mayEnd n = true →
      Completes (.deepAccessComplete x ⟨n, .uncorrected⟩) s fun t => (t.slot n).state = 2 ∧ (t.slot n).status = Status.dataError ∧
        t.altCount (deepPrimary (d.slot n).accessKey) = 15 ∧ Counted E.DeepBucketsLost 1 d t) ∧
    (∀ w, d.net.waiting = [w] → 3 < w.kind → d.net.slots = [] → 1 ≤ d.get E.SourceSlotLimit →
      Completes (.requestQueueAllocate x) s fun t => t.net.waiting = [] ∧ t.get E.RequestQueueDepth = 0 ∧ (t.slot 0).state = (if d.hbmUp then 1 else 2) ∧
        (t.slot 0).kind = w.kind ∧ (t.slot 0).data = w.data) ∧
    (∀ w, d.net.waiting = [w] → w.ticket = none → w.x + 8000 * d.get E.OpTimeoutUs ≤ d.now →
      Completes (.requestQueueTimeout x) s fun t => t.net.waiting = [] ∧ t.get E.RequestQueueDepth = 0 ∧ Counted E.PaddockCompletionCount 1 d t) ∧
    ((d.slot n).state = 1 → (d.slot n).x + (d.slot n).limit < d.now → d.net.timedOut = false →
      Completes (.paddockOpTimeout x n) s fun t => (t.slot n).state = 2 ∧ (t.slot n).timed = true ∧ (t.slot n).status = Status.timeout ∧
        LastFault Src.paddockTimeout (n * 16 + (d.slot n).gen) t) ∧
    (∀ u, d.net.slots = [(n, u)] → u.state = 2 → u.frame = none → u.ticket = none →
      Completes (.paddockRelease x) s fun t => t.slot n = { gen := (u.gen + 1) % 16 } ∧ t.get E.SlotsInUse = 0) ∧
    (∀ data, d.acceptsDom r E.PaddockComplete (toBE 8 data) → data < 2 ^ 64 → fld data 63 52 = n → (d.slot n).gen = fld data 51 48 → (d.slot n).kind = 3 → (d.slot n).state = 1 → d.overdue n = false → fld data 47 40 = 0 → fld data 38 36 = 0 → fld data 15 12 = 0 →
      Completes (.paddockComplete x r data) s fun t => (t.slot n).state = 2 ∧ (t.slot n).verdict.map (·.verdict) = some 0 ∧ Counted E.ServiceDrops 1 d t ∧
        WriteAnswered r E.PaddockComplete Status.ok t) ∧
    (∀ data, d.acceptsDom r E.PaddockComplete (toBE 8 data) → data < 2 ^ 64 → fld data 63 52 = n → (d.slot n).gen ≠ fld data 51 48 →
      Completes (.paddockComplete x r data) s fun t => t.net.slots = d.net.slots ∧ Counted E.StaleCompletions 1 d t ∧
        WriteAnswered r E.PaddockComplete Status.invalidValue t)

/-- The training of HBM. Rests on R483 to R486. Choices or readings of the model: log entries 67 and 68. -/
def Obligations.HbmTraining : Prop :=
  ∀ (s : State) (x : Nat) (r : Requester) (cmd : BitVec 192) (d : Dev), s.Runs → d = s.seen x → d.hbmUp = false →
    (∀ row stored us, d.get E.HbmState = 1 → d.hbm.session = none → d.repairPending = [] →
      Completes (.hbmTrainingDone x [row] none stored us) s fun t => t.get E.HbmState = 2 ∧ t.get E.HbmTrainTimeUs = us ∧
        t.get E.HbmTrainSource = (if stored = true ∧ d.storeOk = true then 1 else 2) ∧
        t.row T.HbmTraining 0 = d.trainedRow (stored && d.storeOk) none 0 row ∧ Row.HbmTraining.valid (t.row T.HbmTraining 0) = 1 ∧
        t.hbm.mem = (if d.hbm.keep = true ∧ d.hbm.order = (d.get (E.HbmAddressOrder 0), d.get (E.HbmAddressOrder 1)) then d.hbm.mem else [])) ∧
    (∀ rows pc stored us, d.get E.HbmState = 1 → d.hbm.session = none → d.repairPending = [] →
      Completes (.hbmTrainingDone x rows (some pc) stored us) s fun t => t.get E.HbmState = 3 ∧ t.hbm.keep = false ∧ LastFault Src.hbmTrainingFailed pc t) ∧
    (∀ x0 pc, d.hbm.session = some x0 → x0 + 8000000000 ≤ d.now →
      (List.range 64).find? (fun k => Row.HbmTraining.valid (d.row T.HbmTraining k) == 0) = some pc →
      Completes (.hbmTrainSessionTimeout x) s fun t => t.get E.HbmState = 3 ∧ t.hbm.session = none ∧ LastFault Src.hbmTrainingFailed pc t) ∧
    (∀ x0, d.hbm.session = some x0 → x0 + 8000000000 ≤ d.now →
      (List.range 64).find? (fun k => Row.HbmTraining.valid (d.row T.HbmTraining k) == 0) = none →
      Completes (.hbmTrainSessionTimeout x) s fun t => t.get E.HbmState = 2 ∧ t.hbm.session = none ∧ t.get E.HbmTrainSource = 3) ∧
    (∀ n, n = setFld cmd.toNat 191 184 1 → d.acceptsDom r E.HbmTrainCommand (trainBytes 1 cmd) → trainCommandOk 1 n = true → d.get E.HbmState = 0 →
      Completes (.setDelays x r cmd) s fun t => t.get E.HbmState = 1 ∧ t.hbm.session = some d.now ∧
        t.row T.HbmTraining (fld n 183 176) = 2 ^ 127 + fld n 55 0 * 2 ^ 64 ∧ WriteAnswered r E.HbmTrainCommand Status.ok t) ∧
    (∀ n, n = setFld cmd.toNat 191 184 2 → d.acceptsDom r E.HbmTrainCommand (trainBytes 2 cmd) → trainCommandOk 2 n = true → d.get E.HbmState = 0 →
      Completes (.writePattern x r cmd) s fun t => t.get E.HbmState = 1 ∧ t.hbm.session = some d.now ∧
        t.hbm.results.get? r.master = some (fld n 183 176 * 2 ^ 112) ∧ WriteAnswered r E.HbmTrainCommand Status.ok t) ∧
    (∀ n fb bits, n = setFld cmd.toNat 191 184 3 → d.acceptsDom r E.HbmTrainCommand (trainBytes 3 cmd) → trainCommandOk 3 n = true → d.get E.HbmState = 0 →
      Completes (.readCompare x r cmd fb bits) s fun t => t.hbm.session = some d.now ∧
        t.hbm.results.get? r.master = some (fld n 183 176 * 2 ^ 112 + (fb % 2 ^ 32 * 2 ^ 64 + bits % 2 ^ 40)) ∧ WriteAnswered r E.HbmTrainCommand Status.ok t) ∧
    (∀ n fb bits, n = setFld cmd.toNat 191 184 4 → d.acceptsDom r E.HbmTrainCommand (trainBytes 4 cmd) → trainCommandOk 4 n = true → d.get E.HbmState = 0 →
      Completes (.writeThenCompare x r cmd fb bits) s fun t => t.hbm.session = some d.now ∧
        t.hbm.results.get? r.master = some (fld n 183 176 * 2 ^ 112 + (fb % 2 ^ 32 * 2 ^ 64 + bits % 2 ^ 40)) ∧ WriteAnswered r E.HbmTrainCommand Status.ok t) ∧
    (∀ n pc, n = setFld cmd.toNat 191 184 5 → d.acceptsDom r E.HbmTrainCommand (trainBytes 5 cmd) → trainCommandOk 5 n = true → d.get E.HbmState = 0 →
      (List.range 64).find? (fun k => Row.HbmTraining.valid (d.row T.HbmTraining k) == 0) = some pc →
      Completes (.hbmTrainEnd x r cmd) s fun t => t.get E.HbmState = 3 ∧ t.hbm.session = none ∧ LastFault Src.hbmTrainingFailed pc t ∧
        WriteAnswered r E.HbmTrainCommand Status.ok t)

/-- HBM in service. Rests on R260, R487 to R495. Choices or readings of the model: log entries 70, 74 and 158. -/
def Obligations.HbmInService : Prop :=
  ∀ (s : State) (x pc : Nat) (d : Dev), s.Runs → d = s.seen x → pc < 64 → d.hbmUp = true →
    (∀ rd wr a b q, 16 ≤ rd → 16 ≤ wr → q = setFld (setFld (d.row T.HbmTraining pc) 87 80 rd) 79 72 wr →
      Completes (.hbmRetrainSlice x pc rd wr a b) s fun t => t.get E.HbmState = 2 ∧
        t.row T.HbmTraining pc = setFld (setFld q 103 96 (oneStep (Row.HbmTraining.rdDelay q) a)) 111 104 (oneStep (Row.HbmTraining.wrDelay q) b)) ∧
    (∀ wr a b, Completes (.hbmRetrainSlice x pc 0 wr a b) s fun t => t.get E.HbmState = 3 ∧ t.hbm.keep = false ∧ LastFault Src.hbmEyeLost pc t) ∧
    (∀ bank, d.hbm.asleep.contains pc = false → d.get E.HbmRefreshMode = 1 →
      Completes (.hbmRefresh x pc bank false) s fun t => t.hbm.postponed.getD (pc * 32 + bank) 0 = 0) ∧
    (∀ bank, d.hbm.asleep.contains pc = false → d.get E.HbmRefreshMode = 1 → d.hbm.postponed.getD (pc * 32 + bank) 0 < d.get E.HbmRefreshPostponeMax →
      Completes (.hbmRefresh x pc bank true) s fun t =>
        t.hbm.postponed.getD (pc * 32 + bank) 0 = d.hbm.postponed.getD (pc * 32 + bank) 0 + 1) ∧
    (∀ a b, Completes (.hbmTempRead x a b) s fun t => t.get (E.HbmStackTempC 0) = enc 32 a ∧ t.get (E.HbmStackTempC 1) = enc 32 b) ∧
    (d.get E.HbmIdleSelfRefreshUs ≠ 0 → Completes (.hbmSelfRefreshEntry x pc) s fun t => t.hbm.asleep.contains pc = true ∧ t.get E.HbmState = 2) ∧
    (d.get E.HbmIdleSelfRefreshUs = 0 → Completes (.hbmSelfRefreshEntry x pc) s fun t => t.hbm = d.hbm) ∧
    (Completes (.hbmSelfRefreshWake x pc) s fun t => t.hbm.asleep.contains pc = false) ∧
    (∀ a, d.get E.ThrottleLevel = 0 →
      Completes (.hbmPatrolRead x a .clean) s fun t => t.hbm.patrolAt = a ∧ t.hbm.errs = (if a < d.hbm.patrolAt then [] else d.hbm.errs) ∧ t.faults = d.faults) ∧
    (∀ a, d.get E.ThrottleLevel = 0 →
      Completes (.hbmPatrolRead x a .corrected) s fun t => t.hbm.patrolAt = a ∧ Counted E.HbmCorrected 1 d t ∧ LastFault Src.hbmCorrected a t) ∧
    (∀ a, d.get E.ThrottleLevel = 0 → hbmRegion a = 3 → bufferAt a = none →
      Completes (.hbmPatrolRead x a .uncorrected) s fun t => Counted E.HbmUncorrected 1 d t ∧ LastFault Src.hbmUncorrected a t) ∧
    (∀ bank row k, bank < 32 → row < 2 ^ 14 → k = (pc * 32 + bank) * 2 ^ 14 + row → d.get E.RowRepairThreshold ≤ d.hbm.errs.getD k 0 →
      d.hbm.soft.contains k = false →
      Completes (.hbmRowRepair x pc bank row) s fun t => t.hbm.errs.getD k 0 = 0 ∧ t.hbm.soft = k :: d.hbm.soft ∧
        t.row T.HbmRepairs pc = setFld (d.row T.HbmRepairs pc) 31 16 ((d.hbm.soft.filter fun j => j / 2 ^ 19 == pc).length + 1)) ∧
    (∀ cell, d.get E.BufferCellsReplaced < 1024 →
      Completes (.bufferCellPatrol x cell true) s fun t => Counted E.BufferCellsReplaced 1 d t ∧ t.faults = d.faults) ∧
    (∀ cell, Completes (.bufferCellPatrol x cell false) s fun t => t.get E.BufferCellsReplaced = d.get E.BufferCellsReplaced) ∧
    (∀ lane a b, lane < 96 → Completes (.laneEyeMarginUpdate x lane a b) s fun t => t.row T.LaneEyeMargin lane = a % 65536 * 65536 + b % 65536)

/-- The pool commands of a master. Rests on R496 to R501. Choices or readings of the model: log entry 71. -/
def Obligations.PoolCommands : Prop :=
  ∀ (s : State) (x h : Nat) (r : Requester) (d : Dev), s.Runs → d = s.seen x → r.master < 64 → h < 2 ^ 32 → d.hbmUp = true →
    (∀ size p b, d.acceptsDom r E.PoolCommand (poolBytes 1 0 size 0) → 1 ≤ size → size ≤ 65536 → allocPools size false = [p] → d.freeBuf p = some b →
      d.holding r.master p < d.quota r.master p →
      Completes (.alloc x r 0 size) s fun t => t.hbm.bufs.get? b = some { owners := 2 ^ r.master, last := r.master } ∧
        t.hbm.poolRes.get? r.master = some (poolResult Status.ok 0 r.master 0 (d.bufHandle b) (bufAddr b) (2 ^ r.master)) ∧
        WriteAnswered r E.PoolCommand Status.ok t) ∧
    (∀ size p, d.acceptsDom r E.PoolCommand (poolBytes 1 0 size 0) → 1 ≤ size → size ≤ 65536 → allocPools size false = [p] → d.freeBuf p = none →
      Completes (.alloc x r 0 size) s fun t => t.hbm.bufs = d.hbm.bufs ∧ t.hbm.poolRes.get? r.master = some (poolResult Status.full 2 0 0 0 0 0) ∧
        Counted E.PoolRefusals 1 d t ∧ WriteAnswered r E.PoolCommand Status.ok t) ∧
    (∀ b v, d.acceptsDom r E.PoolCommand (poolBytes 2 0 h 0) → d.named h true = (0, some (b, v)) → bit v.owners r.master = true → v.last = r.master →
      v.shared = false →
      Completes (.free x r h) s fun t => t.hbm.bufs.get? b = none ∧ t.bufGen b = (d.bufGen b + 1) % 64 ∧ WriteAnswered r E.PoolCommand Status.ok t) ∧
    (∀ b v owners, d.acceptsDom r E.PoolCommand (poolBytes 3 0 h owners) → owners < 2 ^ 64 → d.named h false = (0, some (b, v)) → bit v.owners r.master = true →
      v.last = r.master → ((ownersOf owners).any fun k => !listedMasters.contains k) = false → bit owners r.master = true →
      (d.hbm.bufs.filter fun e => e.1 != b && e.2.shared).length < 16384 →
      Completes (.share x r h owners) s fun t => t.hbm.bufs.get? b = some { v with owners } ∧ WriteAnswered r E.PoolCommand Status.ok t) ∧
    (∀ b v, d.acceptsDom r E.PoolCommand (poolBytes 4 0 h 0) → d.named h false = (0, some (b, v)) → bit v.owners r.master = true → v.last ≠ r.master →
      Completes (.release x r h) s fun t => t.hbm.bufs.get? b = some { v with owners := setBit v.owners r.master false } ∧
        WriteAnswered r E.PoolCommand Status.ok t) ∧
    (∀ b v, d.acceptsDom r E.PoolCommand (poolBytes 5 0 h 0) → d.named h false = (0, some (b, v)) →
      Completes (.query x r h) s fun t => t.hbm.bufs = d.hbm.bufs ∧ t.hbm.poolRes.get? r.master = some (d.bufResult Status.ok 0 b) ∧
        WriteAnswered r E.PoolCommand Status.ok t) ∧
    (∀ m b v, d.acceptsDom r E.PoolCommand (poolBytes 6 0 0 (m * 2 ^ 56)) → m < 64 → r.master = 0x10 ∨ (1 ≤ r.master ∧ r.master ≤ 4) →
      d.hbm.bufs = [(b, v)] → bit v.owners m = true → ownersOf (setBit v.owners m false) = [] →
      Completes (.reclaim x r m) s fun t => t.hbm.bufs = [] ∧ WriteAnswered r E.PoolCommand Status.ok t)

/-- Every step keeps the test access port registers within their widths. Rests on R585. Choices or readings of the model: log entries 22 and 23. -/
def Obligations.EveryStepKeepsTapWidths : Prop :=
  ∀ (s t : State), s.dev.tap.InWidth → step s = .next t → t.dev.tap.InWidth

/-- What the packet path leaves as it was. -/
def Obligations.PacketPathFrame : Prop :=
  ∀ (c : Instr) (s t : State), c.onPackets = true → exec c s = .next t →
    t.dev.time = s.dev.time ∧ t.dev.wd = s.dev.wd ∧ t.dev.power = s.dev.power ∧ t.dev.ports = s.dev.ports ∧ t.dev.commit = s.dev.commit ∧
      t.dev.casc = s.dev.casc ∧ t.dev.hbm = s.dev.hbm ∧ t.dev.fw = s.dev.fw ∧ t.dev.tele = s.dev.tele

/-- What the events of ports, time, the yard and the pair leave as it was. -/
def Obligations.PortTimeYardAndPairFrame : Prop :=
  (∀ (c : Instr) (s t : State), exec c s = .next t →
     (c.onPorts = true → t.dev.recent = s.dev.recent ∧ t.dev.wd = s.dev.wd ∧ t.dev.power = s.dev.power ∧ t.dev.commit = s.dev.commit ∧
       t.dev.yard = s.dev.yard ∧ t.dev.pair = s.dev.pair ∧ t.dev.casc = s.dev.casc ∧ t.dev.hbm = s.dev.hbm ∧ t.dev.fw = s.dev.fw ∧
       t.dev.tele = s.dev.tele) ∧
     (c.onClocks = true → t.dev.wd = s.dev.wd ∧ t.dev.power = s.dev.power ∧ t.dev.ports = s.dev.ports ∧ t.dev.commit = s.dev.commit ∧
       t.dev.casc = s.dev.casc ∧ t.dev.hbm = s.dev.hbm ∧ t.dev.fw = s.dev.fw ∧ t.dev.tele = s.dev.tele)) ∧
  (∀ (c : Instr) (s t : State), exec c s = .next t →
     (c.onYard = true → t.dev.time = s.dev.time ∧ t.dev.wd = s.dev.wd ∧ t.dev.power = s.dev.power ∧ t.dev.ports = s.dev.ports ∧ t.dev.net = s.dev.net ∧
       t.dev.commit = s.dev.commit ∧ t.dev.casc = s.dev.casc ∧ t.dev.hbm = s.dev.hbm ∧ t.dev.fw = s.dev.fw ∧ t.dev.tele = s.dev.tele) ∧
     (c.onPair = true → t.dev.wd = s.dev.wd ∧ t.dev.power = s.dev.power ∧ t.dev.commit = s.dev.commit ∧ t.dev.casc = s.dev.casc ∧
       t.dev.hbm = s.dev.hbm ∧ t.dev.fw = s.dev.fw ∧ t.dev.tele = s.dev.tele))

/-- What accesses of the host block, resets, firmware and the access paths leave as it was. -/
def Obligations.HostFirmwareAndAccessFrame : Prop :=
  (∀ (c : Instr) (s t : State), exec c s = .next t →
     (c.onHost = true → t.dev.time = s.dev.time ∧ t.dev.power = s.dev.power ∧ t.dev.ports = s.dev.ports ∧ t.dev.net = s.dev.net ∧
       t.dev.commit = s.dev.commit ∧ t.dev.yard = s.dev.yard ∧ t.dev.pair = s.dev.pair ∧ t.dev.casc = s.dev.casc ∧ t.dev.hbm = s.dev.hbm ∧
       t.dev.fw = s.dev.fw ∧ t.dev.tele = s.dev.tele) ∧
     (c.onResets = true → t.dev.time = s.dev.time ∧ t.dev.power = s.dev.power ∧ t.dev.ports = s.dev.ports ∧ t.dev.net = s.dev.net ∧
       t.dev.commit = s.dev.commit ∧ t.dev.pair = s.dev.pair ∧ t.dev.casc = s.dev.casc ∧ t.dev.hbm = s.dev.hbm ∧ t.dev.fw = s.dev.fw)) ∧
  (∀ (c : Instr) (s t : State), exec c s = .next t →
     (c.onFirmware = true → t.dev.time = s.dev.time ∧ t.dev.power = s.dev.power ∧ t.dev.ports = s.dev.ports ∧ t.dev.net = s.dev.net ∧
       t.dev.commit = s.dev.commit ∧ t.dev.pair = s.dev.pair ∧ t.dev.hbm = s.dev.hbm ∧ t.dev.tele = s.dev.tele) ∧
     (c.onAccess = true → t.dev.time = s.dev.time ∧ t.dev.faults = s.dev.faults ∧ t.dev.wd = s.dev.wd ∧ t.dev.power = s.dev.power ∧
       t.dev.ports = s.dev.ports ∧ t.dev.commit = s.dev.commit ∧ t.dev.yard = s.dev.yard ∧ t.dev.pair = s.dev.pair ∧ t.dev.hbm = s.dev.hbm ∧
       t.dev.fw = s.dev.fw ∧ t.dev.tele = s.dev.tele))

/-- What the events of HBM, the paddock and telemetry leave as it was. -/
def Obligations.HbmPaddockAndTelemetryFrame : Prop :=
  ∀ (c : Instr) (s t : State), exec c s = .next t →
    (c.onHbm = true → t.dev.time = s.dev.time ∧ t.dev.wd = s.dev.wd ∧ t.dev.power = s.dev.power ∧ t.dev.ports = s.dev.ports ∧
      t.dev.commit = s.dev.commit ∧ t.dev.yard = s.dev.yard ∧ t.dev.pair = s.dev.pair ∧ t.dev.casc = s.dev.casc ∧ t.dev.fw = s.dev.fw ∧
      t.dev.tele = s.dev.tele) ∧
    (c.onHbm = true → (∀ a b e f g, c ≠ .hbmTrainingDone a b e f g) → (∀ a, c ≠ .hbmTrainSessionTimeout a) → (∀ a b e, c ≠ .bar2Write a b e) →
      t.dev.hbm.mem = s.dev.hbm.mem) ∧
    (c.onPaddock = true → t.dev.time = s.dev.time ∧ t.dev.wd = s.dev.wd ∧ t.dev.power = s.dev.power ∧ t.dev.ports = s.dev.ports ∧
      t.dev.yard = s.dev.yard ∧ t.dev.pair = s.dev.pair ∧ t.dev.hbm = s.dev.hbm ∧ t.dev.fw = s.dev.fw ∧ t.dev.tele = s.dev.tele) ∧
    (c.onTelemetry = true → t.dev.time = s.dev.time ∧ t.dev.wd = s.dev.wd ∧ t.dev.power = s.dev.power ∧ t.dev.ports = s.dev.ports ∧
      t.dev.net = s.dev.net ∧ t.dev.commit = s.dev.commit ∧ t.dev.yard = s.dev.yard ∧ t.dev.pair = s.dev.pair ∧ t.dev.fw = s.dev.fw)

/-- What accepted writes of entries that act leave as it was. -/
def Obligations.DictionaryActionsFrame : Prop :=
  ∀ (s : State) (x i v : Nat) (r : Requester) (d : Dev), s.Runs → d = s.seen x → i < 2 →
    (∀ c k, (c, k) ∈ [(Instr.setTime x r i v, E.SetTime i), (.reacquire x r i v, E.Reacquire i), (.outputDomainWrite x r v, E.OutputDomain)] → d.accepts r k v →
      Completes c s fun t => t.net = d.net ∧ t.ports = d.ports ∧ t.power = d.power ∧ t.commit = d.commit ∧ t.yard = d.yard ∧ t.pair = d.pair ∧ t.casc = d.casc ∧
        t.hbm = d.hbm ∧ t.fw = d.fw ∧ t.tele = d.tele ∧ t.wd = d.wd ∧ t.host = d.host ∧
        ∀ j, j ∉ [E.AccessErrors, E.EventTraceCount, E.Modified] → t.get j = d.get j) ∧
    (∀ c b size h o, (c, b) ∈ [(Instr.alloc x r 0 size, poolBytes 1 0 size 0), (.free x r h, poolBytes 2 0 h 0), (.share x r h o, poolBytes 3 0 h o),
        (.release x r h, poolBytes 4 0 h 0), (.query x r h, poolBytes 5 0 h 0)] → d.acceptsDom r E.PoolCommand b →
      Completes c s fun t => t.time = d.time ∧ t.net = d.net ∧ t.ports = d.ports ∧ t.power = d.power ∧ t.commit = d.commit ∧ t.yard = d.yard ∧ t.pair = d.pair ∧
        t.casc = d.casc ∧ t.fw = d.fw ∧ t.tele = d.tele ∧ t.hbm.mem = d.hbm.mem) ∧
    (d.accepts r E.TakeoverArm v →
      Completes (.takeoverArm x r v) s fun t => t.time = d.time ∧ t.net = d.net ∧ t.ports = d.ports ∧ t.power = d.power ∧ t.commit = d.commit ∧
        t.yard = d.yard ∧ t.pair = d.pair ∧ t.casc = d.casc ∧ t.hbm = d.hbm ∧ t.fw = d.fw ∧ t.tele = d.tele)
end

