-- ==== Sys2Proof/Laws/Maps.lean ====
section
/-!
SUPPORT. Laws of the finite maps that the state is held in: reading after writing, and the canonical form that every operation keeps.
-/
namespace Sys2Proof.FMap

variable {α : Type}

/-- A key just set reads its value. -/
@[simp] theorem get?_set_same (k : Nat) (v : α) (m : FMap α) : get? k (set k v m) = some v := by
  induction m with
  | nil => simp [FMap.set, FMap.get?]
  | cons e m ih =>
    obtain ⟨k', v'⟩ := e
    simp only [FMap.set]
    split
    · simp [FMap.get?]
    · split
      · simp [FMap.get?]
      · rename_i h1 h2
        simp [FMap.get?, h1, h2, ih]

/-- Setting a key leaves every other key as it was. -/
theorem get?_set_ne {j k : Nat} (h : j ≠ k) (v : α) (m : FMap α) : get? j (set k v m) = get? j m := by
  induction m with
  | nil =>
    simp only [FMap.set, FMap.get?, if_neg h]
    split <;> rfl
  | cons e m ih =>
    obtain ⟨k', v'⟩ := e
    simp only [FMap.set]
    by_cases h1 : k < k'
    · simp only [if_pos h1, FMap.get?, if_neg h]
      by_cases h2 : j < k
      · have : j ≠ k' := by omega
        have : j < k' := by omega
        simp [*]
      · simp [h2]
    · by_cases h2 : k = k'
      · subst h2; simp [FMap.get?, h]
      · simp only [if_neg h1, if_neg h2, FMap.get?]
        rw [ih]

/-- Reading key j after setting key k. -/
theorem get?_set (j k : Nat) (v : α) (m : FMap α) : get? j (set k v m) = if j = k then some v else get? j m := by
  by_cases h : j = k
  · subst h; simp
  · simp [h, get?_set_ne h]

/-- A key just set reads its value, whatever the default. -/
@[simp] theorem getD_set_same (k : Nat) (v a : α) (m : FMap α) : getD (set k v m) k a = v := by simp [getD]

/-- Reading key j with a default after setting key k. -/
theorem getD_set (j k : Nat) (v a : α) (m : FMap α) : getD (set k v m) j a = if j = k then v else getD m j a := by
  simp only [getD, get?_set]; split <;> simp

/-- Every key of a map in canonical form whose first key is above k is above k. -/
theorem wf_tail {e : Nat × α} {m : FMap α} (h : wf (e :: m) = true) : wf m = true := by
  cases m with
  | nil => rfl
  | cons e' m =>
    obtain ⟨k, v⟩ := e; obtain ⟨k', v'⟩ := e'
    simp [FMap.wf] at h; exact h.2

/-- The first key of a map that is set: the lower of the two. -/
theorem set_head (k : Nat) (v : α) (m : FMap α) : ∃ e m', set k v m = e :: m' ∧ (e.1 = k ∨ ∃ e' m'', m = e' :: m'' ∧ e.1 = e'.1 ∧ e'.1 < k) := by
  cases m with
  | nil => exact ⟨(k, v), [], rfl, .inl rfl⟩
  | cons e m =>
    obtain ⟨k', v'⟩ := e
    simp only [FMap.set]
    split
    · exact ⟨_, _, rfl, .inl rfl⟩
    · split
      · exact ⟨_, _, rfl, .inl rfl⟩
      · exact ⟨_, _, rfl, .inr ⟨_, _, rfl, rfl, by simp; omega⟩⟩

/-- Setting a key keeps the canonical form. -/
theorem wf_set (k : Nat) (v : α) (m : FMap α) (h : wf m = true) : wf (set k v m) = true := by
  induction m with
  | nil => rfl
  | cons e m ih =>
    obtain ⟨k', v'⟩ := e
    have ht := ih (wf_tail h)
    simp only [FMap.set]
    split
    · rename_i h1; simp [FMap.wf, h1, h]
    · split
      · rename_i h1 h2
        subst h2
        cases m with
        | nil => rfl
        | cons e m => obtain ⟨k2, v2⟩ := e; simpa [FMap.wf] using h
      · rename_i h1 h2
        have hk : k' < k := by omega
        obtain ⟨e, m', hs, hh⟩ := set_head k v m
        rw [hs] at ht ⊢
        obtain ⟨ke, ve⟩ := e
        have : k' < ke := by
          rcases hh with hh | ⟨e', m'', hm, h3, h4⟩
          · simp at hh; omega
          · subst hm
            obtain ⟨k2, v2⟩ := e'
            simp [FMap.wf] at h
            simp at h3; omega
        simp [FMap.wf, this, ht]

/-- Taking out elements keeps the canonical form: so do erasing a key and cutting a range. -/
theorem wf_iff_pairwise (m : FMap α) : wf m = true ↔ m.Pairwise fun a b => a.1 < b.1 := by
  induction m with
  | nil => simp [FMap.wf]
  | cons e m ih =>
    obtain ⟨k, v⟩ := e
    cases m with
    | nil => simp [FMap.wf]
    | cons e' m =>
      obtain ⟨k', v'⟩ := e'
      simp only [FMap.wf, Bool.and_eq_true, decide_eq_true_eq, ih]
      constructor
      · rintro ⟨h, hp⟩
        refine List.pairwise_cons.2 ⟨?_, hp⟩
        intro a ha
        rcases List.mem_cons.1 ha with rfl | ha
        · exact h
        · exact Nat.lt_trans h ((List.pairwise_cons.1 hp).1 a ha)
      · intro hp
        exact ⟨(List.pairwise_cons.1 hp).1 (k', v') (by simp), (List.pairwise_cons.1 hp).2⟩

/-- A filtered map stays in canonical form. -/
theorem wf_filter (p : Nat × α → Bool) (m : FMap α) (h : wf m = true) : wf (m.filter p) = true :=
  (wf_iff_pairwise _).2 (((wf_iff_pairwise _).1 h).filter p)

/-- A range of a map stays in canonical form. -/
theorem wf_between (m : FMap α) (lo hi : Nat) (h : wf m = true) : wf (between m lo hi) = true := wf_filter _ m h

/-- Erasing a key takes elements out and nothing else. -/
theorem erase_sublist (k : Nat) (m : FMap α) : (erase k m).Sublist m := List.filter_sublist

/-- Erasing a key keeps the canonical form. -/
theorem wf_erase (k : Nat) (m : FMap α) (h : wf m = true) : wf (erase k m) = true :=
  (wf_iff_pairwise _).2 (((wf_iff_pairwise _).1 h).sublist (erase_sublist k m))

/-- An erased key reads nothing. -/
theorem get?_erase_same (k : Nat) (m : FMap α) : get? k (erase k m) = none := by
  unfold FMap.erase
  induction m with
  | nil => rfl
  | cons e m ih =>
    obtain ⟨k', v'⟩ := e
    simp only [List.filter]
    split
    · rename_i h
      have hk : k ≠ k' := fun e => by subst e; simp at h
      simp only [FMap.get?, hk, if_false]
      split
      · rfl
      · exact ih
    · exact ih

end Sys2Proof.FMap
end

