-- ==== Sys2Proof/Laws/State.lean ====
section
/-!
SUPPORT. What each shared operation over the state leaves alone, and what it writes: one lemma per field per operation, all tagged for simp, so
that no later proof unfolds a record update. Reading the dictionary is brought to the level of `Dict`.
-/
namespace Sys2Proof.Machine

/-! ### Reading and writing the dictionary -/

/-- An entry is read from the dictionary. -/
@[simp] theorem Dev.get_eq (d : Dev) (k : Nat) : d.get k = d.dict.get k := rfl
/-- A BOOL entry is read from the dictionary. -/
@[simp] theorem Dev.getB_eq (d : Dev) (k : Nat) : d.getB k = (d.dict.get k != 0) := rfl
/-- A row is read from the dictionary. -/
@[simp] theorem Dev.row_eq (d : Dev) (t i : Nat) : d.row t i = d.dict.row t i := rfl
/-- A DOMAIN is read from the dictionary. -/
@[simp] theorem Dev.dom_eq (d : Dev) (k : Nat) : d.dom k = d.dict.dom k := rfl

/-- Reading an entry after an entry was set. -/
theorem Dict.get_set (c : Dict) (j k v : Nat) : (c.set k v).get j = if j = k then v else c.get j := by
  simp only [Dict.get, Dict.set, FMap.get?_set]; split <;> simp
/-- An entry just set. -/
@[simp] theorem Dict.get_set_same (c : Dict) (k v : Nat) : (c.set k v).get k = v := by simp [Dict.get_set]
/-- Another entry than the one set. -/
@[simp] theorem Dict.get_set_ne (c : Dict) {j k : Nat} (v : Nat) (h : j ≠ k) : (c.set k v).get j = c.get j := by simp [Dict.get_set, h]
/-- Reading an entry after a row was set. -/
@[simp] theorem Dict.get_setRow (c : Dict) (k t i v : Nat) : (c.setRow t i v).get k = c.get k := rfl
/-- Reading an entry after a DOMAIN was set. -/
@[simp] theorem Dict.get_setDom (c : Dict) (k j : Nat) (b : Bytes) : (c.setDom j b).get k = c.get k := rfl
/-- Reading a row after an entry was set. -/
@[simp] theorem Dict.row_set (c : Dict) (t i k v : Nat) : (c.set k v).row t i = c.row t i := rfl
/-- Reading a row after a DOMAIN was set. -/
@[simp] theorem Dict.row_setDom (c : Dict) (t i k : Nat) (b : Bytes) : (c.setDom k b).row t i = c.row t i := rfl
/-- Reading a row after a row was set. -/
theorem Dict.row_setRow (c : Dict) (t i t' i' v : Nat) :
    (c.setRow t' i' v).row t i = if t * 2 ^ 20 + i = t' * 2 ^ 20 + i' then v else c.row t i := by
  simp only [Dict.row, Dict.setRow, FMap.get?_set]; split <;> simp
/-- A row just set. -/
@[simp] theorem Dict.row_setRow_same (c : Dict) (t i v : Nat) : (c.setRow t i v).row t i = v := by simp [Dict.row_setRow]
/-- Another row of the same TABLE. -/
@[simp] theorem Dict.row_setRow_ne (c : Dict) (t : Nat) {i j : Nat} (v : Nat) (h : i ≠ j) : (c.setRow t j v).row t i = c.row t i := by
  have : t * 2 ^ 20 + i ≠ t * 2 ^ 20 + j := by omega
  simp only [Dict.row_setRow, if_neg this]
/-- A row of another TABLE. -/
@[simp] theorem Dict.row_setRow_table (c : Dict) {t t' i i' : Nat} (v : Nat) (h : t ≠ t') (hi : i < 2 ^ 20) (hi' : i' < 2 ^ 20) :
    (c.setRow t' i' v).row t i = c.row t i := by
  have : t * 2 ^ 20 + i ≠ t' * 2 ^ 20 + i' := by omega
  simp only [Dict.row_setRow, if_neg this]
/-- A DOMAIN just set. -/
@[simp] theorem Dict.dom_setDom_same (c : Dict) (k : Nat) (b : Bytes) : (c.setDom k b).dom k = b := by
  simp [Dict.dom, Dict.setDom]
/-- Another DOMAIN than the one set. -/
@[simp] theorem Dict.dom_setDom_ne (c : Dict) {j k : Nat} (b : Bytes) (h : j ≠ k) : (c.setDom k b).dom j = c.dom j := by
  simp [Dict.dom, Dict.setDom, FMap.get?_set_ne h]
/-- Reading a DOMAIN after an entry was set. -/
@[simp] theorem Dict.dom_set (c : Dict) (j k v : Nat) : (c.set k v).dom j = c.dom j := rfl
/-- Reading a DOMAIN after a row was set. -/
@[simp] theorem Dict.dom_setRow (c : Dict) (j t i v : Nat) : (c.setRow t i v).dom j = c.dom j := rfl

/-! ### What each operation writes -/

@[simp] theorem Dev.setNow_now (t : Nat) (d : Dev) : (d.setNow t).now = t := rfl
@[simp] theorem Dev.setTap_tap (v : Tap) (d : Dev) : (d.setTap v).tap = v := rfl
@[simp] theorem Dev.store_dict (k v : Nat) (d : Dev) : (d.store k v).dict = d.dict.set k v := rfl
@[simp] theorem Dev.setRow_dict (t i v : Nat) (d : Dev) : (d.setRow t i v).dict = d.dict.setRow t i v := rfl
@[simp] theorem Dev.setRowFld_dict (t i hi lo v : Nat) (d : Dev) :
    (d.setRowFld t i hi lo v).dict = d.dict.setRow t i (setFld (d.dict.row t i) hi lo v) := rfl
@[simp] theorem Dev.addRow_dict (t i hi lo n : Nat) (d : Dev) :
    (d.addRow t i hi lo n).dict = d.dict.setRow t i (setFld (d.dict.row t i) hi lo (fld (d.dict.row t i) hi lo + n)) := rfl
@[simp] theorem Dev.setDom_dict (k : Nat) (b : Bytes) (d : Dev) : (d.setDom k b).dict = d.dict.setDom k b := rfl
@[simp] theorem Dev.emit_out (o : Output) (d : Dev) : (d.emit o).out = o :: d.out := rfl
@[simp] theorem Dev.put_dict (k v : Nat) (d : Dev) : (d.put k v).dict = d.dict.set k v := by simp only [Dev.put]; split <;> rfl
@[simp] theorem Dev.putB_dict (k : Nat) (b : Bool) (d : Dev) : (d.putB k b).dict = d.dict.set k b.toNat := by unfold Dev.putB; simp
@[simp] theorem Dev.add_dict (k n : Nat) (d : Dev) : (d.add k n).dict = d.dict.set k (counted k (d.dict.get k) n) := by unfold Dev.add; simp
@[simp] theorem Dev.inc_dict (k : Nat) (d : Dev) : (d.inc k).dict = d.dict.set k (counted k (d.dict.get k) 1) := by unfold Dev.inc; simp
@[simp] theorem Dev.modHost_host (g : HostSt → HostSt) (d : Dev) : (d.modHost g).host = g d.host := rfl
@[simp] theorem Dev.reportBy_reported (src addr m a : Nat) (d : Dev) : (d.reportBy src addr m a).faults.reported =
    d.faults.reported ++ [{ rep := ⟨src, addr, m, a⟩, x := d.now, time := d.stamp, acq := d.acqNow }] := rfl
@[simp] theorem Dev.report_reported (src addr : Nat) (d : Dev) : (d.report src addr).faults.reported =
    d.faults.reported ++ [{ rep := ⟨src, addr, 0, 3⟩, x := d.now, time := d.stamp, acq := d.acqNow }] := rfl

/-! ### What each operation leaves alone -/

@[simp] theorem Dev.setNow_frees (t : Nat) (d : Dev) : (d.setNow t).frees = d.frees := rfl
@[simp] theorem Dev.setNow_dict (t : Nat) (d : Dev) : (d.setNow t).dict = d.dict := rfl
@[simp] theorem Dev.setNow_seqs (t : Nat) (d : Dev) : (d.setNow t).seqs = d.seqs := rfl
@[simp] theorem Dev.setNow_recent (t : Nat) (d : Dev) : (d.setNow t).recent = d.recent := rfl
@[simp] theorem Dev.setNow_time (t : Nat) (d : Dev) : (d.setNow t).time = d.time := rfl
@[simp] theorem Dev.setNow_access (t : Nat) (d : Dev) : (d.setNow t).access = d.access := rfl
@[simp] theorem Dev.setNow_faults (t : Nat) (d : Dev) : (d.setNow t).faults = d.faults := rfl
@[simp] theorem Dev.setNow_wd (t : Nat) (d : Dev) : (d.setNow t).wd = d.wd := rfl
@[simp] theorem Dev.setNow_power (t : Nat) (d : Dev) : (d.setNow t).power = d.power := rfl
@[simp] theorem Dev.setNow_out (t : Nat) (d : Dev) : (d.setNow t).out = d.out := rfl
@[simp] theorem Dev.setNow_ports (t : Nat) (d : Dev) : (d.setNow t).ports = d.ports := rfl
@[simp] theorem Dev.setNow_net (t : Nat) (d : Dev) : (d.setNow t).net = d.net := rfl
@[simp] theorem Dev.setNow_host (t : Nat) (d : Dev) : (d.setNow t).host = d.host := rfl
@[simp] theorem Dev.setNow_commit (t : Nat) (d : Dev) : (d.setNow t).commit = d.commit := rfl
@[simp] theorem Dev.setNow_yard (t : Nat) (d : Dev) : (d.setNow t).yard = d.yard := rfl
@[simp] theorem Dev.setNow_pair (t : Nat) (d : Dev) : (d.setNow t).pair = d.pair := rfl
@[simp] theorem Dev.setNow_casc (t : Nat) (d : Dev) : (d.setNow t).casc = d.casc := rfl
@[simp] theorem Dev.setNow_hbm (t : Nat) (d : Dev) : (d.setNow t).hbm = d.hbm := rfl
@[simp] theorem Dev.setNow_fw (t : Nat) (d : Dev) : (d.setNow t).fw = d.fw := rfl
@[simp] theorem Dev.setNow_tele (t : Nat) (d : Dev) : (d.setNow t).tele = d.tele := rfl
@[simp] theorem Dev.setNow_tap (t : Nat) (d : Dev) : (d.setNow t).tap = d.tap := rfl

@[simp] theorem Dev.setTap_now (v : Tap) (d : Dev) : (d.setTap v).now = d.now := rfl
@[simp] theorem Dev.setTap_frees (v : Tap) (d : Dev) : (d.setTap v).frees = d.frees := rfl
@[simp] theorem Dev.setTap_dict (v : Tap) (d : Dev) : (d.setTap v).dict = d.dict := rfl
@[simp] theorem Dev.setTap_seqs (v : Tap) (d : Dev) : (d.setTap v).seqs = d.seqs := rfl
@[simp] theorem Dev.setTap_recent (v : Tap) (d : Dev) : (d.setTap v).recent = d.recent := rfl
@[simp] theorem Dev.setTap_time (v : Tap) (d : Dev) : (d.setTap v).time = d.time := rfl
@[simp] theorem Dev.setTap_access (v : Tap) (d : Dev) : (d.setTap v).access = d.access := rfl
@[simp] theorem Dev.setTap_faults (v : Tap) (d : Dev) : (d.setTap v).faults = d.faults := rfl
@[simp] theorem Dev.setTap_wd (v : Tap) (d : Dev) : (d.setTap v).wd = d.wd := rfl
@[simp] theorem Dev.setTap_power (v : Tap) (d : Dev) : (d.setTap v).power = d.power := rfl
@[simp] theorem Dev.setTap_out (v : Tap) (d : Dev) : (d.setTap v).out = d.out := rfl
@[simp] theorem Dev.setTap_ports (v : Tap) (d : Dev) : (d.setTap v).ports = d.ports := rfl
@[simp] theorem Dev.setTap_net (v : Tap) (d : Dev) : (d.setTap v).net = d.net := rfl
@[simp] theorem Dev.setTap_host (v : Tap) (d : Dev) : (d.setTap v).host = d.host := rfl
@[simp] theorem Dev.setTap_commit (v : Tap) (d : Dev) : (d.setTap v).commit = d.commit := rfl
@[simp] theorem Dev.setTap_yard (v : Tap) (d : Dev) : (d.setTap v).yard = d.yard := rfl
@[simp] theorem Dev.setTap_pair (v : Tap) (d : Dev) : (d.setTap v).pair = d.pair := rfl
@[simp] theorem Dev.setTap_casc (v : Tap) (d : Dev) : (d.setTap v).casc = d.casc := rfl
@[simp] theorem Dev.setTap_hbm (v : Tap) (d : Dev) : (d.setTap v).hbm = d.hbm := rfl
@[simp] theorem Dev.setTap_fw (v : Tap) (d : Dev) : (d.setTap v).fw = d.fw := rfl
@[simp] theorem Dev.setTap_tele (v : Tap) (d : Dev) : (d.setTap v).tele = d.tele := rfl

@[simp] theorem Dev.store_now (k v : Nat) (d : Dev) : (d.store k v).now = d.now := rfl
@[simp] theorem Dev.store_frees (k v : Nat) (d : Dev) : (d.store k v).frees = d.frees := rfl
@[simp] theorem Dev.store_seqs (k v : Nat) (d : Dev) : (d.store k v).seqs = d.seqs := rfl
@[simp] theorem Dev.store_recent (k v : Nat) (d : Dev) : (d.store k v).recent = d.recent := rfl
@[simp] theorem Dev.store_time (k v : Nat) (d : Dev) : (d.store k v).time = d.time := rfl
@[simp] theorem Dev.store_access (k v : Nat) (d : Dev) : (d.store k v).access = d.access := rfl
@[simp] theorem Dev.store_faults (k v : Nat) (d : Dev) : (d.store k v).faults = d.faults := rfl
@[simp] theorem Dev.store_wd (k v : Nat) (d : Dev) : (d.store k v).wd = d.wd := rfl
@[simp] theorem Dev.store_power (k v : Nat) (d : Dev) : (d.store k v).power = d.power := rfl
@[simp] theorem Dev.store_out (k v : Nat) (d : Dev) : (d.store k v).out = d.out := rfl
@[simp] theorem Dev.store_ports (k v : Nat) (d : Dev) : (d.store k v).ports = d.ports := rfl
@[simp] theorem Dev.store_net (k v : Nat) (d : Dev) : (d.store k v).net = d.net := rfl
@[simp] theorem Dev.store_host (k v : Nat) (d : Dev) : (d.store k v).host = d.host := rfl
@[simp] theorem Dev.store_commit (k v : Nat) (d : Dev) : (d.store k v).commit = d.commit := rfl
@[simp] theorem Dev.store_yard (k v : Nat) (d : Dev) : (d.store k v).yard = d.yard := rfl
@[simp] theorem Dev.store_pair (k v : Nat) (d : Dev) : (d.store k v).pair = d.pair := rfl
@[simp] theorem Dev.store_casc (k v : Nat) (d : Dev) : (d.store k v).casc = d.casc := rfl
@[simp] theorem Dev.store_hbm (k v : Nat) (d : Dev) : (d.store k v).hbm = d.hbm := rfl
@[simp] theorem Dev.store_fw (k v : Nat) (d : Dev) : (d.store k v).fw = d.fw := rfl
@[simp] theorem Dev.store_tele (k v : Nat) (d : Dev) : (d.store k v).tele = d.tele := rfl
@[simp] theorem Dev.store_tap (k v : Nat) (d : Dev) : (d.store k v).tap = d.tap := rfl

@[simp] theorem Dev.setRow_now (t i v : Nat) (d : Dev) : (d.setRow t i v).now = d.now := rfl
@[simp] theorem Dev.setRow_frees (t i v : Nat) (d : Dev) : (d.setRow t i v).frees = d.frees := rfl
@[simp] theorem Dev.setRow_seqs (t i v : Nat) (d : Dev) : (d.setRow t i v).seqs = d.seqs := rfl
@[simp] theorem Dev.setRow_recent (t i v : Nat) (d : Dev) : (d.setRow t i v).recent = d.recent := rfl
@[simp] theorem Dev.setRow_time (t i v : Nat) (d : Dev) : (d.setRow t i v).time = d.time := rfl
@[simp] theorem Dev.setRow_access (t i v : Nat) (d : Dev) : (d.setRow t i v).access = d.access := rfl
@[simp] theorem Dev.setRow_faults (t i v : Nat) (d : Dev) : (d.setRow t i v).faults = d.faults := rfl
@[simp] theorem Dev.setRow_wd (t i v : Nat) (d : Dev) : (d.setRow t i v).wd = d.wd := rfl
@[simp] theorem Dev.setRow_power (t i v : Nat) (d : Dev) : (d.setRow t i v).power = d.power := rfl
@[simp] theorem Dev.setRow_out (t i v : Nat) (d : Dev) : (d.setRow t i v).out = d.out := rfl
@[simp] theorem Dev.setRow_ports (t i v : Nat) (d : Dev) : (d.setRow t i v).ports = d.ports := rfl
@[simp] theorem Dev.setRow_net (t i v : Nat) (d : Dev) : (d.setRow t i v).net = d.net := rfl
@[simp] theorem Dev.setRow_host (t i v : Nat) (d : Dev) : (d.setRow t i v).host = d.host := rfl
@[simp] theorem Dev.setRow_commit (t i v : Nat) (d : Dev) : (d.setRow t i v).commit = d.commit := rfl
@[simp] theorem Dev.setRow_yard (t i v : Nat) (d : Dev) : (d.setRow t i v).yard = d.yard := rfl
@[simp] theorem Dev.setRow_pair (t i v : Nat) (d : Dev) : (d.setRow t i v).pair = d.pair := rfl
@[simp] theorem Dev.setRow_casc (t i v : Nat) (d : Dev) : (d.setRow t i v).casc = d.casc := rfl
@[simp] theorem Dev.setRow_hbm (t i v : Nat) (d : Dev) : (d.setRow t i v).hbm = d.hbm := rfl
@[simp] theorem Dev.setRow_fw (t i v : Nat) (d : Dev) : (d.setRow t i v).fw = d.fw := rfl
@[simp] theorem Dev.setRow_tele (t i v : Nat) (d : Dev) : (d.setRow t i v).tele = d.tele := rfl
@[simp] theorem Dev.setRow_tap (t i v : Nat) (d : Dev) : (d.setRow t i v).tap = d.tap := rfl

@[simp] theorem Dev.setRowFld_now (t i hi lo v : Nat) (d : Dev) : (d.setRowFld t i hi lo v).now = d.now := rfl
@[simp] theorem Dev.setRowFld_frees (t i hi lo v : Nat) (d : Dev) : (d.setRowFld t i hi lo v).frees = d.frees := rfl
@[simp] theorem Dev.setRowFld_seqs (t i hi lo v : Nat) (d : Dev) : (d.setRowFld t i hi lo v).seqs = d.seqs := rfl
@[simp] theorem Dev.setRowFld_recent (t i hi lo v : Nat) (d : Dev) : (d.setRowFld t i hi lo v).recent = d.recent := rfl
@[simp] theorem Dev.setRowFld_time (t i hi lo v : Nat) (d : Dev) : (d.setRowFld t i hi lo v).time = d.time := rfl
@[simp] theorem Dev.setRowFld_access (t i hi lo v : Nat) (d : Dev) : (d.setRowFld t i hi lo v).access = d.access := rfl
@[simp] theorem Dev.setRowFld_faults (t i hi lo v : Nat) (d : Dev) : (d.setRowFld t i hi lo v).faults = d.faults := rfl
@[simp] theorem Dev.setRowFld_wd (t i hi lo v : Nat) (d : Dev) : (d.setRowFld t i hi lo v).wd = d.wd := rfl
@[simp] theorem Dev.setRowFld_power (t i hi lo v : Nat) (d : Dev) : (d.setRowFld t i hi lo v).power = d.power := rfl
@[simp] theorem Dev.setRowFld_out (t i hi lo v : Nat) (d : Dev) : (d.setRowFld t i hi lo v).out = d.out := rfl
@[simp] theorem Dev.setRowFld_ports (t i hi lo v : Nat) (d : Dev) : (d.setRowFld t i hi lo v).ports = d.ports := rfl
@[simp] theorem Dev.setRowFld_net (t i hi lo v : Nat) (d : Dev) : (d.setRowFld t i hi lo v).net = d.net := rfl
@[simp] theorem Dev.setRowFld_host (t i hi lo v : Nat) (d : Dev) : (d.setRowFld t i hi lo v).host = d.host := rfl
@[simp] theorem Dev.setRowFld_commit (t i hi lo v : Nat) (d : Dev) : (d.setRowFld t i hi lo v).commit = d.commit := rfl
@[simp] theorem Dev.setRowFld_yard (t i hi lo v : Nat) (d : Dev) : (d.setRowFld t i hi lo v).yard = d.yard := rfl
@[simp] theorem Dev.setRowFld_pair (t i hi lo v : Nat) (d : Dev) : (d.setRowFld t i hi lo v).pair = d.pair := rfl
@[simp] theorem Dev.setRowFld_casc (t i hi lo v : Nat) (d : Dev) : (d.setRowFld t i hi lo v).casc = d.casc := rfl
@[simp] theorem Dev.setRowFld_hbm (t i hi lo v : Nat) (d : Dev) : (d.setRowFld t i hi lo v).hbm = d.hbm := rfl
@[simp] theorem Dev.setRowFld_fw (t i hi lo v : Nat) (d : Dev) : (d.setRowFld t i hi lo v).fw = d.fw := rfl
@[simp] theorem Dev.setRowFld_tele (t i hi lo v : Nat) (d : Dev) : (d.setRowFld t i hi lo v).tele = d.tele := rfl
@[simp] theorem Dev.setRowFld_tap (t i hi lo v : Nat) (d : Dev) : (d.setRowFld t i hi lo v).tap = d.tap := rfl

@[simp] theorem Dev.addRow_now (t i hi lo n : Nat) (d : Dev) : (d.addRow t i hi lo n).now = d.now := rfl
@[simp] theorem Dev.addRow_frees (t i hi lo n : Nat) (d : Dev) : (d.addRow t i hi lo n).frees = d.frees := rfl
@[simp] theorem Dev.addRow_seqs (t i hi lo n : Nat) (d : Dev) : (d.addRow t i hi lo n).seqs = d.seqs := rfl
@[simp] theorem Dev.addRow_recent (t i hi lo n : Nat) (d : Dev) : (d.addRow t i hi lo n).recent = d.recent := rfl
@[simp] theorem Dev.addRow_time (t i hi lo n : Nat) (d : Dev) : (d.addRow t i hi lo n).time = d.time := rfl
@[simp] theorem Dev.addRow_access (t i hi lo n : Nat) (d : Dev) : (d.addRow t i hi lo n).access = d.access := rfl
@[simp] theorem Dev.addRow_faults (t i hi lo n : Nat) (d : Dev) : (d.addRow t i hi lo n).faults = d.faults := rfl
@[simp] theorem Dev.addRow_wd (t i hi lo n : Nat) (d : Dev) : (d.addRow t i hi lo n).wd = d.wd := rfl
@[simp] theorem Dev.addRow_power (t i hi lo n : Nat) (d : Dev) : (d.addRow t i hi lo n).power = d.power := rfl
@[simp] theorem Dev.addRow_out (t i hi lo n : Nat) (d : Dev) : (d.addRow t i hi lo n).out = d.out := rfl
@[simp] theorem Dev.addRow_ports (t i hi lo n : Nat) (d : Dev) : (d.addRow t i hi lo n).ports = d.ports := rfl
@[simp] theorem Dev.addRow_net (t i hi lo n : Nat) (d : Dev) : (d.addRow t i hi lo n).net = d.net := rfl
@[simp] theorem Dev.addRow_host (t i hi lo n : Nat) (d : Dev) : (d.addRow t i hi lo n).host = d.host := rfl
@[simp] theorem Dev.addRow_commit (t i hi lo n : Nat) (d : Dev) : (d.addRow t i hi lo n).commit = d.commit := rfl
@[simp] theorem Dev.addRow_yard (t i hi lo n : Nat) (d : Dev) : (d.addRow t i hi lo n).yard = d.yard := rfl
@[simp] theorem Dev.addRow_pair (t i hi lo n : Nat) (d : Dev) : (d.addRow t i hi lo n).pair = d.pair := rfl
@[simp] theorem Dev.addRow_casc (t i hi lo n : Nat) (d : Dev) : (d.addRow t i hi lo n).casc = d.casc := rfl
@[simp] theorem Dev.addRow_hbm (t i hi lo n : Nat) (d : Dev) : (d.addRow t i hi lo n).hbm = d.hbm := rfl
@[simp] theorem Dev.addRow_fw (t i hi lo n : Nat) (d : Dev) : (d.addRow t i hi lo n).fw = d.fw := rfl
@[simp] theorem Dev.addRow_tele (t i hi lo n : Nat) (d : Dev) : (d.addRow t i hi lo n).tele = d.tele := rfl
@[simp] theorem Dev.addRow_tap (t i hi lo n : Nat) (d : Dev) : (d.addRow t i hi lo n).tap = d.tap := rfl

@[simp] theorem Dev.setDom_now (k : Nat) (b : Bytes) (d : Dev) : (d.setDom k b).now = d.now := rfl
@[simp] theorem Dev.setDom_frees (k : Nat) (b : Bytes) (d : Dev) : (d.setDom k b).frees = d.frees := rfl
@[simp] theorem Dev.setDom_seqs (k : Nat) (b : Bytes) (d : Dev) : (d.setDom k b).seqs = d.seqs := rfl
@[simp] theorem Dev.setDom_recent (k : Nat) (b : Bytes) (d : Dev) : (d.setDom k b).recent = d.recent := rfl
@[simp] theorem Dev.setDom_time (k : Nat) (b : Bytes) (d : Dev) : (d.setDom k b).time = d.time := rfl
@[simp] theorem Dev.setDom_access (k : Nat) (b : Bytes) (d : Dev) : (d.setDom k b).access = d.access := rfl
@[simp] theorem Dev.setDom_faults (k : Nat) (b : Bytes) (d : Dev) : (d.setDom k b).faults = d.faults := rfl
@[simp] theorem Dev.setDom_wd (k : Nat) (b : Bytes) (d : Dev) : (d.setDom k b).wd = d.wd := rfl
@[simp] theorem Dev.setDom_power (k : Nat) (b : Bytes) (d : Dev) : (d.setDom k b).power = d.power := rfl
@[simp] theorem Dev.setDom_out (k : Nat) (b : Bytes) (d : Dev) : (d.setDom k b).out = d.out := rfl
@[simp] theorem Dev.setDom_ports (k : Nat) (b : Bytes) (d : Dev) : (d.setDom k b).ports = d.ports := rfl
@[simp] theorem Dev.setDom_net (k : Nat) (b : Bytes) (d : Dev) : (d.setDom k b).net = d.net := rfl
@[simp] theorem Dev.setDom_host (k : Nat) (b : Bytes) (d : Dev) : (d.setDom k b).host = d.host := rfl
@[simp] theorem Dev.setDom_commit (k : Nat) (b : Bytes) (d : Dev) : (d.setDom k b).commit = d.commit := rfl
@[simp] theorem Dev.setDom_yard (k : Nat) (b : Bytes) (d : Dev) : (d.setDom k b).yard = d.yard := rfl
@[simp] theorem Dev.setDom_pair (k : Nat) (b : Bytes) (d : Dev) : (d.setDom k b).pair = d.pair := rfl
@[simp] theorem Dev.setDom_casc (k : Nat) (b : Bytes) (d : Dev) : (d.setDom k b).casc = d.casc := rfl
@[simp] theorem Dev.setDom_hbm (k : Nat) (b : Bytes) (d : Dev) : (d.setDom k b).hbm = d.hbm := rfl
@[simp] theorem Dev.setDom_fw (k : Nat) (b : Bytes) (d : Dev) : (d.setDom k b).fw = d.fw := rfl
@[simp] theorem Dev.setDom_tele (k : Nat) (b : Bytes) (d : Dev) : (d.setDom k b).tele = d.tele := rfl
@[simp] theorem Dev.setDom_tap (k : Nat) (b : Bytes) (d : Dev) : (d.setDom k b).tap = d.tap := rfl

@[simp] theorem Dev.emit_now (o : Output) (d : Dev) : (d.emit o).now = d.now := rfl
@[simp] theorem Dev.emit_frees (o : Output) (d : Dev) : (d.emit o).frees = d.frees := rfl
@[simp] theorem Dev.emit_dict (o : Output) (d : Dev) : (d.emit o).dict = d.dict := rfl
@[simp] theorem Dev.emit_seqs (o : Output) (d : Dev) : (d.emit o).seqs = d.seqs := rfl
@[simp] theorem Dev.emit_recent (o : Output) (d : Dev) : (d.emit o).recent = d.recent := rfl
@[simp] theorem Dev.emit_time (o : Output) (d : Dev) : (d.emit o).time = d.time := rfl
@[simp] theorem Dev.emit_access (o : Output) (d : Dev) : (d.emit o).access = d.access := rfl
@[simp] theorem Dev.emit_faults (o : Output) (d : Dev) : (d.emit o).faults = d.faults := rfl
@[simp] theorem Dev.emit_wd (o : Output) (d : Dev) : (d.emit o).wd = d.wd := rfl
@[simp] theorem Dev.emit_power (o : Output) (d : Dev) : (d.emit o).power = d.power := rfl
@[simp] theorem Dev.emit_ports (o : Output) (d : Dev) : (d.emit o).ports = d.ports := rfl
@[simp] theorem Dev.emit_net (o : Output) (d : Dev) : (d.emit o).net = d.net := rfl
@[simp] theorem Dev.emit_host (o : Output) (d : Dev) : (d.emit o).host = d.host := rfl
@[simp] theorem Dev.emit_commit (o : Output) (d : Dev) : (d.emit o).commit = d.commit := rfl
@[simp] theorem Dev.emit_yard (o : Output) (d : Dev) : (d.emit o).yard = d.yard := rfl
@[simp] theorem Dev.emit_pair (o : Output) (d : Dev) : (d.emit o).pair = d.pair := rfl
@[simp] theorem Dev.emit_casc (o : Output) (d : Dev) : (d.emit o).casc = d.casc := rfl
@[simp] theorem Dev.emit_hbm (o : Output) (d : Dev) : (d.emit o).hbm = d.hbm := rfl
@[simp] theorem Dev.emit_fw (o : Output) (d : Dev) : (d.emit o).fw = d.fw := rfl
@[simp] theorem Dev.emit_tele (o : Output) (d : Dev) : (d.emit o).tele = d.tele := rfl
@[simp] theorem Dev.emit_tap (o : Output) (d : Dev) : (d.emit o).tap = d.tap := rfl

@[simp] theorem Dev.event_now (k v : Nat) (b : Bytes) (d : Dev) : (d.event k v b).now = d.now := rfl
@[simp] theorem Dev.event_frees (k v : Nat) (b : Bytes) (d : Dev) : (d.event k v b).frees = d.frees := rfl
@[simp] theorem Dev.event_dict (k v : Nat) (b : Bytes) (d : Dev) : (d.event k v b).dict = d.dict := rfl
@[simp] theorem Dev.event_recent (k v : Nat) (b : Bytes) (d : Dev) : (d.event k v b).recent = d.recent := rfl
@[simp] theorem Dev.event_time (k v : Nat) (b : Bytes) (d : Dev) : (d.event k v b).time = d.time := rfl
@[simp] theorem Dev.event_faults (k v : Nat) (b : Bytes) (d : Dev) : (d.event k v b).faults = d.faults := rfl
@[simp] theorem Dev.event_wd (k v : Nat) (b : Bytes) (d : Dev) : (d.event k v b).wd = d.wd := rfl
@[simp] theorem Dev.event_power (k v : Nat) (b : Bytes) (d : Dev) : (d.event k v b).power = d.power := rfl
@[simp] theorem Dev.event_out (k v : Nat) (b : Bytes) (d : Dev) : (d.event k v b).out = d.out := rfl
@[simp] theorem Dev.event_ports (k v : Nat) (b : Bytes) (d : Dev) : (d.event k v b).ports = d.ports := rfl
@[simp] theorem Dev.event_net (k v : Nat) (b : Bytes) (d : Dev) : (d.event k v b).net = d.net := rfl
@[simp] theorem Dev.event_host (k v : Nat) (b : Bytes) (d : Dev) : (d.event k v b).host = d.host := rfl
@[simp] theorem Dev.event_commit (k v : Nat) (b : Bytes) (d : Dev) : (d.event k v b).commit = d.commit := rfl
@[simp] theorem Dev.event_yard (k v : Nat) (b : Bytes) (d : Dev) : (d.event k v b).yard = d.yard := rfl
@[simp] theorem Dev.event_pair (k v : Nat) (b : Bytes) (d : Dev) : (d.event k v b).pair = d.pair := rfl
@[simp] theorem Dev.event_casc (k v : Nat) (b : Bytes) (d : Dev) : (d.event k v b).casc = d.casc := rfl
@[simp] theorem Dev.event_hbm (k v : Nat) (b : Bytes) (d : Dev) : (d.event k v b).hbm = d.hbm := rfl
@[simp] theorem Dev.event_fw (k v : Nat) (b : Bytes) (d : Dev) : (d.event k v b).fw = d.fw := rfl
@[simp] theorem Dev.event_tele (k v : Nat) (b : Bytes) (d : Dev) : (d.event k v b).tele = d.tele := rfl
@[simp] theorem Dev.event_tap (k v : Nat) (b : Bytes) (d : Dev) : (d.event k v b).tap = d.tap := rfl

@[simp] theorem Dev.put_now (k v : Nat) (d : Dev) : (d.put k v).now = d.now := by simp only [Dev.put]; split <;> rfl
@[simp] theorem Dev.put_frees (k v : Nat) (d : Dev) : (d.put k v).frees = d.frees := by simp only [Dev.put]; split <;> rfl
@[simp] theorem Dev.put_recent (k v : Nat) (d : Dev) : (d.put k v).recent = d.recent := by simp only [Dev.put]; split <;> rfl
@[simp] theorem Dev.put_time (k v : Nat) (d : Dev) : (d.put k v).time = d.time := by simp only [Dev.put]; split <;> rfl
@[simp] theorem Dev.put_faults (k v : Nat) (d : Dev) : (d.put k v).faults = d.faults := by simp only [Dev.put]; split <;> rfl
@[simp] theorem Dev.put_wd (k v : Nat) (d : Dev) : (d.put k v).wd = d.wd := by simp only [Dev.put]; split <;> rfl
@[simp] theorem Dev.put_power (k v : Nat) (d : Dev) : (d.put k v).power = d.power := by simp only [Dev.put]; split <;> rfl
@[simp] theorem Dev.put_out (k v : Nat) (d : Dev) : (d.put k v).out = d.out := by simp only [Dev.put]; split <;> rfl
@[simp] theorem Dev.put_ports (k v : Nat) (d : Dev) : (d.put k v).ports = d.ports := by simp only [Dev.put]; split <;> rfl
@[simp] theorem Dev.put_net (k v : Nat) (d : Dev) : (d.put k v).net = d.net := by simp only [Dev.put]; split <;> rfl
@[simp] theorem Dev.put_host (k v : Nat) (d : Dev) : (d.put k v).host = d.host := by simp only [Dev.put]; split <;> rfl
@[simp] theorem Dev.put_commit (k v : Nat) (d : Dev) : (d.put k v).commit = d.commit := by simp only [Dev.put]; split <;> rfl
@[simp] theorem Dev.put_yard (k v : Nat) (d : Dev) : (d.put k v).yard = d.yard := by simp only [Dev.put]; split <;> rfl
@[simp] theorem Dev.put_pair (k v : Nat) (d : Dev) : (d.put k v).pair = d.pair := by simp only [Dev.put]; split <;> rfl
@[simp] theorem Dev.put_casc (k v : Nat) (d : Dev) : (d.put k v).casc = d.casc := by simp only [Dev.put]; split <;> rfl
@[simp] theorem Dev.put_hbm (k v : Nat) (d : Dev) : (d.put k v).hbm = d.hbm := by simp only [Dev.put]; split <;> rfl
@[simp] theorem Dev.put_fw (k v : Nat) (d : Dev) : (d.put k v).fw = d.fw := by simp only [Dev.put]; split <;> rfl
@[simp] theorem Dev.put_tele (k v : Nat) (d : Dev) : (d.put k v).tele = d.tele := by simp only [Dev.put]; split <;> rfl
@[simp] theorem Dev.put_tap (k v : Nat) (d : Dev) : (d.put k v).tap = d.tap := by simp only [Dev.put]; split <;> rfl

@[simp] theorem Dev.putB_now (k : Nat) (b : Bool) (d : Dev) : (d.putB k b).now = d.now := by unfold Dev.putB; simp
@[simp] theorem Dev.putB_frees (k : Nat) (b : Bool) (d : Dev) : (d.putB k b).frees = d.frees := by unfold Dev.putB; simp
@[simp] theorem Dev.putB_recent (k : Nat) (b : Bool) (d : Dev) : (d.putB k b).recent = d.recent := by unfold Dev.putB; simp
@[simp] theorem Dev.putB_time (k : Nat) (b : Bool) (d : Dev) : (d.putB k b).time = d.time := by unfold Dev.putB; simp
@[simp] theorem Dev.putB_faults (k : Nat) (b : Bool) (d : Dev) : (d.putB k b).faults = d.faults := by unfold Dev.putB; simp
@[simp] theorem Dev.putB_wd (k : Nat) (b : Bool) (d : Dev) : (d.putB k b).wd = d.wd := by unfold Dev.putB; simp
@[simp] theorem Dev.putB_power (k : Nat) (b : Bool) (d : Dev) : (d.putB k b).power = d.power := by unfold Dev.putB; simp
@[simp] theorem Dev.putB_out (k : Nat) (b : Bool) (d : Dev) : (d.putB k b).out = d.out := by unfold Dev.putB; simp
@[simp] theorem Dev.putB_ports (k : Nat) (b : Bool) (d : Dev) : (d.putB k b).ports = d.ports := by unfold Dev.putB; simp
@[simp] theorem Dev.putB_net (k : Nat) (b : Bool) (d : Dev) : (d.putB k b).net = d.net := by unfold Dev.putB; simp
@[simp] theorem Dev.putB_host (k : Nat) (b : Bool) (d : Dev) : (d.putB k b).host = d.host := by unfold Dev.putB; simp
@[simp] theorem Dev.putB_commit (k : Nat) (b : Bool) (d : Dev) : (d.putB k b).commit = d.commit := by unfold Dev.putB; simp
@[simp] theorem Dev.putB_yard (k : Nat) (b : Bool) (d : Dev) : (d.putB k b).yard = d.yard := by unfold Dev.putB; simp
@[simp] theorem Dev.putB_pair (k : Nat) (b : Bool) (d : Dev) : (d.putB k b).pair = d.pair := by unfold Dev.putB; simp
@[simp] theorem Dev.putB_casc (k : Nat) (b : Bool) (d : Dev) : (d.putB k b).casc = d.casc := by unfold Dev.putB; simp
@[simp] theorem Dev.putB_hbm (k : Nat) (b : Bool) (d : Dev) : (d.putB k b).hbm = d.hbm := by unfold Dev.putB; simp
@[simp] theorem Dev.putB_fw (k : Nat) (b : Bool) (d : Dev) : (d.putB k b).fw = d.fw := by unfold Dev.putB; simp
@[simp] theorem Dev.putB_tele (k : Nat) (b : Bool) (d : Dev) : (d.putB k b).tele = d.tele := by unfold Dev.putB; simp
@[simp] theorem Dev.putB_tap (k : Nat) (b : Bool) (d : Dev) : (d.putB k b).tap = d.tap := by unfold Dev.putB; simp

@[simp] theorem Dev.add_now (k n : Nat) (d : Dev) : (d.add k n).now = d.now := by unfold Dev.add; simp
@[simp] theorem Dev.add_frees (k n : Nat) (d : Dev) : (d.add k n).frees = d.frees := by unfold Dev.add; simp
@[simp] theorem Dev.add_recent (k n : Nat) (d : Dev) : (d.add k n).recent = d.recent := by unfold Dev.add; simp
@[simp] theorem Dev.add_time (k n : Nat) (d : Dev) : (d.add k n).time = d.time := by unfold Dev.add; simp
@[simp] theorem Dev.add_faults (k n : Nat) (d : Dev) : (d.add k n).faults = d.faults := by unfold Dev.add; simp
@[simp] theorem Dev.add_wd (k n : Nat) (d : Dev) : (d.add k n).wd = d.wd := by unfold Dev.add; simp
@[simp] theorem Dev.add_power (k n : Nat) (d : Dev) : (d.add k n).power = d.power := by unfold Dev.add; simp
@[simp] theorem Dev.add_out (k n : Nat) (d : Dev) : (d.add k n).out = d.out := by unfold Dev.add; simp
@[simp] theorem Dev.add_ports (k n : Nat) (d : Dev) : (d.add k n).ports = d.ports := by unfold Dev.add; simp
@[simp] theorem Dev.add_net (k n : Nat) (d : Dev) : (d.add k n).net = d.net := by unfold Dev.add; simp
@[simp] theorem Dev.add_host (k n : Nat) (d : Dev) : (d.add k n).host = d.host := by unfold Dev.add; simp
@[simp] theorem Dev.add_commit (k n : Nat) (d : Dev) : (d.add k n).commit = d.commit := by unfold Dev.add; simp
@[simp] theorem Dev.add_yard (k n : Nat) (d : Dev) : (d.add k n).yard = d.yard := by unfold Dev.add; simp
@[simp] theorem Dev.add_pair (k n : Nat) (d : Dev) : (d.add k n).pair = d.pair := by unfold Dev.add; simp
@[simp] theorem Dev.add_casc (k n : Nat) (d : Dev) : (d.add k n).casc = d.casc := by unfold Dev.add; simp
@[simp] theorem Dev.add_hbm (k n : Nat) (d : Dev) : (d.add k n).hbm = d.hbm := by unfold Dev.add; simp
@[simp] theorem Dev.add_fw (k n : Nat) (d : Dev) : (d.add k n).fw = d.fw := by unfold Dev.add; simp
@[simp] theorem Dev.add_tele (k n : Nat) (d : Dev) : (d.add k n).tele = d.tele := by unfold Dev.add; simp
@[simp] theorem Dev.add_tap (k n : Nat) (d : Dev) : (d.add k n).tap = d.tap := by unfold Dev.add; simp

@[simp] theorem Dev.inc_now (k : Nat) (d : Dev) : (d.inc k).now = d.now := by unfold Dev.inc; simp
@[simp] theorem Dev.inc_frees (k : Nat) (d : Dev) : (d.inc k).frees = d.frees := by unfold Dev.inc; simp
@[simp] theorem Dev.inc_recent (k : Nat) (d : Dev) : (d.inc k).recent = d.recent := by unfold Dev.inc; simp
@[simp] theorem Dev.inc_time (k : Nat) (d : Dev) : (d.inc k).time = d.time := by unfold Dev.inc; simp
@[simp] theorem Dev.inc_faults (k : Nat) (d : Dev) : (d.inc k).faults = d.faults := by unfold Dev.inc; simp
@[simp] theorem Dev.inc_wd (k : Nat) (d : Dev) : (d.inc k).wd = d.wd := by unfold Dev.inc; simp
@[simp] theorem Dev.inc_power (k : Nat) (d : Dev) : (d.inc k).power = d.power := by unfold Dev.inc; simp
@[simp] theorem Dev.inc_out (k : Nat) (d : Dev) : (d.inc k).out = d.out := by unfold Dev.inc; simp
@[simp] theorem Dev.inc_ports (k : Nat) (d : Dev) : (d.inc k).ports = d.ports := by unfold Dev.inc; simp
@[simp] theorem Dev.inc_net (k : Nat) (d : Dev) : (d.inc k).net = d.net := by unfold Dev.inc; simp
@[simp] theorem Dev.inc_host (k : Nat) (d : Dev) : (d.inc k).host = d.host := by unfold Dev.inc; simp
@[simp] theorem Dev.inc_commit (k : Nat) (d : Dev) : (d.inc k).commit = d.commit := by unfold Dev.inc; simp
@[simp] theorem Dev.inc_yard (k : Nat) (d : Dev) : (d.inc k).yard = d.yard := by unfold Dev.inc; simp
@[simp] theorem Dev.inc_pair (k : Nat) (d : Dev) : (d.inc k).pair = d.pair := by unfold Dev.inc; simp
@[simp] theorem Dev.inc_casc (k : Nat) (d : Dev) : (d.inc k).casc = d.casc := by unfold Dev.inc; simp
@[simp] theorem Dev.inc_hbm (k : Nat) (d : Dev) : (d.inc k).hbm = d.hbm := by unfold Dev.inc; simp
@[simp] theorem Dev.inc_fw (k : Nat) (d : Dev) : (d.inc k).fw = d.fw := by unfold Dev.inc; simp
@[simp] theorem Dev.inc_tele (k : Nat) (d : Dev) : (d.inc k).tele = d.tele := by unfold Dev.inc; simp
@[simp] theorem Dev.inc_tap (k : Nat) (d : Dev) : (d.inc k).tap = d.tap := by unfold Dev.inc; simp

@[simp] theorem Dev.reportBy_now (src addr m a : Nat) (d : Dev) : (d.reportBy src addr m a).now = d.now := rfl
@[simp] theorem Dev.reportBy_frees (src addr m a : Nat) (d : Dev) : (d.reportBy src addr m a).frees = d.frees := rfl
@[simp] theorem Dev.reportBy_dict (src addr m a : Nat) (d : Dev) : (d.reportBy src addr m a).dict = d.dict := rfl
@[simp] theorem Dev.reportBy_seqs (src addr m a : Nat) (d : Dev) : (d.reportBy src addr m a).seqs = d.seqs := rfl
@[simp] theorem Dev.reportBy_recent (src addr m a : Nat) (d : Dev) : (d.reportBy src addr m a).recent = d.recent := rfl
@[simp] theorem Dev.reportBy_time (src addr m a : Nat) (d : Dev) : (d.reportBy src addr m a).time = d.time := rfl
@[simp] theorem Dev.reportBy_access (src addr m a : Nat) (d : Dev) : (d.reportBy src addr m a).access = d.access := rfl
@[simp] theorem Dev.reportBy_wd (src addr m a : Nat) (d : Dev) : (d.reportBy src addr m a).wd = d.wd := rfl
@[simp] theorem Dev.reportBy_power (src addr m a : Nat) (d : Dev) : (d.reportBy src addr m a).power = d.power := rfl
@[simp] theorem Dev.reportBy_out (src addr m a : Nat) (d : Dev) : (d.reportBy src addr m a).out = d.out := rfl
@[simp] theorem Dev.reportBy_ports (src addr m a : Nat) (d : Dev) : (d.reportBy src addr m a).ports = d.ports := rfl
@[simp] theorem Dev.reportBy_net (src addr m a : Nat) (d : Dev) : (d.reportBy src addr m a).net = d.net := rfl
@[simp] theorem Dev.reportBy_host (src addr m a : Nat) (d : Dev) : (d.reportBy src addr m a).host = d.host := rfl
@[simp] theorem Dev.reportBy_commit (src addr m a : Nat) (d : Dev) : (d.reportBy src addr m a).commit = d.commit := rfl
@[simp] theorem Dev.reportBy_yard (src addr m a : Nat) (d : Dev) : (d.reportBy src addr m a).yard = d.yard := rfl
@[simp] theorem Dev.reportBy_pair (src addr m a : Nat) (d : Dev) : (d.reportBy src addr m a).pair = d.pair := rfl
@[simp] theorem Dev.reportBy_casc (src addr m a : Nat) (d : Dev) : (d.reportBy src addr m a).casc = d.casc := rfl
@[simp] theorem Dev.reportBy_hbm (src addr m a : Nat) (d : Dev) : (d.reportBy src addr m a).hbm = d.hbm := rfl
@[simp] theorem Dev.reportBy_fw (src addr m a : Nat) (d : Dev) : (d.reportBy src addr m a).fw = d.fw := rfl
@[simp] theorem Dev.reportBy_tele (src addr m a : Nat) (d : Dev) : (d.reportBy src addr m a).tele = d.tele := rfl
@[simp] theorem Dev.reportBy_tap (src addr m a : Nat) (d : Dev) : (d.reportBy src addr m a).tap = d.tap := rfl

@[simp] theorem Dev.report_now (src addr : Nat) (d : Dev) : (d.report src addr).now = d.now := rfl
@[simp] theorem Dev.report_frees (src addr : Nat) (d : Dev) : (d.report src addr).frees = d.frees := rfl
@[simp] theorem Dev.report_dict (src addr : Nat) (d : Dev) : (d.report src addr).dict = d.dict := rfl
@[simp] theorem Dev.report_seqs (src addr : Nat) (d : Dev) : (d.report src addr).seqs = d.seqs := rfl
@[simp] theorem Dev.report_recent (src addr : Nat) (d : Dev) : (d.report src addr).recent = d.recent := rfl
@[simp] theorem Dev.report_time (src addr : Nat) (d : Dev) : (d.report src addr).time = d.time := rfl
@[simp] theorem Dev.report_access (src addr : Nat) (d : Dev) : (d.report src addr).access = d.access := rfl
@[simp] theorem Dev.report_wd (src addr : Nat) (d : Dev) : (d.report src addr).wd = d.wd := rfl
@[simp] theorem Dev.report_power (src addr : Nat) (d : Dev) : (d.report src addr).power = d.power := rfl
@[simp] theorem Dev.report_out (src addr : Nat) (d : Dev) : (d.report src addr).out = d.out := rfl
@[simp] theorem Dev.report_ports (src addr : Nat) (d : Dev) : (d.report src addr).ports = d.ports := rfl
@[simp] theorem Dev.report_net (src addr : Nat) (d : Dev) : (d.report src addr).net = d.net := rfl
@[simp] theorem Dev.report_host (src addr : Nat) (d : Dev) : (d.report src addr).host = d.host := rfl
@[simp] theorem Dev.report_commit (src addr : Nat) (d : Dev) : (d.report src addr).commit = d.commit := rfl
@[simp] theorem Dev.report_yard (src addr : Nat) (d : Dev) : (d.report src addr).yard = d.yard := rfl
@[simp] theorem Dev.report_pair (src addr : Nat) (d : Dev) : (d.report src addr).pair = d.pair := rfl
@[simp] theorem Dev.report_casc (src addr : Nat) (d : Dev) : (d.report src addr).casc = d.casc := rfl
@[simp] theorem Dev.report_hbm (src addr : Nat) (d : Dev) : (d.report src addr).hbm = d.hbm := rfl
@[simp] theorem Dev.report_fw (src addr : Nat) (d : Dev) : (d.report src addr).fw = d.fw := rfl
@[simp] theorem Dev.report_tele (src addr : Nat) (d : Dev) : (d.report src addr).tele = d.tele := rfl
@[simp] theorem Dev.report_tap (src addr : Nat) (d : Dev) : (d.report src addr).tap = d.tap := rfl

@[simp] theorem Dev.metBy_now (m a n : Nat) (d : Dev) : (d.metBy m a n).now = d.now := rfl
@[simp] theorem Dev.metBy_frees (m a n : Nat) (d : Dev) : (d.metBy m a n).frees = d.frees := rfl
@[simp] theorem Dev.metBy_dict (m a n : Nat) (d : Dev) : (d.metBy m a n).dict = d.dict := rfl
@[simp] theorem Dev.metBy_seqs (m a n : Nat) (d : Dev) : (d.metBy m a n).seqs = d.seqs := rfl
@[simp] theorem Dev.metBy_recent (m a n : Nat) (d : Dev) : (d.metBy m a n).recent = d.recent := rfl
@[simp] theorem Dev.metBy_time (m a n : Nat) (d : Dev) : (d.metBy m a n).time = d.time := rfl
@[simp] theorem Dev.metBy_access (m a n : Nat) (d : Dev) : (d.metBy m a n).access = d.access := rfl
@[simp] theorem Dev.metBy_wd (m a n : Nat) (d : Dev) : (d.metBy m a n).wd = d.wd := rfl
@[simp] theorem Dev.metBy_power (m a n : Nat) (d : Dev) : (d.metBy m a n).power = d.power := rfl
@[simp] theorem Dev.metBy_out (m a n : Nat) (d : Dev) : (d.metBy m a n).out = d.out := rfl
@[simp] theorem Dev.metBy_ports (m a n : Nat) (d : Dev) : (d.metBy m a n).ports = d.ports := rfl
@[simp] theorem Dev.metBy_net (m a n : Nat) (d : Dev) : (d.metBy m a n).net = d.net := rfl
@[simp] theorem Dev.metBy_host (m a n : Nat) (d : Dev) : (d.metBy m a n).host = d.host := rfl
@[simp] theorem Dev.metBy_commit (m a n : Nat) (d : Dev) : (d.metBy m a n).commit = d.commit := rfl
@[simp] theorem Dev.metBy_yard (m a n : Nat) (d : Dev) : (d.metBy m a n).yard = d.yard := rfl
@[simp] theorem Dev.metBy_pair (m a n : Nat) (d : Dev) : (d.metBy m a n).pair = d.pair := rfl
@[simp] theorem Dev.metBy_casc (m a n : Nat) (d : Dev) : (d.metBy m a n).casc = d.casc := rfl
@[simp] theorem Dev.metBy_hbm (m a n : Nat) (d : Dev) : (d.metBy m a n).hbm = d.hbm := rfl
@[simp] theorem Dev.metBy_fw (m a n : Nat) (d : Dev) : (d.metBy m a n).fw = d.fw := rfl
@[simp] theorem Dev.metBy_tele (m a n : Nat) (d : Dev) : (d.metBy m a n).tele = d.tele := rfl
@[simp] theorem Dev.metBy_tap (m a n : Nat) (d : Dev) : (d.metBy m a n).tap = d.tap := rfl

@[simp] theorem Dev.modHost_now (g : HostSt → HostSt) (d : Dev) : (d.modHost g).now = d.now := rfl
@[simp] theorem Dev.modHost_frees (g : HostSt → HostSt) (d : Dev) : (d.modHost g).frees = d.frees := rfl
@[simp] theorem Dev.modHost_dict (g : HostSt → HostSt) (d : Dev) : (d.modHost g).dict = d.dict := rfl
@[simp] theorem Dev.modHost_seqs (g : HostSt → HostSt) (d : Dev) : (d.modHost g).seqs = d.seqs := rfl
@[simp] theorem Dev.modHost_recent (g : HostSt → HostSt) (d : Dev) : (d.modHost g).recent = d.recent := rfl
@[simp] theorem Dev.modHost_time (g : HostSt → HostSt) (d : Dev) : (d.modHost g).time = d.time := rfl
@[simp] theorem Dev.modHost_access (g : HostSt → HostSt) (d : Dev) : (d.modHost g).access = d.access := rfl
@[simp] theorem Dev.modHost_faults (g : HostSt → HostSt) (d : Dev) : (d.modHost g).faults = d.faults := rfl
@[simp] theorem Dev.modHost_wd (g : HostSt → HostSt) (d : Dev) : (d.modHost g).wd = d.wd := rfl
@[simp] theorem Dev.modHost_power (g : HostSt → HostSt) (d : Dev) : (d.modHost g).power = d.power := rfl
@[simp] theorem Dev.modHost_out (g : HostSt → HostSt) (d : Dev) : (d.modHost g).out = d.out := rfl
@[simp] theorem Dev.modHost_ports (g : HostSt → HostSt) (d : Dev) : (d.modHost g).ports = d.ports := rfl
@[simp] theorem Dev.modHost_net (g : HostSt → HostSt) (d : Dev) : (d.modHost g).net = d.net := rfl
@[simp] theorem Dev.modHost_commit (g : HostSt → HostSt) (d : Dev) : (d.modHost g).commit = d.commit := rfl
@[simp] theorem Dev.modHost_yard (g : HostSt → HostSt) (d : Dev) : (d.modHost g).yard = d.yard := rfl
@[simp] theorem Dev.modHost_pair (g : HostSt → HostSt) (d : Dev) : (d.modHost g).pair = d.pair := rfl
@[simp] theorem Dev.modHost_casc (g : HostSt → HostSt) (d : Dev) : (d.modHost g).casc = d.casc := rfl
@[simp] theorem Dev.modHost_hbm (g : HostSt → HostSt) (d : Dev) : (d.modHost g).hbm = d.hbm := rfl
@[simp] theorem Dev.modHost_fw (g : HostSt → HostSt) (d : Dev) : (d.modHost g).fw = d.fw := rfl
@[simp] theorem Dev.modHost_tele (g : HostSt → HostSt) (d : Dev) : (d.modHost g).tele = d.tele := rfl
@[simp] theorem Dev.modHost_tap (g : HostSt → HostSt) (d : Dev) : (d.modHost g).tap = d.tap := rfl

@[simp] theorem Dev.setRing_now (r : Nat) (v : Ring) (d : Dev) : (d.setRing r v).now = d.now := rfl
@[simp] theorem Dev.setRing_frees (r : Nat) (v : Ring) (d : Dev) : (d.setRing r v).frees = d.frees := rfl
@[simp] theorem Dev.setRing_dict (r : Nat) (v : Ring) (d : Dev) : (d.setRing r v).dict = d.dict := rfl
@[simp] theorem Dev.setRing_seqs (r : Nat) (v : Ring) (d : Dev) : (d.setRing r v).seqs = d.seqs := rfl
@[simp] theorem Dev.setRing_recent (r : Nat) (v : Ring) (d : Dev) : (d.setRing r v).recent = d.recent := rfl
@[simp] theorem Dev.setRing_time (r : Nat) (v : Ring) (d : Dev) : (d.setRing r v).time = d.time := rfl
@[simp] theorem Dev.setRing_access (r : Nat) (v : Ring) (d : Dev) : (d.setRing r v).access = d.access := rfl
@[simp] theorem Dev.setRing_faults (r : Nat) (v : Ring) (d : Dev) : (d.setRing r v).faults = d.faults := rfl
@[simp] theorem Dev.setRing_wd (r : Nat) (v : Ring) (d : Dev) : (d.setRing r v).wd = d.wd := rfl
@[simp] theorem Dev.setRing_power (r : Nat) (v : Ring) (d : Dev) : (d.setRing r v).power = d.power := rfl
@[simp] theorem Dev.setRing_out (r : Nat) (v : Ring) (d : Dev) : (d.setRing r v).out = d.out := rfl
@[simp] theorem Dev.setRing_ports (r : Nat) (v : Ring) (d : Dev) : (d.setRing r v).ports = d.ports := rfl
@[simp] theorem Dev.setRing_net (r : Nat) (v : Ring) (d : Dev) : (d.setRing r v).net = d.net := rfl
@[simp] theorem Dev.setRing_commit (r : Nat) (v : Ring) (d : Dev) : (d.setRing r v).commit = d.commit := rfl
@[simp] theorem Dev.setRing_yard (r : Nat) (v : Ring) (d : Dev) : (d.setRing r v).yard = d.yard := rfl
@[simp] theorem Dev.setRing_pair (r : Nat) (v : Ring) (d : Dev) : (d.setRing r v).pair = d.pair := rfl
@[simp] theorem Dev.setRing_casc (r : Nat) (v : Ring) (d : Dev) : (d.setRing r v).casc = d.casc := rfl
@[simp] theorem Dev.setRing_hbm (r : Nat) (v : Ring) (d : Dev) : (d.setRing r v).hbm = d.hbm := rfl
@[simp] theorem Dev.setRing_fw (r : Nat) (v : Ring) (d : Dev) : (d.setRing r v).fw = d.fw := rfl
@[simp] theorem Dev.setRing_tele (r : Nat) (v : Ring) (d : Dev) : (d.setRing r v).tele = d.tele := rfl
@[simp] theorem Dev.setRing_tap (r : Nat) (v : Ring) (d : Dev) : (d.setRing r v).tap = d.tap := rfl

@[simp] theorem Dev.irqCause_now (v : Nat) (d : Dev) : (d.irqCause v).now = d.now := by simp only [Dev.irqCause]; repeat' split <;> try rfl
@[simp] theorem Dev.irqCause_frees (v : Nat) (d : Dev) : (d.irqCause v).frees = d.frees := by simp only [Dev.irqCause]; repeat' split <;> try rfl
@[simp] theorem Dev.irqCause_dict (v : Nat) (d : Dev) : (d.irqCause v).dict = d.dict := by simp only [Dev.irqCause]; repeat' split <;> try rfl
@[simp] theorem Dev.irqCause_seqs (v : Nat) (d : Dev) : (d.irqCause v).seqs = d.seqs := by simp only [Dev.irqCause]; repeat' split <;> try rfl
@[simp] theorem Dev.irqCause_recent (v : Nat) (d : Dev) : (d.irqCause v).recent = d.recent := by simp only [Dev.irqCause]; repeat' split <;> try rfl
@[simp] theorem Dev.irqCause_time (v : Nat) (d : Dev) : (d.irqCause v).time = d.time := by simp only [Dev.irqCause]; repeat' split <;> try rfl
@[simp] theorem Dev.irqCause_access (v : Nat) (d : Dev) : (d.irqCause v).access = d.access := by simp only [Dev.irqCause]; repeat' split <;> try rfl
@[simp] theorem Dev.irqCause_faults (v : Nat) (d : Dev) : (d.irqCause v).faults = d.faults := by simp only [Dev.irqCause]; repeat' split <;> try rfl
@[simp] theorem Dev.irqCause_wd (v : Nat) (d : Dev) : (d.irqCause v).wd = d.wd := by simp only [Dev.irqCause]; repeat' split <;> try rfl
@[simp] theorem Dev.irqCause_power (v : Nat) (d : Dev) : (d.irqCause v).power = d.power := by simp only [Dev.irqCause]; repeat' split <;> try rfl
@[simp] theorem Dev.irqCause_out (v : Nat) (d : Dev) : (d.irqCause v).out = d.out := by simp only [Dev.irqCause]; repeat' split <;> try rfl
@[simp] theorem Dev.irqCause_ports (v : Nat) (d : Dev) : (d.irqCause v).ports = d.ports := by simp only [Dev.irqCause]; repeat' split <;> try rfl
@[simp] theorem Dev.irqCause_net (v : Nat) (d : Dev) : (d.irqCause v).net = d.net := by simp only [Dev.irqCause]; repeat' split <;> try rfl
@[simp] theorem Dev.irqCause_commit (v : Nat) (d : Dev) : (d.irqCause v).commit = d.commit := by simp only [Dev.irqCause]; repeat' split <;> try rfl
@[simp] theorem Dev.irqCause_yard (v : Nat) (d : Dev) : (d.irqCause v).yard = d.yard := by simp only [Dev.irqCause]; repeat' split <;> try rfl
@[simp] theorem Dev.irqCause_pair (v : Nat) (d : Dev) : (d.irqCause v).pair = d.pair := by simp only [Dev.irqCause]; repeat' split <;> try rfl
@[simp] theorem Dev.irqCause_casc (v : Nat) (d : Dev) : (d.irqCause v).casc = d.casc := by simp only [Dev.irqCause]; repeat' split <;> try rfl
@[simp] theorem Dev.irqCause_hbm (v : Nat) (d : Dev) : (d.irqCause v).hbm = d.hbm := by simp only [Dev.irqCause]; repeat' split <;> try rfl
@[simp] theorem Dev.irqCause_fw (v : Nat) (d : Dev) : (d.irqCause v).fw = d.fw := by simp only [Dev.irqCause]; repeat' split <;> try rfl
@[simp] theorem Dev.irqCause_tele (v : Nat) (d : Dev) : (d.irqCause v).tele = d.tele := by simp only [Dev.irqCause]; repeat' split <;> try rfl
@[simp] theorem Dev.irqCause_tap (v : Nat) (d : Dev) : (d.irqCause v).tap = d.tap := by simp only [Dev.irqCause]; repeat' split <;> try rfl

@[simp] theorem Dev.statusIrq_now (w : Nat) (d : Dev) : (d.statusIrq w).now = d.now := by unfold Dev.statusIrq; split <;> simp
@[simp] theorem Dev.statusIrq_frees (w : Nat) (d : Dev) : (d.statusIrq w).frees = d.frees := by unfold Dev.statusIrq; split <;> simp
@[simp] theorem Dev.statusIrq_dict (w : Nat) (d : Dev) : (d.statusIrq w).dict = d.dict := by unfold Dev.statusIrq; split <;> simp
@[simp] theorem Dev.statusIrq_seqs (w : Nat) (d : Dev) : (d.statusIrq w).seqs = d.seqs := by unfold Dev.statusIrq; split <;> simp
@[simp] theorem Dev.statusIrq_recent (w : Nat) (d : Dev) : (d.statusIrq w).recent = d.recent := by unfold Dev.statusIrq; split <;> simp
@[simp] theorem Dev.statusIrq_time (w : Nat) (d : Dev) : (d.statusIrq w).time = d.time := by unfold Dev.statusIrq; split <;> simp
@[simp] theorem Dev.statusIrq_access (w : Nat) (d : Dev) : (d.statusIrq w).access = d.access := by unfold Dev.statusIrq; split <;> simp
@[simp] theorem Dev.statusIrq_faults (w : Nat) (d : Dev) : (d.statusIrq w).faults = d.faults := by unfold Dev.statusIrq; split <;> simp
@[simp] theorem Dev.statusIrq_wd (w : Nat) (d : Dev) : (d.statusIrq w).wd = d.wd := by unfold Dev.statusIrq; split <;> simp
@[simp] theorem Dev.statusIrq_power (w : Nat) (d : Dev) : (d.statusIrq w).power = d.power := by unfold Dev.statusIrq; split <;> simp
@[simp] theorem Dev.statusIrq_out (w : Nat) (d : Dev) : (d.statusIrq w).out = d.out := by unfold Dev.statusIrq; split <;> simp
@[simp] theorem Dev.statusIrq_ports (w : Nat) (d : Dev) : (d.statusIrq w).ports = d.ports := by unfold Dev.statusIrq; split <;> simp
@[simp] theorem Dev.statusIrq_net (w : Nat) (d : Dev) : (d.statusIrq w).net = d.net := by unfold Dev.statusIrq; split <;> simp
@[simp] theorem Dev.statusIrq_commit (w : Nat) (d : Dev) : (d.statusIrq w).commit = d.commit := by unfold Dev.statusIrq; split <;> simp
@[simp] theorem Dev.statusIrq_yard (w : Nat) (d : Dev) : (d.statusIrq w).yard = d.yard := by unfold Dev.statusIrq; split <;> simp
@[simp] theorem Dev.statusIrq_pair (w : Nat) (d : Dev) : (d.statusIrq w).pair = d.pair := by unfold Dev.statusIrq; split <;> simp
@[simp] theorem Dev.statusIrq_casc (w : Nat) (d : Dev) : (d.statusIrq w).casc = d.casc := by unfold Dev.statusIrq; split <;> simp
@[simp] theorem Dev.statusIrq_hbm (w : Nat) (d : Dev) : (d.statusIrq w).hbm = d.hbm := by unfold Dev.statusIrq; split <;> simp
@[simp] theorem Dev.statusIrq_fw (w : Nat) (d : Dev) : (d.statusIrq w).fw = d.fw := by unfold Dev.statusIrq; split <;> simp
@[simp] theorem Dev.statusIrq_tele (w : Nat) (d : Dev) : (d.statusIrq w).tele = d.tele := by unfold Dev.statusIrq; split <;> simp
@[simp] theorem Dev.statusIrq_tap (w : Nat) (d : Dev) : (d.statusIrq w).tap = d.tap := by unfold Dev.statusIrq; split <;> simp

@[simp] theorem Dev.ringPush_now (t cap cnt src b : Nat) (f : Nat → Bool → Nat) (d : Dev) : (d.ringPush t cap cnt src b f).now = d.now := by unfold Dev.ringPush Dev.nextSeq; simp
@[simp] theorem Dev.ringPush_frees (t cap cnt src b : Nat) (f : Nat → Bool → Nat) (d : Dev) : (d.ringPush t cap cnt src b f).frees = d.frees := by unfold Dev.ringPush Dev.nextSeq; simp
@[simp] theorem Dev.ringPush_time (t cap cnt src b : Nat) (f : Nat → Bool → Nat) (d : Dev) : (d.ringPush t cap cnt src b f).time = d.time := by unfold Dev.ringPush Dev.nextSeq; simp
@[simp] theorem Dev.ringPush_faults (t cap cnt src b : Nat) (f : Nat → Bool → Nat) (d : Dev) : (d.ringPush t cap cnt src b f).faults = d.faults := by unfold Dev.ringPush Dev.nextSeq; simp
@[simp] theorem Dev.ringPush_wd (t cap cnt src b : Nat) (f : Nat → Bool → Nat) (d : Dev) : (d.ringPush t cap cnt src b f).wd = d.wd := by unfold Dev.ringPush Dev.nextSeq; simp
@[simp] theorem Dev.ringPush_power (t cap cnt src b : Nat) (f : Nat → Bool → Nat) (d : Dev) : (d.ringPush t cap cnt src b f).power = d.power := by unfold Dev.ringPush Dev.nextSeq; simp
@[simp] theorem Dev.ringPush_out (t cap cnt src b : Nat) (f : Nat → Bool → Nat) (d : Dev) : (d.ringPush t cap cnt src b f).out = d.out := by unfold Dev.ringPush Dev.nextSeq; simp
@[simp] theorem Dev.ringPush_ports (t cap cnt src b : Nat) (f : Nat → Bool → Nat) (d : Dev) : (d.ringPush t cap cnt src b f).ports = d.ports := by unfold Dev.ringPush Dev.nextSeq; simp
@[simp] theorem Dev.ringPush_net (t cap cnt src b : Nat) (f : Nat → Bool → Nat) (d : Dev) : (d.ringPush t cap cnt src b f).net = d.net := by unfold Dev.ringPush Dev.nextSeq; simp
@[simp] theorem Dev.ringPush_host (t cap cnt src b : Nat) (f : Nat → Bool → Nat) (d : Dev) : (d.ringPush t cap cnt src b f).host = d.host := by unfold Dev.ringPush Dev.nextSeq; simp
@[simp] theorem Dev.ringPush_commit (t cap cnt src b : Nat) (f : Nat → Bool → Nat) (d : Dev) : (d.ringPush t cap cnt src b f).commit = d.commit := by unfold Dev.ringPush Dev.nextSeq; simp
@[simp] theorem Dev.ringPush_yard (t cap cnt src b : Nat) (f : Nat → Bool → Nat) (d : Dev) : (d.ringPush t cap cnt src b f).yard = d.yard := by unfold Dev.ringPush Dev.nextSeq; simp
@[simp] theorem Dev.ringPush_pair (t cap cnt src b : Nat) (f : Nat → Bool → Nat) (d : Dev) : (d.ringPush t cap cnt src b f).pair = d.pair := by unfold Dev.ringPush Dev.nextSeq; simp
@[simp] theorem Dev.ringPush_casc (t cap cnt src b : Nat) (f : Nat → Bool → Nat) (d : Dev) : (d.ringPush t cap cnt src b f).casc = d.casc := by unfold Dev.ringPush Dev.nextSeq; simp
@[simp] theorem Dev.ringPush_hbm (t cap cnt src b : Nat) (f : Nat → Bool → Nat) (d : Dev) : (d.ringPush t cap cnt src b f).hbm = d.hbm := by unfold Dev.ringPush Dev.nextSeq; simp
@[simp] theorem Dev.ringPush_fw (t cap cnt src b : Nat) (f : Nat → Bool → Nat) (d : Dev) : (d.ringPush t cap cnt src b f).fw = d.fw := by unfold Dev.ringPush Dev.nextSeq; simp
@[simp] theorem Dev.ringPush_tele (t cap cnt src b : Nat) (f : Nat → Bool → Nat) (d : Dev) : (d.ringPush t cap cnt src b f).tele = d.tele := by unfold Dev.ringPush Dev.nextSeq; simp
@[simp] theorem Dev.ringPush_tap (t cap cnt src b : Nat) (f : Nat → Bool → Nat) (d : Dev) : (d.ringPush t cap cnt src b f).tap = d.tap := by unfold Dev.ringPush Dev.nextSeq; simp

/-! ### An operation made on a condition -/

theorem Dev.cond_now (c : Bool) (g : Dev → Dev) (d : Dev) : (d.cond c g).now = if c then (g d).now else d.now := by unfold Dev.cond; split <;> rfl
theorem Dev.cond_frees (c : Bool) (g : Dev → Dev) (d : Dev) : (d.cond c g).frees = if c then (g d).frees else d.frees := by unfold Dev.cond; split <;> rfl
theorem Dev.cond_dict (c : Bool) (g : Dev → Dev) (d : Dev) : (d.cond c g).dict = if c then (g d).dict else d.dict := by unfold Dev.cond; split <;> rfl
theorem Dev.cond_seqs (c : Bool) (g : Dev → Dev) (d : Dev) : (d.cond c g).seqs = if c then (g d).seqs else d.seqs := by unfold Dev.cond; split <;> rfl
theorem Dev.cond_recent (c : Bool) (g : Dev → Dev) (d : Dev) : (d.cond c g).recent = if c then (g d).recent else d.recent := by unfold Dev.cond; split <;> rfl
theorem Dev.cond_time (c : Bool) (g : Dev → Dev) (d : Dev) : (d.cond c g).time = if c then (g d).time else d.time := by unfold Dev.cond; split <;> rfl
theorem Dev.cond_access (c : Bool) (g : Dev → Dev) (d : Dev) : (d.cond c g).access = if c then (g d).access else d.access := by unfold Dev.cond; split <;> rfl
theorem Dev.cond_faults (c : Bool) (g : Dev → Dev) (d : Dev) : (d.cond c g).faults = if c then (g d).faults else d.faults := by unfold Dev.cond; split <;> rfl
theorem Dev.cond_wd (c : Bool) (g : Dev → Dev) (d : Dev) : (d.cond c g).wd = if c then (g d).wd else d.wd := by unfold Dev.cond; split <;> rfl
theorem Dev.cond_power (c : Bool) (g : Dev → Dev) (d : Dev) : (d.cond c g).power = if c then (g d).power else d.power := by unfold Dev.cond; split <;> rfl
theorem Dev.cond_out (c : Bool) (g : Dev → Dev) (d : Dev) : (d.cond c g).out = if c then (g d).out else d.out := by unfold Dev.cond; split <;> rfl
theorem Dev.cond_ports (c : Bool) (g : Dev → Dev) (d : Dev) : (d.cond c g).ports = if c then (g d).ports else d.ports := by unfold Dev.cond; split <;> rfl
theorem Dev.cond_net (c : Bool) (g : Dev → Dev) (d : Dev) : (d.cond c g).net = if c then (g d).net else d.net := by unfold Dev.cond; split <;> rfl
theorem Dev.cond_host (c : Bool) (g : Dev → Dev) (d : Dev) : (d.cond c g).host = if c then (g d).host else d.host := by unfold Dev.cond; split <;> rfl
theorem Dev.cond_commit (c : Bool) (g : Dev → Dev) (d : Dev) : (d.cond c g).commit = if c then (g d).commit else d.commit := by unfold Dev.cond; split <;> rfl
theorem Dev.cond_yard (c : Bool) (g : Dev → Dev) (d : Dev) : (d.cond c g).yard = if c then (g d).yard else d.yard := by unfold Dev.cond; split <;> rfl
theorem Dev.cond_pair (c : Bool) (g : Dev → Dev) (d : Dev) : (d.cond c g).pair = if c then (g d).pair else d.pair := by unfold Dev.cond; split <;> rfl
theorem Dev.cond_casc (c : Bool) (g : Dev → Dev) (d : Dev) : (d.cond c g).casc = if c then (g d).casc else d.casc := by unfold Dev.cond; split <;> rfl
theorem Dev.cond_hbm (c : Bool) (g : Dev → Dev) (d : Dev) : (d.cond c g).hbm = if c then (g d).hbm else d.hbm := by unfold Dev.cond; split <;> rfl
theorem Dev.cond_fw (c : Bool) (g : Dev → Dev) (d : Dev) : (d.cond c g).fw = if c then (g d).fw else d.fw := by unfold Dev.cond; split <;> rfl
theorem Dev.cond_tele (c : Bool) (g : Dev → Dev) (d : Dev) : (d.cond c g).tele = if c then (g d).tele else d.tele := by unfold Dev.cond; split <;> rfl
theorem Dev.cond_tap (c : Bool) (g : Dev → Dev) (d : Dev) : (d.cond c g).tap = if c then (g d).tap else d.tap := by unfold Dev.cond; split <;> rfl

end Sys2Proof.Machine
end

