-- ==== Sys2Proof/Laws/Commands.lean ====
section
/-!
SUPPORT. What the wrappers of every command do: time passes, the TAP and the queue stand, and the block is what the command's function leaves.
-/
namespace Sys2Proof.Machine

/-- The block that a command of the main domains leaves, where they run. -/
def Dev.lived (x : Nat) (f : Dev → Dev) (d : Dev) : Dev :=
  (((f (d.setNow (max d.now x))).statusIrq (d.setNow (max d.now x)).statusWord).setNow (max d.now x)).setTap d.tap

/-- A command of the main domains, where they run. -/
theorem State.live_runs (s : State) (x : Nat) (f : Dev → Dev) (h : s.Runs) : s.live x f = .next { s with dev := s.dev.lived x f } := by
  have h' : (s.dev.setNow (max s.dev.now x)).power.alive = true := h
  simp only [State.live, Dev.at, Dev.lived]
  rw [if_pos h']

/-- A command of the main domains, where they do not run: time passes. -/
theorem State.live_dead (s : State) (x : Nat) (f : Dev → Dev) (h : ¬ s.Runs) : s.live x f = .next { s with dev := s.seen x } := by
  have h' : ¬ (s.dev.setNow (max s.dev.now x)).power.alive = true := h
  simp only [State.live, Dev.at, State.seen]
  rw [if_neg h']; rfl

/-- A command of the main domains completes with what its function leaves. -/
theorem completes_live {c : Instr} {s : State} {x : Nat} {f : Dev → Dev} {P : Dev → Prop} (e : exec c s = s.live x f) (h : s.Runs)
    (p : P (s.dev.lived x f)) : Completes c s P :=
  ⟨_, e.trans (s.live_runs x f h), rfl, p⟩

/-- A command of the always-on domain completes with what its function leaves. -/
theorem completes_aon {c : Instr} {s : State} {x : Nat} {f : Dev → Dev} {P : Dev → Prop} (e : exec c s = s.aon x f)
    (p : P (((f (s.seen x)).setNow (max s.dev.now x)).setTap s.dev.tap)) : Completes c s P :=
  ⟨_, e, rfl, p⟩

/-- What every step of a loop leaves alone, the loop leaves alone. -/
theorem Dev.each_inv {α β : Type} (g : Dev → β) (f : α → Dev → Dev) (h : ∀ a d, g (f a d) = g d) (l : List α) (d : Dev) : g (d.each l f) = g d := by
  induction l generalizing d with
  | nil => rfl
  | cons a l ih =>
    have e : d.each (a :: l) f = (f a d).each l f := rfl
    rw [e, ih, h]

/-- What every step of a counted loop leaves alone, the loop leaves alone. -/
theorem Dev.upto_inv {β : Type} (g : Dev → β) (f : Nat → Dev → Dev) (h : ∀ i d, g (f i d) = g d) (n : Nat) (d : Dev) : g (d.upto n f) = g d :=
  Dev.each_inv g f h _ d

/-- A condition on the block that every step of a loop keeps, the loop keeps. -/
theorem Dev.each_keeps {α : Type} (P : Dev → Prop) (f : α → Dev → Dev) (h : ∀ a d, P d → P (f a d)) (l : List α) (d : Dev) (hd : P d) :
    P (d.each l f) := by
  induction l generalizing d with
  | nil => exact hd
  | cons a l ih => exact ih (f a d) (h a d hd)

@[simp] theorem State.seen_now (x : Nat) (s : State) : (s.seen x).now = max s.dev.now x := rfl
@[simp] theorem Dev.lived_frees (x : Nat) (f : Dev → Dev) (d : Dev) : (d.lived x f).frees = (f (d.setNow (max d.now x))).frees := by simp [Dev.lived]
@[simp] theorem Dev.lived_dict (x : Nat) (f : Dev → Dev) (d : Dev) : (d.lived x f).dict = (f (d.setNow (max d.now x))).dict := by simp [Dev.lived]
@[simp] theorem Dev.lived_seqs (x : Nat) (f : Dev → Dev) (d : Dev) : (d.lived x f).seqs = (f (d.setNow (max d.now x))).seqs := by simp [Dev.lived]
@[simp] theorem Dev.lived_recent (x : Nat) (f : Dev → Dev) (d : Dev) : (d.lived x f).recent = (f (d.setNow (max d.now x))).recent := by simp [Dev.lived]
@[simp] theorem Dev.lived_time (x : Nat) (f : Dev → Dev) (d : Dev) : (d.lived x f).time = (f (d.setNow (max d.now x))).time := by simp [Dev.lived]
@[simp] theorem Dev.lived_access (x : Nat) (f : Dev → Dev) (d : Dev) : (d.lived x f).access = (f (d.setNow (max d.now x))).access := by simp [Dev.lived]
@[simp] theorem Dev.lived_faults (x : Nat) (f : Dev → Dev) (d : Dev) : (d.lived x f).faults = (f (d.setNow (max d.now x))).faults := by simp [Dev.lived]
@[simp] theorem Dev.lived_wd (x : Nat) (f : Dev → Dev) (d : Dev) : (d.lived x f).wd = (f (d.setNow (max d.now x))).wd := by simp [Dev.lived]
@[simp] theorem Dev.lived_power (x : Nat) (f : Dev → Dev) (d : Dev) : (d.lived x f).power = (f (d.setNow (max d.now x))).power := by simp [Dev.lived]
@[simp] theorem Dev.lived_out (x : Nat) (f : Dev → Dev) (d : Dev) : (d.lived x f).out = (f (d.setNow (max d.now x))).out := by simp [Dev.lived]
@[simp] theorem Dev.lived_ports (x : Nat) (f : Dev → Dev) (d : Dev) : (d.lived x f).ports = (f (d.setNow (max d.now x))).ports := by simp [Dev.lived]
@[simp] theorem Dev.lived_net (x : Nat) (f : Dev → Dev) (d : Dev) : (d.lived x f).net = (f (d.setNow (max d.now x))).net := by simp [Dev.lived]
@[simp] theorem Dev.lived_commit (x : Nat) (f : Dev → Dev) (d : Dev) : (d.lived x f).commit = (f (d.setNow (max d.now x))).commit := by simp [Dev.lived]
@[simp] theorem Dev.lived_yard (x : Nat) (f : Dev → Dev) (d : Dev) : (d.lived x f).yard = (f (d.setNow (max d.now x))).yard := by simp [Dev.lived]
@[simp] theorem Dev.lived_pair (x : Nat) (f : Dev → Dev) (d : Dev) : (d.lived x f).pair = (f (d.setNow (max d.now x))).pair := by simp [Dev.lived]
@[simp] theorem Dev.lived_casc (x : Nat) (f : Dev → Dev) (d : Dev) : (d.lived x f).casc = (f (d.setNow (max d.now x))).casc := by simp [Dev.lived]
@[simp] theorem Dev.lived_hbm (x : Nat) (f : Dev → Dev) (d : Dev) : (d.lived x f).hbm = (f (d.setNow (max d.now x))).hbm := by simp [Dev.lived]
@[simp] theorem Dev.lived_fw (x : Nat) (f : Dev → Dev) (d : Dev) : (d.lived x f).fw = (f (d.setNow (max d.now x))).fw := by simp [Dev.lived]
@[simp] theorem Dev.lived_tele (x : Nat) (f : Dev → Dev) (d : Dev) : (d.lived x f).tele = (f (d.setNow (max d.now x))).tele := by simp [Dev.lived]
@[simp] theorem Dev.lived_now (x : Nat) (f : Dev → Dev) (d : Dev) : (d.lived x f).now = max d.now x := rfl
@[simp] theorem Dev.lived_tap (x : Nat) (f : Dev → Dev) (d : Dev) : (d.lived x f).tap = d.tap := rfl

end Sys2Proof.Machine
end

