-- ==== Sys2Proof/Laws/Shared.lean ====
section
/-!
SUPPORT. What the larger shared operations can do: ring rows, the trace, the reset of a master.
-/
namespace Sys2Proof.Machine

/-! ### Rings of records -/

/-- A ring row is written at its count, and the count goes on; nothing else of the dictionary changes. -/
theorem ringPush_dict (t cap cnt src b : Nat) (f : Nat → Bool → Nat) (d : Dev) : ∃ v,
    (d.ringPush t cap cnt src b f).dict = (d.dict.setRow t (d.dict.get cnt % cap) v).set cnt (counted cnt (d.dict.get cnt) 1) :=
  ⟨f (d.seqs.getD src 0) d.acqNow, by simp only [Dev.ringPush, Dev.nextSeq, Dev.inc_dict, Dev.setRow_dict, Dict.get_setRow, Dev.get_eq]; rfl⟩

/-! ### The trace (R515) -/

/-- A trace event changes no entry but its count. -/
theorem trace_get (e : TraceEvent) (d : Dev) {k : Nat} (h : k ≠ E.EventTraceCount) : (d.trace e).dict.get k = d.dict.get k := by
  unfold Dev.trace
  split
  · obtain ⟨v, hv⟩ := ringPush_dict T.EventTrace 4096 E.EventTraceCount (srcKey T.EventTrace 0) 239
      (fun n acq => n * 2 ^ 240 + acq.toNat * 2 ^ 239 + e.kind * 2 ^ 235 + e.priv % 8 * 2 ^ 232 + e.master % 256 * 2 ^ 224 + e.status * 2 ^ 216 +
        e.fclass * 2 ^ 213 + e.idx * 2 ^ 192 + e.row % 2 ^ 24 * 2 ^ 168 + e.opcode * 2 ^ 160 + e.len % 2 ^ 32 * 2 ^ 128 +
        e.detail % 2 ^ 32 * 2 ^ 96 + d.stamp) d
    rw [hv, Dict.get_set_ne _ _ h, Dict.get_setRow]
  · rfl

/-- A trace event changes no row but its own TABLE's. -/
theorem trace_row (e : TraceEvent) (d : Dev) {t i : Nat} (h : t ≠ T.EventTrace) (hi : i < 2 ^ 20) : (d.trace e).dict.row t i = d.dict.row t i := by
  unfold Dev.trace
  split
  · obtain ⟨v, hv⟩ := ringPush_dict T.EventTrace 4096 E.EventTraceCount (srcKey T.EventTrace 0) 239
      (fun n acq => n * 2 ^ 240 + acq.toNat * 2 ^ 239 + e.kind * 2 ^ 235 + e.priv % 8 * 2 ^ 232 + e.master % 256 * 2 ^ 224 + e.status * 2 ^ 216 +
        e.fclass * 2 ^ 213 + e.idx * 2 ^ 192 + e.row % 2 ^ 24 * 2 ^ 168 + e.opcode * 2 ^ 160 + e.len % 2 ^ 32 * 2 ^ 128 +
        e.detail % 2 ^ 32 * 2 ^ 96 + d.stamp) d
    have hm : d.dict.get E.EventTraceCount % 4096 < 2 ^ 20 := Nat.lt_trans (Nat.mod_lt _ (by decide)) (by decide)
    rw [hv, Dict.row_set, Dict.row_setRow_table _ _ h hi hm]
  · rfl

/-- A trace event changes no DOMAIN. -/
theorem trace_dom (e : TraceEvent) (d : Dev) (k : Nat) : (d.trace e).dict.dom k = d.dict.dom k := by
  unfold Dev.trace
  split
  · obtain ⟨v, hv⟩ := ringPush_dict T.EventTrace 4096 E.EventTraceCount (srcKey T.EventTrace 0) 239
      (fun n acq => n * 2 ^ 240 + acq.toNat * 2 ^ 239 + e.kind * 2 ^ 235 + e.priv % 8 * 2 ^ 232 + e.master % 256 * 2 ^ 224 + e.status * 2 ^ 216 +
        e.fclass * 2 ^ 213 + e.idx * 2 ^ 192 + e.row % 2 ^ 24 * 2 ^ 168 + e.opcode * 2 ^ 160 + e.len % 2 ^ 32 * 2 ^ 128 +
        e.detail % 2 ^ 32 * 2 ^ 96 + d.stamp) d
    rw [hv, Dict.dom_set, Dict.dom_setRow]
  · rfl

@[simp] theorem Dev.trace_now (e : TraceEvent) (d : Dev) : (d.trace e).now = d.now := by unfold Dev.trace; split; exact Dev.ringPush_now _ _ _ _ _ _ _; rfl
@[simp] theorem Dev.trace_frees (e : TraceEvent) (d : Dev) : (d.trace e).frees = d.frees := by unfold Dev.trace; split; exact Dev.ringPush_frees _ _ _ _ _ _ _; rfl
@[simp] theorem Dev.trace_time (e : TraceEvent) (d : Dev) : (d.trace e).time = d.time := by unfold Dev.trace; split; exact Dev.ringPush_time _ _ _ _ _ _ _; rfl
@[simp] theorem Dev.trace_faults (e : TraceEvent) (d : Dev) : (d.trace e).faults = d.faults := by unfold Dev.trace; split; exact Dev.ringPush_faults _ _ _ _ _ _ _; rfl
@[simp] theorem Dev.trace_wd (e : TraceEvent) (d : Dev) : (d.trace e).wd = d.wd := by unfold Dev.trace; split; exact Dev.ringPush_wd _ _ _ _ _ _ _; rfl
@[simp] theorem Dev.trace_power (e : TraceEvent) (d : Dev) : (d.trace e).power = d.power := by unfold Dev.trace; split; exact Dev.ringPush_power _ _ _ _ _ _ _; rfl
@[simp] theorem Dev.trace_out (e : TraceEvent) (d : Dev) : (d.trace e).out = d.out := by unfold Dev.trace; split; exact Dev.ringPush_out _ _ _ _ _ _ _; rfl
@[simp] theorem Dev.trace_ports (e : TraceEvent) (d : Dev) : (d.trace e).ports = d.ports := by unfold Dev.trace; split; exact Dev.ringPush_ports _ _ _ _ _ _ _; rfl
@[simp] theorem Dev.trace_net (e : TraceEvent) (d : Dev) : (d.trace e).net = d.net := by unfold Dev.trace; split; exact Dev.ringPush_net _ _ _ _ _ _ _; rfl
@[simp] theorem Dev.trace_host (e : TraceEvent) (d : Dev) : (d.trace e).host = d.host := by unfold Dev.trace; split; exact Dev.ringPush_host _ _ _ _ _ _ _; rfl
@[simp] theorem Dev.trace_commit (e : TraceEvent) (d : Dev) : (d.trace e).commit = d.commit := by unfold Dev.trace; split; exact Dev.ringPush_commit _ _ _ _ _ _ _; rfl
@[simp] theorem Dev.trace_yard (e : TraceEvent) (d : Dev) : (d.trace e).yard = d.yard := by unfold Dev.trace; split; exact Dev.ringPush_yard _ _ _ _ _ _ _; rfl
@[simp] theorem Dev.trace_pair (e : TraceEvent) (d : Dev) : (d.trace e).pair = d.pair := by unfold Dev.trace; split; exact Dev.ringPush_pair _ _ _ _ _ _ _; rfl
@[simp] theorem Dev.trace_casc (e : TraceEvent) (d : Dev) : (d.trace e).casc = d.casc := by unfold Dev.trace; split; exact Dev.ringPush_casc _ _ _ _ _ _ _; rfl
@[simp] theorem Dev.trace_hbm (e : TraceEvent) (d : Dev) : (d.trace e).hbm = d.hbm := by unfold Dev.trace; split; exact Dev.ringPush_hbm _ _ _ _ _ _ _; rfl
@[simp] theorem Dev.trace_fw (e : TraceEvent) (d : Dev) : (d.trace e).fw = d.fw := by unfold Dev.trace; split; exact Dev.ringPush_fw _ _ _ _ _ _ _; rfl
@[simp] theorem Dev.trace_tele (e : TraceEvent) (d : Dev) : (d.trace e).tele = d.tele := by unfold Dev.trace; split; exact Dev.ringPush_tele _ _ _ _ _ _ _; rfl
@[simp] theorem Dev.trace_tap (e : TraceEvent) (d : Dev) : (d.trace e).tap = d.tap := by unfold Dev.trace; split; exact Dev.ringPush_tap _ _ _ _ _ _ _; rfl
@[simp] theorem Dev.tracePriv_now (r : Requester) (d : Dev) : (d.tracePriv r).2.now = d.now := by unfold Dev.tracePriv; split <;> rfl
@[simp] theorem Dev.tracePriv_dict (r : Requester) (d : Dev) : (d.tracePriv r).2.dict = d.dict := by unfold Dev.tracePriv; split <;> rfl
@[simp] theorem Dev.tracePriv_seqs (r : Requester) (d : Dev) : (d.tracePriv r).2.seqs = d.seqs := by unfold Dev.tracePriv; split <;> rfl
@[simp] theorem Dev.tracePriv_recent (r : Requester) (d : Dev) : (d.tracePriv r).2.recent = d.recent := by unfold Dev.tracePriv; split <;> rfl
@[simp] theorem Dev.tracePriv_time (r : Requester) (d : Dev) : (d.tracePriv r).2.time = d.time := by unfold Dev.tracePriv; split <;> rfl
@[simp] theorem Dev.tracePriv_access (r : Requester) (d : Dev) : (d.tracePriv r).2.access = d.access := by unfold Dev.tracePriv; split <;> rfl
@[simp] theorem Dev.tracePriv_faults (r : Requester) (d : Dev) : (d.tracePriv r).2.faults = d.faults := by unfold Dev.tracePriv; split <;> rfl
@[simp] theorem Dev.tracePriv_wd (r : Requester) (d : Dev) : (d.tracePriv r).2.wd = d.wd := by unfold Dev.tracePriv; split <;> rfl
@[simp] theorem Dev.tracePriv_power (r : Requester) (d : Dev) : (d.tracePriv r).2.power = d.power := by unfold Dev.tracePriv; split <;> rfl
@[simp] theorem Dev.tracePriv_out (r : Requester) (d : Dev) : (d.tracePriv r).2.out = d.out := by unfold Dev.tracePriv; split <;> rfl
@[simp] theorem Dev.tracePriv_ports (r : Requester) (d : Dev) : (d.tracePriv r).2.ports = d.ports := by unfold Dev.tracePriv; split <;> rfl
@[simp] theorem Dev.tracePriv_net (r : Requester) (d : Dev) : (d.tracePriv r).2.net = d.net := by unfold Dev.tracePriv; split <;> rfl
@[simp] theorem Dev.tracePriv_host (r : Requester) (d : Dev) : (d.tracePriv r).2.host = d.host := by unfold Dev.tracePriv; split <;> rfl
@[simp] theorem Dev.tracePriv_commit (r : Requester) (d : Dev) : (d.tracePriv r).2.commit = d.commit := by unfold Dev.tracePriv; split <;> rfl
@[simp] theorem Dev.tracePriv_yard (r : Requester) (d : Dev) : (d.tracePriv r).2.yard = d.yard := by unfold Dev.tracePriv; split <;> rfl
@[simp] theorem Dev.tracePriv_pair (r : Requester) (d : Dev) : (d.tracePriv r).2.pair = d.pair := by unfold Dev.tracePriv; split <;> rfl
@[simp] theorem Dev.tracePriv_casc (r : Requester) (d : Dev) : (d.tracePriv r).2.casc = d.casc := by unfold Dev.tracePriv; split <;> rfl
@[simp] theorem Dev.tracePriv_hbm (r : Requester) (d : Dev) : (d.tracePriv r).2.hbm = d.hbm := by unfold Dev.tracePriv; split <;> rfl
@[simp] theorem Dev.tracePriv_fw (r : Requester) (d : Dev) : (d.tracePriv r).2.fw = d.fw := by unfold Dev.tracePriv; split <;> rfl
@[simp] theorem Dev.tracePriv_tele (r : Requester) (d : Dev) : (d.tracePriv r).2.tele = d.tele := by unfold Dev.tracePriv; split <;> rfl
@[simp] theorem Dev.tracePriv_tap (r : Requester) (d : Dev) : (d.tracePriv r).2.tap = d.tap := by unfold Dev.tracePriv; split <;> rfl

/-- A fault's trace event changes no entry but the trace's count. -/
theorem traceFault_get (a b c e : Nat) (d : Dev) {k : Nat} (h : k ≠ E.EventTraceCount) : (d.traceFault a b c e).dict.get k = d.dict.get k := by
  unfold Dev.traceFault
  exact (trace_get _ _ h).trans (congrArg (fun c : Dict => c.get k) (Dev.tracePriv_dict _ _))

/-- A fault's trace event changes no row but the trace's. -/
theorem traceFault_row (a b c e : Nat) (d : Dev) {t i : Nat} (h : t ≠ T.EventTrace) (hi : i < 2 ^ 20) :
    (d.traceFault a b c e).dict.row t i = d.dict.row t i := by
  unfold Dev.traceFault
  exact (trace_row _ _ h hi).trans (congrArg (fun c : Dict => c.row t i) (Dev.tracePriv_dict _ _))

@[simp] theorem Dev.traceFault_now (a b c e : Nat) (d : Dev) : (d.traceFault a b c e).now = d.now := by unfold Dev.traceFault; exact (Dev.trace_now _ _).trans (Dev.tracePriv_now _ _)
@[simp] theorem Dev.traceFault_time (a b c e : Nat) (d : Dev) : (d.traceFault a b c e).time = d.time := by unfold Dev.traceFault; exact (Dev.trace_time _ _).trans (Dev.tracePriv_time _ _)
@[simp] theorem Dev.traceFault_faults (a b c e : Nat) (d : Dev) : (d.traceFault a b c e).faults = d.faults := by unfold Dev.traceFault; exact (Dev.trace_faults _ _).trans (Dev.tracePriv_faults _ _)
@[simp] theorem Dev.traceFault_wd (a b c e : Nat) (d : Dev) : (d.traceFault a b c e).wd = d.wd := by unfold Dev.traceFault; exact (Dev.trace_wd _ _).trans (Dev.tracePriv_wd _ _)
@[simp] theorem Dev.traceFault_power (a b c e : Nat) (d : Dev) : (d.traceFault a b c e).power = d.power := by unfold Dev.traceFault; exact (Dev.trace_power _ _).trans (Dev.tracePriv_power _ _)
@[simp] theorem Dev.traceFault_out (a b c e : Nat) (d : Dev) : (d.traceFault a b c e).out = d.out := by unfold Dev.traceFault; exact (Dev.trace_out _ _).trans (Dev.tracePriv_out _ _)
@[simp] theorem Dev.traceFault_ports (a b c e : Nat) (d : Dev) : (d.traceFault a b c e).ports = d.ports := by unfold Dev.traceFault; exact (Dev.trace_ports _ _).trans (Dev.tracePriv_ports _ _)
@[simp] theorem Dev.traceFault_net (a b c e : Nat) (d : Dev) : (d.traceFault a b c e).net = d.net := by unfold Dev.traceFault; exact (Dev.trace_net _ _).trans (Dev.tracePriv_net _ _)
@[simp] theorem Dev.traceFault_host (a b c e : Nat) (d : Dev) : (d.traceFault a b c e).host = d.host := by unfold Dev.traceFault; exact (Dev.trace_host _ _).trans (Dev.tracePriv_host _ _)
@[simp] theorem Dev.traceFault_commit (a b c e : Nat) (d : Dev) : (d.traceFault a b c e).commit = d.commit := by unfold Dev.traceFault; exact (Dev.trace_commit _ _).trans (Dev.tracePriv_commit _ _)
@[simp] theorem Dev.traceFault_yard (a b c e : Nat) (d : Dev) : (d.traceFault a b c e).yard = d.yard := by unfold Dev.traceFault; exact (Dev.trace_yard _ _).trans (Dev.tracePriv_yard _ _)
@[simp] theorem Dev.traceFault_pair (a b c e : Nat) (d : Dev) : (d.traceFault a b c e).pair = d.pair := by unfold Dev.traceFault; exact (Dev.trace_pair _ _).trans (Dev.tracePriv_pair _ _)
@[simp] theorem Dev.traceFault_casc (a b c e : Nat) (d : Dev) : (d.traceFault a b c e).casc = d.casc := by unfold Dev.traceFault; exact (Dev.trace_casc _ _).trans (Dev.tracePriv_casc _ _)
@[simp] theorem Dev.traceFault_hbm (a b c e : Nat) (d : Dev) : (d.traceFault a b c e).hbm = d.hbm := by unfold Dev.traceFault; exact (Dev.trace_hbm _ _).trans (Dev.tracePriv_hbm _ _)
@[simp] theorem Dev.traceFault_fw (a b c e : Nat) (d : Dev) : (d.traceFault a b c e).fw = d.fw := by unfold Dev.traceFault; exact (Dev.trace_fw _ _).trans (Dev.tracePriv_fw _ _)
@[simp] theorem Dev.traceFault_tele (a b c e : Nat) (d : Dev) : (d.traceFault a b c e).tele = d.tele := by unfold Dev.traceFault; exact (Dev.trace_tele _ _).trans (Dev.tracePriv_tele _ _)
@[simp] theorem Dev.traceFault_tap (a b c e : Nat) (d : Dev) : (d.traceFault a b c e).tap = d.tap := by unfold Dev.traceFault; exact (Dev.trace_tap _ _).trans (Dev.tracePriv_tap _ _)

/-! ### Mailboxes and the reset of a master (R440 to R446) -/

@[simp] theorem Dev.mboxIrq_now (c : Nat) (a : Bool) (d : Dev) : (d.mboxIrq c a).now = d.now := by unfold Dev.mboxIrq; simp only []; split <;> simp
@[simp] theorem Dev.mboxIrq_frees (c : Nat) (a : Bool) (d : Dev) : (d.mboxIrq c a).frees = d.frees := by unfold Dev.mboxIrq; simp only []; split <;> simp
@[simp] theorem Dev.mboxIrq_dict (c : Nat) (a : Bool) (d : Dev) : (d.mboxIrq c a).dict = d.dict := by unfold Dev.mboxIrq; simp only []; split <;> simp
@[simp] theorem Dev.mboxIrq_seqs (c : Nat) (a : Bool) (d : Dev) : (d.mboxIrq c a).seqs = d.seqs := by unfold Dev.mboxIrq; simp only []; split <;> simp
@[simp] theorem Dev.mboxIrq_recent (c : Nat) (a : Bool) (d : Dev) : (d.mboxIrq c a).recent = d.recent := by unfold Dev.mboxIrq; simp only []; split <;> simp
@[simp] theorem Dev.mboxIrq_time (c : Nat) (a : Bool) (d : Dev) : (d.mboxIrq c a).time = d.time := by unfold Dev.mboxIrq; simp only []; split <;> simp
@[simp] theorem Dev.mboxIrq_access (c : Nat) (a : Bool) (d : Dev) : (d.mboxIrq c a).access = d.access := by unfold Dev.mboxIrq; simp only []; split <;> simp
@[simp] theorem Dev.mboxIrq_faults (c : Nat) (a : Bool) (d : Dev) : (d.mboxIrq c a).faults = d.faults := by unfold Dev.mboxIrq; simp only []; split <;> simp
@[simp] theorem Dev.mboxIrq_wd (c : Nat) (a : Bool) (d : Dev) : (d.mboxIrq c a).wd = d.wd := by unfold Dev.mboxIrq; simp only []; split <;> simp
@[simp] theorem Dev.mboxIrq_power (c : Nat) (a : Bool) (d : Dev) : (d.mboxIrq c a).power = d.power := by unfold Dev.mboxIrq; simp only []; split <;> simp
@[simp] theorem Dev.mboxIrq_ports (c : Nat) (a : Bool) (d : Dev) : (d.mboxIrq c a).ports = d.ports := by unfold Dev.mboxIrq; simp only []; split <;> simp
@[simp] theorem Dev.mboxIrq_net (c : Nat) (a : Bool) (d : Dev) : (d.mboxIrq c a).net = d.net := by unfold Dev.mboxIrq; simp only []; split <;> simp
@[simp] theorem Dev.mboxIrq_commit (c : Nat) (a : Bool) (d : Dev) : (d.mboxIrq c a).commit = d.commit := by unfold Dev.mboxIrq; simp only []; split <;> simp
@[simp] theorem Dev.mboxIrq_yard (c : Nat) (a : Bool) (d : Dev) : (d.mboxIrq c a).yard = d.yard := by unfold Dev.mboxIrq; simp only []; split <;> simp
@[simp] theorem Dev.mboxIrq_pair (c : Nat) (a : Bool) (d : Dev) : (d.mboxIrq c a).pair = d.pair := by unfold Dev.mboxIrq; simp only []; split <;> simp
@[simp] theorem Dev.mboxIrq_casc (c : Nat) (a : Bool) (d : Dev) : (d.mboxIrq c a).casc = d.casc := by unfold Dev.mboxIrq; simp only []; split <;> simp
@[simp] theorem Dev.mboxIrq_hbm (c : Nat) (a : Bool) (d : Dev) : (d.mboxIrq c a).hbm = d.hbm := by unfold Dev.mboxIrq; simp only []; split <;> simp
@[simp] theorem Dev.mboxIrq_fw (c : Nat) (a : Bool) (d : Dev) : (d.mboxIrq c a).fw = d.fw := by unfold Dev.mboxIrq; simp only []; split <;> simp
@[simp] theorem Dev.mboxIrq_tele (c : Nat) (a : Bool) (d : Dev) : (d.mboxIrq c a).tele = d.tele := by unfold Dev.mboxIrq; simp only []; split <;> simp
@[simp] theorem Dev.mboxIrq_tap (c : Nat) (a : Bool) (d : Dev) : (d.mboxIrq c a).tap = d.tap := by unfold Dev.mboxIrq; simp only []; split <;> simp
@[simp] theorem Dev.mboxEmpty_now (c : Nat) (a : Bool) (d : Dev) : (d.mboxEmpty c a).now = d.now := by simp [Dev.mboxEmpty, Dev.cond_now, Dev.setMbox]
@[simp] theorem Dev.mboxEmpty_frees (c : Nat) (a : Bool) (d : Dev) : (d.mboxEmpty c a).frees = d.frees := by simp [Dev.mboxEmpty, Dev.cond_frees, Dev.setMbox]
@[simp] theorem Dev.mboxEmpty_dict (c : Nat) (a : Bool) (d : Dev) : (d.mboxEmpty c a).dict = d.dict := by simp [Dev.mboxEmpty, Dev.cond_dict, Dev.setMbox]
@[simp] theorem Dev.mboxEmpty_seqs (c : Nat) (a : Bool) (d : Dev) : (d.mboxEmpty c a).seqs = d.seqs := by simp [Dev.mboxEmpty, Dev.cond_seqs, Dev.setMbox]
@[simp] theorem Dev.mboxEmpty_recent (c : Nat) (a : Bool) (d : Dev) : (d.mboxEmpty c a).recent = d.recent := by simp [Dev.mboxEmpty, Dev.cond_recent, Dev.setMbox]
@[simp] theorem Dev.mboxEmpty_time (c : Nat) (a : Bool) (d : Dev) : (d.mboxEmpty c a).time = d.time := by simp [Dev.mboxEmpty, Dev.cond_time, Dev.setMbox]
@[simp] theorem Dev.mboxEmpty_access (c : Nat) (a : Bool) (d : Dev) : (d.mboxEmpty c a).access = d.access := by simp [Dev.mboxEmpty, Dev.cond_access, Dev.setMbox]
@[simp] theorem Dev.mboxEmpty_faults (c : Nat) (a : Bool) (d : Dev) : (d.mboxEmpty c a).faults = d.faults := by simp [Dev.mboxEmpty, Dev.cond_faults, Dev.setMbox]
@[simp] theorem Dev.mboxEmpty_wd (c : Nat) (a : Bool) (d : Dev) : (d.mboxEmpty c a).wd = d.wd := by simp [Dev.mboxEmpty, Dev.cond_wd, Dev.setMbox]
@[simp] theorem Dev.mboxEmpty_power (c : Nat) (a : Bool) (d : Dev) : (d.mboxEmpty c a).power = d.power := by simp [Dev.mboxEmpty, Dev.cond_power, Dev.setMbox]
@[simp] theorem Dev.mboxEmpty_ports (c : Nat) (a : Bool) (d : Dev) : (d.mboxEmpty c a).ports = d.ports := by simp [Dev.mboxEmpty, Dev.cond_ports, Dev.setMbox]
@[simp] theorem Dev.mboxEmpty_net (c : Nat) (a : Bool) (d : Dev) : (d.mboxEmpty c a).net = d.net := by simp [Dev.mboxEmpty, Dev.cond_net, Dev.setMbox]
@[simp] theorem Dev.mboxEmpty_commit (c : Nat) (a : Bool) (d : Dev) : (d.mboxEmpty c a).commit = d.commit := by simp [Dev.mboxEmpty, Dev.cond_commit, Dev.setMbox]
@[simp] theorem Dev.mboxEmpty_yard (c : Nat) (a : Bool) (d : Dev) : (d.mboxEmpty c a).yard = d.yard := by simp [Dev.mboxEmpty, Dev.cond_yard, Dev.setMbox]
@[simp] theorem Dev.mboxEmpty_pair (c : Nat) (a : Bool) (d : Dev) : (d.mboxEmpty c a).pair = d.pair := by simp [Dev.mboxEmpty, Dev.cond_pair, Dev.setMbox]
@[simp] theorem Dev.mboxEmpty_casc (c : Nat) (a : Bool) (d : Dev) : (d.mboxEmpty c a).casc = d.casc := by simp [Dev.mboxEmpty, Dev.cond_casc, Dev.setMbox]
@[simp] theorem Dev.mboxEmpty_hbm (c : Nat) (a : Bool) (d : Dev) : (d.mboxEmpty c a).hbm = d.hbm := by simp [Dev.mboxEmpty, Dev.cond_hbm, Dev.setMbox]
@[simp] theorem Dev.mboxEmpty_fw (c : Nat) (a : Bool) (d : Dev) : (d.mboxEmpty c a).fw = d.fw := by simp [Dev.mboxEmpty, Dev.cond_fw, Dev.setMbox]
@[simp] theorem Dev.mboxEmpty_tele (c : Nat) (a : Bool) (d : Dev) : (d.mboxEmpty c a).tele = d.tele := by simp [Dev.mboxEmpty, Dev.cond_tele, Dev.setMbox]
@[simp] theorem Dev.mboxEmpty_tap (c : Nat) (a : Bool) (d : Dev) : (d.mboxEmpty c a).tap = d.tap := by simp [Dev.mboxEmpty, Dev.cond_tap, Dev.setMbox]
@[simp] theorem Dev.mboxReset_now (m c : Nat) (d : Dev) : (d.mboxReset m c).now = d.now := by unfold Dev.mboxReset; split <;> simp [Dev.cond_now, Dev.setMbox]
@[simp] theorem Dev.mboxReset_frees (m c : Nat) (d : Dev) : (d.mboxReset m c).frees = d.frees := by unfold Dev.mboxReset; split <;> simp [Dev.cond_frees, Dev.setMbox]
@[simp] theorem Dev.mboxReset_dict (m c : Nat) (d : Dev) : (d.mboxReset m c).dict = d.dict := by unfold Dev.mboxReset; split <;> simp [Dev.cond_dict, Dev.setMbox]
@[simp] theorem Dev.mboxReset_seqs (m c : Nat) (d : Dev) : (d.mboxReset m c).seqs = d.seqs := by unfold Dev.mboxReset; split <;> simp [Dev.cond_seqs, Dev.setMbox]
@[simp] theorem Dev.mboxReset_recent (m c : Nat) (d : Dev) : (d.mboxReset m c).recent = d.recent := by unfold Dev.mboxReset; split <;> simp [Dev.cond_recent, Dev.setMbox]
@[simp] theorem Dev.mboxReset_time (m c : Nat) (d : Dev) : (d.mboxReset m c).time = d.time := by unfold Dev.mboxReset; split <;> simp [Dev.cond_time, Dev.setMbox]
@[simp] theorem Dev.mboxReset_access (m c : Nat) (d : Dev) : (d.mboxReset m c).access = d.access := by unfold Dev.mboxReset; split <;> simp [Dev.cond_access, Dev.setMbox]
@[simp] theorem Dev.mboxReset_faults (m c : Nat) (d : Dev) : (d.mboxReset m c).faults = d.faults := by unfold Dev.mboxReset; split <;> simp [Dev.cond_faults, Dev.setMbox]
@[simp] theorem Dev.mboxReset_wd (m c : Nat) (d : Dev) : (d.mboxReset m c).wd = d.wd := by unfold Dev.mboxReset; split <;> simp [Dev.cond_wd, Dev.setMbox]
@[simp] theorem Dev.mboxReset_power (m c : Nat) (d : Dev) : (d.mboxReset m c).power = d.power := by unfold Dev.mboxReset; split <;> simp [Dev.cond_power, Dev.setMbox]
@[simp] theorem Dev.mboxReset_ports (m c : Nat) (d : Dev) : (d.mboxReset m c).ports = d.ports := by unfold Dev.mboxReset; split <;> simp [Dev.cond_ports, Dev.setMbox]
@[simp] theorem Dev.mboxReset_net (m c : Nat) (d : Dev) : (d.mboxReset m c).net = d.net := by unfold Dev.mboxReset; split <;> simp [Dev.cond_net, Dev.setMbox]
@[simp] theorem Dev.mboxReset_commit (m c : Nat) (d : Dev) : (d.mboxReset m c).commit = d.commit := by unfold Dev.mboxReset; split <;> simp [Dev.cond_commit, Dev.setMbox]
@[simp] theorem Dev.mboxReset_yard (m c : Nat) (d : Dev) : (d.mboxReset m c).yard = d.yard := by unfold Dev.mboxReset; split <;> simp [Dev.cond_yard, Dev.setMbox]
@[simp] theorem Dev.mboxReset_pair (m c : Nat) (d : Dev) : (d.mboxReset m c).pair = d.pair := by unfold Dev.mboxReset; split <;> simp [Dev.cond_pair, Dev.setMbox]
@[simp] theorem Dev.mboxReset_casc (m c : Nat) (d : Dev) : (d.mboxReset m c).casc = d.casc := by unfold Dev.mboxReset; split <;> simp [Dev.cond_casc, Dev.setMbox]
@[simp] theorem Dev.mboxReset_hbm (m c : Nat) (d : Dev) : (d.mboxReset m c).hbm = d.hbm := by unfold Dev.mboxReset; split <;> simp [Dev.cond_hbm, Dev.setMbox]
@[simp] theorem Dev.mboxReset_fw (m c : Nat) (d : Dev) : (d.mboxReset m c).fw = d.fw := by unfold Dev.mboxReset; split <;> simp [Dev.cond_fw, Dev.setMbox]
@[simp] theorem Dev.mboxReset_tele (m c : Nat) (d : Dev) : (d.mboxReset m c).tele = d.tele := by unfold Dev.mboxReset; split <;> simp [Dev.cond_tele, Dev.setMbox]
@[simp] theorem Dev.mboxReset_tap (m c : Nat) (d : Dev) : (d.mboxReset m c).tap = d.tap := by unfold Dev.mboxReset; split <;> simp [Dev.cond_tap, Dev.setMbox]
@[simp] theorem Dev.masterReset_now (m : Nat) (d : Dev) : (d.masterReset m).now = d.now := by
  have h := fun d => Dev.upto_inv (fun d : Dev => d.now) (fun c d => d.mboxReset m c) (fun c d => Dev.mboxReset_now m c d) 16 d
  simp [Dev.masterReset, Dev.semReset, h]
@[simp] theorem Dev.masterReset_frees (m : Nat) (d : Dev) : (d.masterReset m).frees = d.frees := by
  have h := fun d => Dev.upto_inv (fun d : Dev => d.frees) (fun c d => d.mboxReset m c) (fun c d => Dev.mboxReset_frees m c d) 16 d
  simp [Dev.masterReset, Dev.semReset, h]
/-- A reset of a master increments its epoch and changes no other row, no entry and no DOMAIN. -/
@[simp] theorem Dev.masterReset_dict (m : Nat) (d : Dev) : (d.masterReset m).dict = d.dict.setRow T.MasterEpochs m ((d.epoch m + 1) % 256) := by
  have h := fun d => Dev.upto_inv (fun d : Dev => d.dict) (fun c d => d.mboxReset m c) (fun c d => Dev.mboxReset_dict m c d) 16 d
  simp [Dev.masterReset, Dev.semReset, h]
@[simp] theorem Dev.masterReset_seqs (m : Nat) (d : Dev) : (d.masterReset m).seqs = d.seqs := by
  have h := fun d => Dev.upto_inv (fun d : Dev => d.seqs) (fun c d => d.mboxReset m c) (fun c d => Dev.mboxReset_seqs m c d) 16 d
  simp [Dev.masterReset, Dev.semReset, h]
@[simp] theorem Dev.masterReset_recent (m : Nat) (d : Dev) : (d.masterReset m).recent = d.recent := by
  have h := fun d => Dev.upto_inv (fun d : Dev => d.recent) (fun c d => d.mboxReset m c) (fun c d => Dev.mboxReset_recent m c d) 16 d
  simp [Dev.masterReset, Dev.semReset, h]
@[simp] theorem Dev.masterReset_time (m : Nat) (d : Dev) : (d.masterReset m).time = d.time := by
  have h := fun d => Dev.upto_inv (fun d : Dev => d.time) (fun c d => d.mboxReset m c) (fun c d => Dev.mboxReset_time m c d) 16 d
  simp [Dev.masterReset, Dev.semReset, h]
@[simp] theorem Dev.masterReset_access (m : Nat) (d : Dev) : (d.masterReset m).access = d.access := by
  have h := fun d => Dev.upto_inv (fun d : Dev => d.access) (fun c d => d.mboxReset m c) (fun c d => Dev.mboxReset_access m c d) 16 d
  simp [Dev.masterReset, Dev.semReset, h]
@[simp] theorem Dev.masterReset_faults (m : Nat) (d : Dev) : (d.masterReset m).faults = d.faults := by
  have h := fun d => Dev.upto_inv (fun d : Dev => d.faults) (fun c d => d.mboxReset m c) (fun c d => Dev.mboxReset_faults m c d) 16 d
  simp [Dev.masterReset, Dev.semReset, h]
@[simp] theorem Dev.masterReset_wd (m : Nat) (d : Dev) : (d.masterReset m).wd = d.wd := by
  have h := fun d => Dev.upto_inv (fun d : Dev => d.wd) (fun c d => d.mboxReset m c) (fun c d => Dev.mboxReset_wd m c d) 16 d
  simp [Dev.masterReset, Dev.semReset, h]
@[simp] theorem Dev.masterReset_power (m : Nat) (d : Dev) : (d.masterReset m).power = d.power := by
  have h := fun d => Dev.upto_inv (fun d : Dev => d.power) (fun c d => d.mboxReset m c) (fun c d => Dev.mboxReset_power m c d) 16 d
  simp [Dev.masterReset, Dev.semReset, h]
@[simp] theorem Dev.masterReset_ports (m : Nat) (d : Dev) : (d.masterReset m).ports = d.ports := by
  have h := fun d => Dev.upto_inv (fun d : Dev => d.ports) (fun c d => d.mboxReset m c) (fun c d => Dev.mboxReset_ports m c d) 16 d
  simp [Dev.masterReset, Dev.semReset, h]
@[simp] theorem Dev.masterReset_net (m : Nat) (d : Dev) : (d.masterReset m).net = d.net := by
  have h := fun d => Dev.upto_inv (fun d : Dev => d.net) (fun c d => d.mboxReset m c) (fun c d => Dev.mboxReset_net m c d) 16 d
  simp [Dev.masterReset, Dev.semReset, h]
@[simp] theorem Dev.masterReset_commit (m : Nat) (d : Dev) : (d.masterReset m).commit = d.commit := by
  have h := fun d => Dev.upto_inv (fun d : Dev => d.commit) (fun c d => d.mboxReset m c) (fun c d => Dev.mboxReset_commit m c d) 16 d
  simp [Dev.masterReset, Dev.semReset, h]
@[simp] theorem Dev.masterReset_yard (m : Nat) (d : Dev) : (d.masterReset m).yard = d.yard := by
  have h := fun d => Dev.upto_inv (fun d : Dev => d.yard) (fun c d => d.mboxReset m c) (fun c d => Dev.mboxReset_yard m c d) 16 d
  simp [Dev.masterReset, Dev.semReset, h]
@[simp] theorem Dev.masterReset_pair (m : Nat) (d : Dev) : (d.masterReset m).pair = d.pair := by
  have h := fun d => Dev.upto_inv (fun d : Dev => d.pair) (fun c d => d.mboxReset m c) (fun c d => Dev.mboxReset_pair m c d) 16 d
  simp [Dev.masterReset, Dev.semReset, h]
@[simp] theorem Dev.masterReset_casc (m : Nat) (d : Dev) : (d.masterReset m).casc = d.casc := by
  have h := fun d => Dev.upto_inv (fun d : Dev => d.casc) (fun c d => d.mboxReset m c) (fun c d => Dev.mboxReset_casc m c d) 16 d
  simp [Dev.masterReset, Dev.semReset, h]
@[simp] theorem Dev.masterReset_hbm (m : Nat) (d : Dev) : (d.masterReset m).hbm = d.hbm := by
  have h := fun d => Dev.upto_inv (fun d : Dev => d.hbm) (fun c d => d.mboxReset m c) (fun c d => Dev.mboxReset_hbm m c d) 16 d
  simp [Dev.masterReset, Dev.semReset, h]
@[simp] theorem Dev.masterReset_fw (m : Nat) (d : Dev) : (d.masterReset m).fw = d.fw := by
  have h := fun d => Dev.upto_inv (fun d : Dev => d.fw) (fun c d => d.mboxReset m c) (fun c d => Dev.mboxReset_fw m c d) 16 d
  simp [Dev.masterReset, Dev.semReset, h]
@[simp] theorem Dev.masterReset_tele (m : Nat) (d : Dev) : (d.masterReset m).tele = d.tele := by
  have h := fun d => Dev.upto_inv (fun d : Dev => d.tele) (fun c d => d.mboxReset m c) (fun c d => Dev.mboxReset_tele m c d) 16 d
  simp [Dev.masterReset, Dev.semReset, h]
@[simp] theorem Dev.masterReset_tap (m : Nat) (d : Dev) : (d.masterReset m).tap = d.tap := by
  have h := fun d => Dev.upto_inv (fun d : Dev => d.tap) (fun c d => d.mboxReset m c) (fun c d => Dev.mboxReset_tap m c d) 16 d
  simp [Dev.masterReset, Dev.semReset, h]

end Sys2Proof.Machine
end

