-- ==== Sys2Proof/Laws/Dictionary.lean ====
section
/-!
SUPPORT. What a record presented by itself does beyond its own effect: its answer, its trace event, the mark of R70.
-/
namespace Sys2Proof.Machine

@[simp] theorem Dev.posed_now (r : Requester) (o : Op) (d : Dev) : (d.posed r o).now = d.now := rfl
@[simp] theorem Dev.posed_frees (r : Requester) (o : Op) (d : Dev) : (d.posed r o).frees = d.frees := rfl
@[simp] theorem Dev.posed_dict (r : Requester) (o : Op) (d : Dev) : (d.posed r o).dict = d.dict := rfl
@[simp] theorem Dev.posed_seqs (r : Requester) (o : Op) (d : Dev) : (d.posed r o).seqs = d.seqs := rfl
@[simp] theorem Dev.posed_recent (r : Requester) (o : Op) (d : Dev) : (d.posed r o).recent = d.recent := rfl
@[simp] theorem Dev.posed_time (r : Requester) (o : Op) (d : Dev) : (d.posed r o).time = d.time := rfl
@[simp] theorem Dev.posed_faults (r : Requester) (o : Op) (d : Dev) : (d.posed r o).faults = d.faults := rfl
@[simp] theorem Dev.posed_wd (r : Requester) (o : Op) (d : Dev) : (d.posed r o).wd = d.wd := rfl
@[simp] theorem Dev.posed_power (r : Requester) (o : Op) (d : Dev) : (d.posed r o).power = d.power := rfl
@[simp] theorem Dev.posed_out (r : Requester) (o : Op) (d : Dev) : (d.posed r o).out = d.out := rfl
@[simp] theorem Dev.posed_ports (r : Requester) (o : Op) (d : Dev) : (d.posed r o).ports = d.ports := rfl
@[simp] theorem Dev.posed_net (r : Requester) (o : Op) (d : Dev) : (d.posed r o).net = d.net := rfl
@[simp] theorem Dev.posed_host (r : Requester) (o : Op) (d : Dev) : (d.posed r o).host = d.host := rfl
@[simp] theorem Dev.posed_commit (r : Requester) (o : Op) (d : Dev) : (d.posed r o).commit = d.commit := rfl
@[simp] theorem Dev.posed_yard (r : Requester) (o : Op) (d : Dev) : (d.posed r o).yard = d.yard := rfl
@[simp] theorem Dev.posed_pair (r : Requester) (o : Op) (d : Dev) : (d.posed r o).pair = d.pair := rfl
@[simp] theorem Dev.posed_casc (r : Requester) (o : Op) (d : Dev) : (d.posed r o).casc = d.casc := rfl
@[simp] theorem Dev.posed_hbm (r : Requester) (o : Op) (d : Dev) : (d.posed r o).hbm = d.hbm := rfl
@[simp] theorem Dev.posed_fw (r : Requester) (o : Op) (d : Dev) : (d.posed r o).fw = d.fw := rfl
@[simp] theorem Dev.posed_tele (r : Requester) (o : Op) (d : Dev) : (d.posed r o).tele = d.tele := rfl
@[simp] theorem Dev.posed_tap (r : Requester) (o : Op) (d : Dev) : (d.posed r o).tap = d.tap := rfl

/-- What no record's own bookkeeping touches: the block without its dictionary, its access paths and what it has sent and reported. -/
def Dev.rest (d : Dev) : Dev :=
  { d with dict := {}, access := {}, seqs := [], recent := [], frees := 0, out := [], faults := { d.faults with reported := [] } }

/-- What a finished record leaves as its effect q left it: everything but its answer, the trace and its own bookkeeping. -/
structure Closes (q t : Dev) : Prop where
  rest : t.rest = q.rest
  get : ∀ k, k ≠ E.AccessErrors → k ≠ E.EventTraceCount → k ≠ E.Modified → t.dict.get k = q.dict.get k
  row : ∀ n i, n ≠ T.EventTrace → i < 2 ^ 20 → t.dict.row n i = q.dict.row n i
  dom : ∀ k, t.dict.dom k = q.dict.dom k
  rep : t.faults.reported.map (fun q => (q.rep.source, q.rep.addr)) = q.faults.reported.map (fun q => (q.rep.source, q.rep.addr))

/-! What a record that closes leaves alone. -/

theorem Closes.now {q t : Dev} (h : Closes q t) : t.now = q.now := (congrArg Dev.now h.rest :)
theorem Closes.time {q t : Dev} (h : Closes q t) : t.time = q.time := (congrArg Dev.time h.rest :)
theorem Closes.wd {q t : Dev} (h : Closes q t) : t.wd = q.wd := (congrArg Dev.wd h.rest :)
theorem Closes.power {q t : Dev} (h : Closes q t) : t.power = q.power := (congrArg Dev.power h.rest :)
theorem Closes.ports {q t : Dev} (h : Closes q t) : t.ports = q.ports := (congrArg Dev.ports h.rest :)
theorem Closes.net {q t : Dev} (h : Closes q t) : t.net = q.net := (congrArg Dev.net h.rest :)
theorem Closes.commit {q t : Dev} (h : Closes q t) : t.commit = q.commit := (congrArg Dev.commit h.rest :)
theorem Closes.yard {q t : Dev} (h : Closes q t) : t.yard = q.yard := (congrArg Dev.yard h.rest :)
theorem Closes.pair {q t : Dev} (h : Closes q t) : t.pair = q.pair := (congrArg Dev.pair h.rest :)
theorem Closes.casc {q t : Dev} (h : Closes q t) : t.casc = q.casc := (congrArg Dev.casc h.rest :)
theorem Closes.hbm {q t : Dev} (h : Closes q t) : t.hbm = q.hbm := (congrArg Dev.hbm h.rest :)
theorem Closes.fw {q t : Dev} (h : Closes q t) : t.fw = q.fw := (congrArg Dev.fw h.rest :)
theorem Closes.tele {q t : Dev} (h : Closes q t) : t.tele = q.tele := (congrArg Dev.tele h.rest :)
theorem Closes.host {q t : Dev} (h : Closes q t) : t.host = q.host := (congrArg Dev.host h.rest :)
/-- The fault collector is as it was but for what is reported to it. -/
theorem Closes.flt {q t : Dev} (h : Closes q t) (l : List Reported) : { t.faults with reported := l } = { q.faults with reported := l } :=
  (congrArg (fun d : Dev => { d.faults with reported := l }) h.rest :)

/-- The same block closes. -/
theorem Closes.rfl' (q : Dev) : Closes q q where
  rest := rfl
  get _ _ _ _ := rfl
  row _ _ _ _ := rfl
  dom _ := rfl
  rep := rfl

/-- Two bookkeeping steps. -/
theorem Closes.trans {a b c : Dev} (h : Closes a b) (g : Closes b c) : Closes a c where
  rest := g.rest.trans h.rest
  get k x y z := (g.get k x y z).trans (h.get k x y z)
  row n i x y := (g.row n i x y).trans (h.row n i x y)
  dom k := (g.dom k).trans (h.dom k)
  rep := g.rep.trans h.rep

/-- What FAULT_N, the capture and the log's count of a tick hold after a record. -/
theorem Closes.faults_eq {q t : Dev} (h : Closes q t) : t.faults.cap = q.faults.cap ∧ t.faults.nLow = q.faults.nLow ∧ t.faults.nWait = q.faults.nWait ∧
    t.faults.nEnd = q.faults.nEnd ∧ t.faults.resets = q.faults.resets := by
  have e := h.flt []
  exact ⟨congrArg (·.cap) e, congrArg (·.nLow) e, congrArg (·.nWait) e, congrArg (·.nEnd) e, congrArg (·.resets) e⟩

/-- Setting an entry touches neither what records leave alone nor the requests that wait. -/
theorem put_rest (k v : Nat) (d : Dev) : (d.put k v).rest = d.rest ∧ (d.put k v).access.replies = d.access.replies := by
  simp only [Dev.put]; split <;> exact ⟨rfl, rfl⟩

/-- Counting one likewise. -/
theorem inc_rest (k : Nat) (d : Dev) : (d.inc k).rest = d.rest ∧ (d.inc k).access.replies = d.access.replies := put_rest _ _ d

/-- A ring row likewise. -/
theorem ringPush_rest (t cap cnt src b : Nat) (f : Nat → Bool → Nat) (d : Dev) :
    (d.ringPush t cap cnt src b f).rest = d.rest ∧ (d.ringPush t cap cnt src b f).access.replies = d.access.replies := inc_rest cnt _

/-- Finding a privilege likewise. -/
theorem tracePriv_rest (r : Requester) (d : Dev) :
    (d.tracePriv r).2.rest = d.rest ∧ (d.tracePriv r).2.access.replies = d.access.replies := by
  unfold Dev.tracePriv; split <;> exact ⟨rfl, rfl⟩

/-- The trace closes, and keeps the requests that wait. -/
theorem trace_closes (e : TraceEvent) (d : Dev) : Closes d (d.trace e) ∧ (d.trace e).access.replies = d.access.replies := by
  have h : (d.trace e).rest = d.rest ∧ (d.trace e).access.replies = d.access.replies := by
    unfold Dev.trace; split
    · exact ringPush_rest _ _ _ _ _ _ _
    · exact ⟨rfl, rfl⟩
  exact ⟨⟨h.1, fun k _ g _ => trace_get e d g, fun n i g hi => trace_row e d g hi, fun k => trace_dom e d k, by simp⟩, h.2⟩

/-- Finding a privilege closes. -/
theorem Closes.tracePriv (r : Requester) (d : Dev) : Closes d (d.tracePriv r).2 where
  rest := (tracePriv_rest r d).1
  get k _ _ _ := by simp
  row n i _ _ := by simp
  dom k := by simp
  rep := by simp

/-- A traced record closes, and keeps what waits for an answer and what was sent. -/
theorem traceOp_closes (r : Requester) (o : Op) (a : Ans) (d : Dev) :
    Closes d (d.traceOp r o a) ∧ (d.traceOp r o a).access.replies = d.access.replies ∧ (d.traceOp r o a).out = d.out := by
  have key : ∀ e, Closes d ((d.tracePriv r).2.trace e) ∧ ((d.tracePriv r).2.trace e).access.replies = d.access.replies ∧
      ((d.tracePriv r).2.trace e).out = d.out := fun e =>
    ⟨(Closes.tracePriv r d).trans (trace_closes e _).1, (trace_closes e _).2.trans (tracePriv_rest r d).2, by simp⟩
  unfold Dev.traceOp
  dsimp only
  repeat' (first | exact key _ | exact ⟨Closes.rfl' d, rfl, rfl⟩ | split)

/-- A step that changes only the access paths and what is sent closes. -/
theorem Closes.access {d t : Dev} (a : Access) (o : List Output) (h : t = { d with access := a, out := o }) : Closes d t := by
  subst h
  constructor <;> intros <;> rfl

/-- Counting an AccessError closes. -/
theorem Closes.errors (d : Dev) : Closes d (d.inc E.AccessErrors) where
  rest := (inc_rest _ d).1
  get k h _ _ := by simp [h]
  row n i _ _ := by simp
  dom k := by simp
  rep := by simp

/-- What a record met marks its own faults only: it closes. -/
theorem Closes.metBy (m acc n : Nat) (q : Dev) : Closes q (q.metBy m acc n) where
  rest := rfl
  get _ _ _ _ := rfl
  row _ _ _ _ := rfl
  dom _ := rfl
  rep := by
    simp only [Dev.metBy, List.map_append, List.map_map]
    conv => rhs; rw [← List.take_append_drop n q.faults.reported, List.map_append]
    congr 1
    refine List.map_congr_left fun z _ => ?_
    simp only [Function.comp]
    split <;> rfl

/-- Finding the reply of a tag that no other bears, at the end of the list. -/
theorem find_tag {l : List Reply} {q : Reply} (h : l.all (fun p => p.tag != q.tag) = true) : (l ++ [q]).find? (fun p => p.tag == q.tag) = some q := by
  rw [List.find?_append]
  have : l.find? (fun p => p.tag == q.tag) = none := by
    rw [List.find?_eq_none]; intro p hp
    have := List.all_eq_true.1 h p hp; simp at this ⊢; exact this
  simp [this]

/-- The answer of the one record of a request that waits: the reply leaves. -/
theorem ticketDone_one (d : Dev) (q : Reply) (c : Resp) (st ty : Nat) (b : Bytes) (hf : d.access.replies.find? (fun p => p.tag == q.tag) = some q)
    (hr : q.recs = [c]) (hp : q.path = .direct) (hc : c.part = none) :
    Closes d (d.ticketDone (some (q.tag, 0)) st ty b) ∧
      (d.ticketDone (some (q.tag, 0)) st ty b).out = .response d.now q.who c.opcode st c.idx c.sub ty b :: d.out := by
  have hz : (List.range [c].length).zip [c] = [(0, c)] := rfl
  have hcond : ∀ (d : Dev), Closes d (d.cond (st != 0) (Dev.inc E.AccessErrors)) ∧ (d.cond (st != 0) (Dev.inc E.AccessErrors)).out = d.out ∧
      (d.cond (st != 0) (Dev.inc E.AccessErrors)).now = d.now := by
    intro d
    unfold Dev.cond; split
    · exact ⟨Closes.errors d, by simp, by simp⟩
    · exact ⟨Closes.rfl' d, rfl, rfl⟩
  obtain ⟨h1, h2, h3⟩ := hcond d
  have e1 : ∀ (d : Dev) (w : Requester) (q' : Resp),
      d.each [q'] (fun q d => d.emit (.response d.now w q.opcode q.status q.idx q.sub q.ty q.data)) =
        d.emit (.response d.now w q'.opcode q'.status q'.idx q'.sub q'.ty q'.data) := fun _ _ _ => rfl
  simp only [Dev.ticketDone, hf, hr, hz, List.map, hc, if_true, List.any, Bool.or_false, Bool.false_eq_true, if_false, Dev.replySend, hp, e1]
  refine ⟨h1.trans (Closes.access _ _ rfl), ?_⟩
  simp only [Dev.emit, Dev.modAccess, h2, h3]

/-- The reply that one record presented by itself opens. -/
def soleReply (d : Dev) (r : Requester) (o : Op) : Reply :=
  { tag := d.access.nextTag, path := .direct, who := r, recs := [{ opcode := o.opcode, idx := o.idx, sub := o.sub, waiting := true }] }

/-- A record presented by itself that stands clear: what execKind makes of it, its trace event and its answer, and nothing for the mate. -/
theorem direct_record {r : Requester} {o : Op} {a : Aside} {d q : Dev} {ans : Ans} (hc : d.clear r o = true)
    (he : (d.posed r o).execKind r .direct Path.direct.space (some (d.access.nextTag, 0)) a o = (ans, q))
    (ha : ∀ z : Dev, z.access.replies = q.access.replies → Closes z (z.answer d.access.nextTag 0 ans))
    (hd : mirrorArea o = none ∨ q.dict.get E.MirrorDictAreas = d.dict.get E.MirrorDictAreas) :
    ∃ z, Closes q z ∧ z.out = q.out ∧ z.access.replies = q.access.replies ∧
      d.execRequest r .direct false a [o] = z.answer d.access.nextTag 0 ans ∧ Closes q (d.execRequest r .direct false a [o]) := by
  simp only [Dev.clear, Bool.and_eq_true, Bool.not_eq_eq_eq_not, Bool.not_true] at hc
  obtain ⟨⟨⟨_, hc2⟩, _⟩, hc4⟩ := hc
  have hone : Dev.execOne r .direct Path.direct.space (some (d.access.nextTag, 0)) a o
      ((d.modAccess fun c => { c with nextTag := d.access.nextTag + 1 }).replyPost (soleReply d r o)) =
      (ans, q.metBy r.master (opAccess o.opcode) (d.posed r o).faults.reported.length) := by
    unfold Dev.execOne Dev.execOp
    have : Dev.bulkExpire ((d.modAccess fun c => { c with nextTag := d.access.nextTag + 1 }).replyPost (soleReply d r o)) = d.posed r o := rfl
    simp only [this, hc2, he, Bool.false_eq_true, if_false]
  have k1 := Closes.metBy r.master (opAccess o.opcode) (d.posed r o).faults.reported.length q
  obtain ⟨t1, t2, t3⟩ := traceOp_closes r o ans (q.metBy r.master (opAccess o.opcode) (d.posed r o).faults.reported.length)
  refine ⟨_, k1.trans t1, t3, t2, ?_⟩
  have k2 := (k1.trans t1).trans (ha _ t2)
  have hfin : d.execRequest r .direct false a [o] = Dev.answer d.access.nextTag 0 ans
      ((q.metBy r.master (opAccess o.opcode) (d.posed r o).faults.reported.length).traceOp r o ans) := by
    unfold Dev.execRequest
    simp only [List.map, Bool.false_eq_true, if_false, Dev.execEach, List.sum_nil, Nat.sub_zero]
    rw [show ({ tag := d.access.nextTag, path := .direct, who := r, recs := [{ opcode := o.opcode, idx := o.idx, sub := o.sub, waiting := true }] } : Reply) =
      soleReply d r o from rfl, hone]
    have hmir : mirrorArea o = none ∨ (Dev.answer d.access.nextTag 0 ans
        ((q.metBy r.master (opAccess o.opcode) (d.posed r o).faults.reported.length).traceOp r o ans)).get E.MirrorDictAreas = d.get E.MirrorDictAreas :=
      hd.imp id ((k2.get E.MirrorDictAreas (by decide) (by decide) (by decide)).trans ·)
    generalize Dev.answer d.access.nextTag 0 ans _ = z at hmir ⊢
    unfold Dev.mirrorOps
    cases hma : mirrorArea o with
    | none => simp [List.filter, hma]
    | some n =>
      have hz : bit (z.get E.MirrorDictAreas) n = false := by
        rcases hmir with h | h
        · rw [hma] at h; cases h
        · rw [h]; simpa only [hma, Bool.not_eq_eq_eq_not, Bool.not_true] using hc4
      simp only [List.filter, hma, hz, Bool.and_false, List.map, List.isEmpty, Bool.true_or, if_true]
  exact ⟨hfin, hfin ▸ k2⟩

/-- A record presented by itself that stands clear and is done at once: its effect, and its answer last of all. -/
theorem direct_done {r : Requester} {o : Op} {a : Aside} {d q : Dev} {st ty : Nat} {b : Bytes} (hc : d.clear r o = true)
    (he : (d.posed r o).execKind r .direct Path.direct.space (some (d.access.nextTag, 0)) a o = (.done st ty b, q))
    (hq : q.access.replies = (d.posed r o).access.replies) (hd : mirrorArea o = none ∨ q.dict.get E.MirrorDictAreas = d.dict.get E.MirrorDictAreas) :
    Closes q (d.execRequest r .direct false a [o]) ∧
      (d.execRequest r .direct false a [o]).out = .response q.now r o.opcode st o.idx o.sub ty b :: q.out := by
  have hr : (d.posed r o).access.replies = d.access.replies ++ [soleReply d r o] := rfl
  have hc1 : d.access.replies.all (fun p => p.tag != (soleReply d r o).tag) = true := by
    simp only [Dev.clear, Bool.and_eq_true] at hc; exact hc.1.1.1
  have hone (z : Dev) (hz : z.access.replies = q.access.replies) :=
    ticketDone_one z (soleReply d r o) _ st ty b (by rw [hz, hq, hr]; exact find_tag hc1) rfl rfl rfl
  obtain ⟨z, h1, h2, h3, h4, h5⟩ := direct_record hc he (fun z hz => (hone z hz).1) hd
  refine ⟨h5, ?_⟩
  rw [h4]
  exact (hone z h3).2.trans (by rw [h1.now, h2]; rfl)

/-- A record presented by itself that stands clear and waits for its answer: its effect. -/
theorem direct_wait {r : Requester} {o : Op} {a : Aside} {d q : Dev} {n : Nat} {p : Option (Nat × Nat)} (hc : d.clear r o = true)
    (he : (d.posed r o).execKind r .direct Path.direct.space (some (d.access.nextTag, 0)) a o = (.wait n p, q))
    (hd : mirrorArea o = none ∨ q.dict.get E.MirrorDictAreas = d.dict.get E.MirrorDictAreas) :
    Closes q (d.execRequest r .direct false a [o]) ∧ (d.execRequest r .direct false a [o]).out = q.out := by
  have ha (z : Dev) : Closes z (z.answer d.access.nextTag 0 (.wait n p)) ∧ (z.answer d.access.nextTag 0 (.wait n p)).out = z.out := by
    cases p with
    | none => exact ⟨Closes.rfl' z, rfl⟩
    | some w => exact ⟨Closes.access _ _ rfl, rfl⟩
  obtain ⟨z, _, h2, _, h4, h5⟩ := direct_record hc he (fun z _ => (ha z).1) hd
  exact ⟨h5, by rw [h4, (ha z).2, h2]⟩

/-- Setting Modified closes. -/
theorem Closes.marks (b : Bool) (q : Dev) :
    Closes q (q.cond b (Dev.modified false)) ∧ (q.cond b (Dev.modified false)).access = q.access ∧ (q.cond b (Dev.modified false)).out = q.out := by
  unfold Dev.cond
  split
  · exact ⟨⟨rfl, fun j _ _ hj => Dict.get_set_ne q.dict 1 hj, fun _ _ _ _ => rfl, fun _ => rfl, rfl⟩, rfl, rfl⟩
  · exact ⟨Closes.rfl' q, rfl, rfl⟩

/-- What execKind makes of a WRITE by itself of one put that every check accepts: the put's own effect, and the mark of R70. -/
theorem write_kind {r : Requester} {o : Op} {p : Put} {a : Aside} {d q : Dev} {st : Option Nat} (h2 : o.opcode = 2) (ht : d.takes r o [p])
    (he : (d.posed r o).applyPuts r false (some (d.access.nextTag, 0)) a [p] = (st, q)) :
    ∃ b, (d.posed r o).execKind r .direct Path.direct.space (some (d.access.nextTag, 0)) a o = (ansOf st, q.cond b (Dev.modified false)) := by
  obtain ⟨h1, h3, h4⟩ := ht
  refine ⟨(st == none || st == some Status.ok) && marksModified [p], ?_⟩
  have h5 : (d.posed r o).heldBy r o.key = false := by
    simp only [Dev.clear, Bool.and_eq_true, Bool.not_eq_eq_eq_not, Bool.not_true] at h1
    exact h1.1.2
  unfold Dev.execKind
  simp only [h2]
  unfold Dev.writeOp
  simp only [h3, h5, Bool.false_eq_true, if_false]
  unfold Dev.writePuts Dev.effect
  rw [if_neg (by rw [h4]; exact fun h => h rfl), he]

/-- A WRITE by itself of one put that every check accepts and that is done at once: its effect, and its answer last of all. -/
theorem direct_put {r : Requester} {o : Op} {p : Put} {a : Aside} {d q : Dev} {st : Nat} (h2 : o.opcode = 2) (ht : d.takes r o [p])
    (he : (d.posed r o).applyPuts r false (some (d.access.nextTag, 0)) a [p] = (some st, q))
    (hq : q.access.replies = (d.posed r o).access.replies) (hd : mirrorArea o = none ∨ q.dict.get E.MirrorDictAreas = d.dict.get E.MirrorDictAreas) :
    Closes q (d.execRequest r .direct false a [o]) ∧ (d.execRequest r .direct false a [o]).out = .response q.now r 2 st o.idx o.sub 0 [] :: q.out := by
  obtain ⟨b, hb⟩ := write_kind h2 ht he
  obtain ⟨m1, m2, m3⟩ := Closes.marks b q
  obtain ⟨f1, f2⟩ := direct_done ht.1 hb (by rw [m2]; exact hq)
    (hd.imp id fun h => (m1.get E.MirrorDictAreas (by decide) (by decide) (by decide)).trans h)
  exact ⟨m1.trans f1, by rw [f2, m1.now, m3, h2]⟩

/-- A WRITE by itself of one put that every check accepts and whose answer waits: its effect. -/
theorem direct_put_wait {r : Requester} {o : Op} {p : Put} {a : Aside} {d q : Dev} (h2 : o.opcode = 2) (ht : d.takes r o [p])
    (he : (d.posed r o).applyPuts r false (some (d.access.nextTag, 0)) a [p] = (none, q))
    (hd : mirrorArea o = none ∨ q.dict.get E.MirrorDictAreas = d.dict.get E.MirrorDictAreas) :
    Closes q (d.execRequest r .direct false a [o]) ∧ (d.execRequest r .direct false a [o]).out = q.out := by
  obtain ⟨b, hb⟩ := write_kind h2 ht he
  obtain ⟨m1, _, m3⟩ := Closes.marks b q
  obtain ⟨f1, f2⟩ := direct_wait ht.1 hb (hd.imp id fun h => (m1.get E.MirrorDictAreas (by decide) (by decide) (by decide)).trans h)
  exact ⟨m1.trans f1, f2.trans m3⟩

/-- A WRITE of a scalar entry by itself that every check accepts: the entry's action, and its answer last of all. -/
theorem direct_write {r : Requester} {a : Aside} {d q : Dev} {k v st : Nat} (ht : d.takes r (putOp k v) [.scal k v]) (hk : k ≠ E.L2Flush)
    (hs : (Put.scal k v).stages = false) (he : (d.posed r (putOp k v)).scalAct r false a.block k v = (st, q))
    (hq : q.access.replies = (d.posed r (putOp k v)).access.replies)
    (hd : mirrorArea (putOp k v) = none ∨ q.dict.get E.MirrorDictAreas = d.dict.get E.MirrorDictAreas) :
    Closes q (d.execRequest r .direct false a [putOp k v]) ∧
      (d.execRequest r .direct false a [putOp k v]).out = .response q.now r 2 st (k / 256) (k % 256) 0 [] :: q.out :=
  direct_put rfl ht (by simp only [Dev.applyPuts, hs, Bool.false_and, Bool.false_eq_true, if_false, if_neg hk, he]) hq hd

/-- A WRITE of a DOMAIN by itself that every check accepts and that is done at once: the entry's action, and its answer last of all. -/
theorem direct_dom {r : Requester} {a : Aside} {d q : Dev} {k st : Nat} {v : Bytes} (ht : d.takes r (domOp k v) [.dom k v])
    (hs : (Put.dom k v).stages = false) (he : (d.posed r (domOp k v)).domAct r false (some (d.access.nextTag, 0)) a.fails k v = (some st, q))
    (hq : q.access.replies = (d.posed r (domOp k v)).access.replies)
    (hd : mirrorArea (domOp k v) = none ∨ q.dict.get E.MirrorDictAreas = d.dict.get E.MirrorDictAreas) :
    Closes q (d.execRequest r .direct false a [domOp k v]) ∧
      (d.execRequest r .direct false a [domOp k v]).out = .response q.now r 2 st (k / 256) (k % 256) 0 [] :: q.out :=
  direct_put rfl ht (by simp only [Dev.applyPuts, hs, Bool.false_and, Bool.false_eq_true, if_false, he]) hq hd

/-- A WRITE of a DOMAIN by itself that every check accepts and whose answer waits: the entry's action. -/
theorem direct_dom_wait {r : Requester} {a : Aside} {d q : Dev} {k : Nat} {v : Bytes} (ht : d.takes r (domOp k v) [.dom k v])
    (hs : (Put.dom k v).stages = false) (he : (d.posed r (domOp k v)).domAct r false (some (d.access.nextTag, 0)) a.fails k v = (none, q))
    (hd : mirrorArea (domOp k v) = none ∨ q.dict.get E.MirrorDictAreas = d.dict.get E.MirrorDictAreas) :
    Closes q (d.execRequest r .direct false a [domOp k v]) ∧ (d.execRequest r .direct false a [domOp k v]).out = q.out :=
  direct_put_wait rfl ht (by simp only [Dev.applyPuts, hs, Bool.false_and, Bool.false_eq_true, if_false, he]) hd

end Sys2Proof.Machine
end

