-- ==== Sys2Proof/Laws/Guards.lean ====
section
/-!
SUPPORT. What the guarded operations of the packet path and the paddock can do, each said once: the guard, and what follows on either side of it.
-/
namespace Sys2Proof.Machine

/-- A record for firmware is taken and shown, or not taken, by a free value (R274, R385). -/
theorem firmwareTake_cases (i b : Bytes) (d : Dev) :
    (d.free 1).1 = 1 ∧ d.firmwareTake i b = (false, (d.free 1).2) ∨
      (d.free 1).1 ≠ 1 ∧ d.firmwareTake i b = (true, (d.free 1).2.emit (.firmware (d.free 1).2.now i b)) := by
  by_cases h : (d.free 1).1 = 1
  · exact .inl ⟨h, by simp [Dev.firmwareTake, h]⟩
  · exact .inr ⟨h, by simp [Dev.firmwareTake, h]⟩

/-- A cell read by an internal port: it stands, or the head of the row is gone (R279). -/
theorem internalRead_cases (row : Nat) (e : QEntry) (ecc : EccResult) (d : Dev) :
    ecc ≠ .uncorrected ∧ d.internalRead row e ecc = (true, d.eccCount ecc) ∨
      ecc = .uncorrected ∧ d.internalRead row e ecc = (false, ((d.eccCount ecc).takeEntry row 0).settle e.frame) := by
  cases ecc <;> simp [Dev.internalRead]

/-- A frame is beyond the rate at throttle level 2 only (R558). -/
theorem overRate_of_level {d : Dev} (h : d.get E.ThrottleLevel ≠ 2) : d.overRate = (false, d) := if_neg h

/-- An operation in its time does not time out (R390). -/
theorem opTimeout_of_time {n : Nat} {d : Dev} (h : d.overdue n = false) : d.opTimeout n = d := by simp [Dev.opTimeout, h]

/-- Deep work that may end runs its completion on the block as it stands (R387, R390). -/
theorem deepGuard_of_mayEnd {n k : Nat} {d : Dev} (f : Dev → Dev) (hk : (d.slot n).kind = k) (h : d.mayEnd n = true) : d.deepGuard n k f = f d := by
  simp only [Dev.mayEnd, Bool.and_eq_true, Bool.not_eq_true', beq_iff_eq] at h
  simp [Dev.deepGuard, opTimeout_of_time h.1.2, hk, h.1.1, h.2]

/-- A visit that is not due leaves the block (R187). -/
theorem ageVisit_of_early {pl i : Nat} {d : Dev} (h : d.ageDue pl i = false) : d.ageVisit pl i = d := by simp [Dev.ageVisit, h]

/-- A CAN frame on another identifier than the agent's leaves the block (R63). -/
theorem canSegment_of_other {kind a id : Nat} {b : Bytes} {d : Dev} (h : d.canMine a id = false) : d.canSegment kind a id b = d := by
  simp [Dev.canSegment, h]

/-- A tail where nothing arrives (R136). -/
theorem tailArrival_none {port : Nat} {frag ok ended : Bool} {d : Dev} (h : d.arriving port frag = none) :
    d.tailArrival port frag ok ended {} = d.cond (frag && decide (port < 96)) (Dev.inc (E.RxAssemblyErrors port)) := by
  simp [Dev.tailArrival, Dev.cond, h]

end Sys2Proof.Machine
end

