-- ==== Sys2Proof/Laws/Memory.lean ====
section
/-!
SUPPORT. Laws of HBM's bytes: every write keeps the canonical form, a byte written reads back, and every other byte stands.
-/
namespace Sys2Proof.Machine

/-- The cells of a run lie in its addresses, in rising order. -/
theorem mem_cellRun {a : Nat} {b : Bytes} {c : Host.Cell} (h : c ∈ cellRun a b) : a ≤ c.1 ∧ c.1 < a + b.length := by
  induction b generalizing a with
  | nil => simp [cellRun] at h
  | cons x b ih =>
    simp only [cellRun, List.mem_cons] at h
    rcases h with rfl | h
    · simp
    · have := ih h; simp only [List.length_cons]; omega

/-- A run of cells is in canonical form. -/
theorem cellRun_pairwise (a : Nat) (b : Bytes) : (cellRun a b).Pairwise fun x y => x.1 < y.1 := by
  induction b generalizing a with
  | nil => simp [cellRun]
  | cons x b ih =>
    refine List.pairwise_cons.2 ⟨?_, ih (a + 1)⟩
    intro c hc
    have := mem_cellRun hc; simp only; omega

/-- A write keeps the canonical form. -/
theorem cellsWrite_wf (a : Nat) (b : Bytes) (m : List Host.Cell) (h : Memory.wf m = true) : Memory.wf (cellsWrite a b m) = true := by
  have hp : m.Pairwise fun x y => x.1 < y.1 := (FMap.wf_iff_pairwise (α := BitVec 8) m).1 h
  refine (FMap.wf_iff_pairwise _).2 ?_
  unfold cellsWrite
  refine List.pairwise_append.2 ⟨List.pairwise_append.2 ⟨hp.filter _, cellRun_pairwise a b, ?_⟩, hp.filter _, ?_⟩
  · intro x hx y hy
    have := mem_cellRun hy
    have := (List.mem_filter.1 hx).2
    simp at this; omega
  · intro x hx y hy
    have hy' := (List.mem_filter.1 hy).2
    simp at hy'
    rcases List.mem_append.1 hx with hx | hx
    · have := (List.mem_filter.1 hx).2
      simp at this; omega
    · have := mem_cellRun hx; omega

/-- A store into HBM keeps the canonical form. -/
theorem hbmStore_wf (a : Nat) (b : Bytes) (d : Dev) (h : Memory.wf d.hbm.mem = true) : Memory.wf (d.hbmStore a b).hbm.mem = true :=
  cellsWrite_wf a b _ h

/-- In a map in canonical form, a key reads a value exactly where the pair is listed. -/
theorem get?_iff_mem {α : Type} (k : Nat) (v : α) (m : FMap α) (h : m.Pairwise fun x y => x.1 < y.1) : FMap.get? k m = some v ↔ (k, v) ∈ m := by
  induction m with
  | nil => simp [FMap.get?]
  | cons e m ih =>
    obtain ⟨k', v'⟩ := e
    have hp := List.pairwise_cons.1 h
    simp only [FMap.get?, List.mem_cons, Prod.mk.injEq]
    split
    · rename_i hk; subst hk
      constructor
      · intro h; simp at h; exact .inl ⟨rfl, h.symm⟩
      · rintro (h | h)
        · simp [h.2]
        · have := hp.1 _ h; simp at this
    · rename_i hk
      split
      · rename_i hlt
        constructor
        · intro h; cases h
        · rintro (h | h)
          · exact absurd h.1 hk
          · have := hp.1 _ h; simp at this; omega
      · rw [ih hp.2]
        constructor
        · exact .inr
        · rintro (h | h)
          · exact absurd h.1 hk
          · exact h

/-- Two maps in canonical form that list the same pairs at a key read the same there. -/
theorem get?_congr {α : Type} (k : Nat) (m m' : FMap α) (h : m.Pairwise fun x y => x.1 < y.1) (h' : m'.Pairwise fun x y => x.1 < y.1)
    (e : ∀ v, (k, v) ∈ m ↔ (k, v) ∈ m') : FMap.get? k m = FMap.get? k m' :=
  Option.ext fun v => by rw [get?_iff_mem k v m h, get?_iff_mem k v m' h', e]

/-- Byte i of a run is listed at its address. -/
theorem cellRun_mem (a : Nat) (b : Bytes) (i : Nat) (x : Byte) (h : b[i]? = some x) : (a + i, x) ∈ cellRun a b := by
  induction b generalizing a i with
  | nil => simp at h
  | cons y b ih =>
    cases i with
    | zero => simp at h; subst h; simp [cellRun]
    | succ i =>
      simp only [List.getElem?_cons_succ] at h
      have := ih (a + 1) i h
      simp only [cellRun, List.mem_cons]
      exact .inr (by rwa [show a + (i + 1) = a + 1 + i by omega])

/-- A byte that a write covers reads back as it was written. -/
theorem get?_cellsWrite_in (a : Nat) (b : Bytes) (m : List Host.Cell) (i : Nat) (x : Byte) (hm : Memory.wf m = true) (h : b[i]? = some x) :
    FMap.get? (a + i) (cellsWrite a b m) = some x := by
  refine (get?_iff_mem _ _ _ ((FMap.wf_iff_pairwise (α := BitVec 8) _).1 (cellsWrite_wf a b m hm))).2 ?_
  exact List.mem_append_left _ (List.mem_append_right _ (cellRun_mem a b i x h))

/-- A byte that a write does not cover stands. -/
theorem get?_cellsWrite_out (a : Nat) (b : Bytes) (m : List Host.Cell) (k : Nat) (hm : Memory.wf m = true) (h : k < a ∨ a + b.length ≤ k) :
    FMap.get? k (cellsWrite a b m) = FMap.get? k m := by
  refine get?_congr k _ _ ((FMap.wf_iff_pairwise (α := BitVec 8) _).1 (cellsWrite_wf a b m hm)) ((FMap.wf_iff_pairwise (α := BitVec 8) m).1 hm) ?_
  intro v
  simp only [cellsWrite, List.mem_append, List.mem_filter, decide_eq_true_eq]
  constructor
  · rintro ((h1 | h1) | h1)
    · exact h1.1
    · have := mem_cellRun h1; simp at this; omega
    · exact h1.1
  · intro h1
    rcases h with h | h
    · exact .inl (.inl ⟨h1, h⟩)
    · exact .inr ⟨h1, h⟩

/-- The machine after reset has its HBM in canonical form. -/
theorem reset_memory_wf : Memory.wf State.reset.dev.hbm.mem = true := rfl

end Sys2Proof.Machine
end

