-- ==== Sys2Proof/WellFormed.lean ====
section
/-!
DEFINITION. Which commands are well formed: every operand lies in the range that its rule gives it, so that it names something the block has
or fits the field that carries it. The sender of commands keeps to these; the meanings are total on every command.
-/
namespace Sys2Proof.WellFormed

/-- A pipeline (R114). -/
def okPipeline (pl : Nat) : Bool := decide (pl < 8)

/-- An external port (R114). -/
def okPort (p : Nat) : Bool := decide (p < 96)

/-- An external port or an internal one (R114, R124). -/
def okAnyPort (p : Nat) : Bool := decide (p < 101)

/-- A time domain: 0 is A, 1 is B (R79). -/
def okDomain (d : Nat) : Bool := decide (d < 2)

/-- A yard line (R341). -/
def okLine (l : Nat) : Bool := decide (l < 56)

/-- A process port (R354). -/
def okPp (pp : Nat) : Bool := decide (pp < 8)

/-- A tick-core pair (R14, R460). -/
def okPair (k : Nat) : Bool := decide (k < 4)

/-- A master ID (R14). -/
def okMaster (m : Nat) : Bool := decide (m < 256)

/-- A requester: a master ID, and a session of 32 bits that only the Prosta master has (R14, R49). -/
def okRequester (r : Requester) : Bool := okMaster r.master && decide (r.session < 2 ^ 32) && (r.session == 0 || r.master == 0x20)

/-- A pseudo-channel of HBM (R481). -/
def okPc (pc : Nat) : Bool := decide (pc < 64)

/-- A size of a host-block access (R432). -/
def okSize (n : Nat) : Bool := n == 1 || n == 2 || n == 4 || n == 8

/-- An MSI-X vector (R454). -/
def okVector (v : Nat) : Bool := decide (v < 38)

/-- A frame as it is carried here, from DMAC to the last byte before the FCS: both addresses and a type at least (R151), and no longer than any
MaxFrameBytes with its tags lets in. -/
def okFrame (b : Bytes) : Bool := decide (14 ≤ b.length) && decide (b.length < 16384)

/-- A frame that may be absent. -/
def okOptFrame (b : Option Bytes) : Bool :=
  match b with
  | some b => okFrame b
  | none => true

/-- Words of 32 bits. -/
def okWords (l : List Nat) : Bool := l.all fun w => decide (w < 2 ^ 32)

/-- A signed value of 64 bits (R32). -/
def okI64 (i : Int) : Bool := decide (-2 ^ 63 ≤ i) && decide (i < 2 ^ 63)

/-- A signed value of 32 bits (R32). -/
def okI32 (i : Int) : Bool := decide (-2 ^ 31 ≤ i) && decide (i < 2 ^ 31)

/-- The data of an operation record: its LENGTH is a U16 (R43). -/
def okData (b : Bytes) : Bool := decide (b.length < 2 ^ 16)

/-- A frame on the bus of a CAN agent: 11 or 29 bits of identifier and its mark (R63, R70). -/
def okCan (c : CanId) : Bool := decide (c.agent < 2) && decide (c.id < 2 ^ 32)

/-- A pseudo-channel that may be absent. -/
def okOptPc (pc : Option Nat) : Bool :=
  match pc with
  | some pc => okPc pc
  | none => true

/-- A cascade frame: the widths of its header's fields and CRC, and its payload (R414). -/
def okCasc (f : CascFrame) : Bool :=
  decide (f.dest < 2 ^ 8) && decide (f.src < 2 ^ 8) && decide (f.type < 2 ^ 8) && decide (f.flags < 2 ^ 8) && decide (f.seq < 2 ^ 16) &&
  decide (f.payload.length ≤ 1024) && decide (f.crc < 2 ^ 32)

/-- A fault report: a row of FaultReactions, and the widths of the capture's fields (R525, R529). -/
def okReport (r : Option FaultReport) : Bool :=
  match r with
  | some r => decide (r.source < 4096) && decide (r.addr < 2 ^ 64) && okMaster r.master && decide (r.access < 4)
  | none => true

/-- A boot state: banks 0 and 1 (R546). -/
def okBoot (b : Option BootState) : Bool :=
  match b with
  | some b => decide (b.seq < 2 ^ 32) && decide (b.confirmed < 2) && (b.trial.map fun t => decide (t < 2)).getD true
  | none => true

end Sys2Proof.WellFormed

namespace Sys2Proof

open WellFormed in
/-- The well-formed commands. The capture instant of a command is any instant (R75). -/
def Instr.wf (c : Instr) : Bool :=
  match c with
  | .supplyValid _ _ _ => true
  | .railLoss _ _ => true
  | .dictionaryImageLoad _ flashBytes _ _ _ => decide (flashBytes < 2 ^ 64)
  | .firmwareLoad _ _ _ boot => okBoot boot
  | .tickBoundary _ => true
  | .servoTimeout _ d => okDomain d
  | .residueLimitExpiry _ => true
  | .recoveryResetExpiry _ fn => decide (fn < 16384)
  | .mateLost _ => true
  | .pathSilent _ path => decide (path < 3)
  | .generatorFire _ g => decide (g < 16)
  | .yardEventFire _ line => okLine line
  | .startGroupRelease _ grp => decide (grp < 8)
  | .pulseEnd _ line => okLine line
  | .yardEdgeCapture _ line _ heldNs => okLine line && decide (heldNs < 2 ^ 32)
  | .weaveWindowOpen _ port => okAnyPort port
  | .sampleGroupBuild _ g => decide (g < 16)
  | .sweepDue _ => true
  | .sweepDumpDone _ set _ => decide (set < 8)
  | .bandwidthWindowEnd _ => true
  | .tickIrq _ => true
  | .setpointStoreClose _ pp => okPp pp
  | .staleTicksExpiry _ word => decide (word < 512)
  | .loopOverrunLimit _ pair port => okPair pair && okPp port
  | .ppTransferEnd _ pp st words crcs => okPp pp && decide (st < 2 ^ 8) && okWords words && decide (crcs.length ≤ 2) && crcs.all fun c => decide (c < 16)
  | .signalDetect _ p => okPort p
  | .autonegDone _ p partner => okPort p && decide (partner < 2 ^ 32)
  | .trainingDone _ p => okPort p
  | .trainingTimeout _ p => okPort p
  | .linkLoss _ p => okPort p
  | .linkRestore _ p => okPort p
  | .linkDownHoldExpiry _ p => okPort p
  | .remoteFault _ p => okPort p
  | .portCalibrationDone _ p _ rxPs txPs => okPort p && decide (rxPs < 2 ^ 32) && decide (txPs < 2 ^ 32)
  | .preemptVerify _ p _ => okPort p
  | .frameIngress _ port pl frame _ _ => okAnyPort port && okPipeline pl && okFrame frame
  | .frameTailArrival _ port _ _ _ => okAnyPort port
  | .copyAdmission _ pl => okPipeline pl
  | .egressSelect _ port _ => okAnyPort port
  | .transmitComplete _ port _ => okAnyPort port
  | .cellRelease _ n => decide (n < 2 ^ 32)
  | .dhopLaunch _ port => okAnyPort port
  | .launchTarget _ port q => okAnyPort port && decide (q < 16)
  | .spillWrite _ row => decide (row < 1616)
  | .spillReadback _ row => decide (row < 1616)
  | .recirculation _ pl => okPipeline pl
  | .samplerRecord _ pl sampler => okPipeline pl && decide (sampler < 16)
  | .learnApply _ pl => okPipeline pl
  | .moveApply _ pl => okPipeline pl
  | .ageingVisit _ pl row => okPipeline pl && decide (row < 2 ^ 26)
  | .tableUpdateApply _ pl => okPipeline pl
  | .scrubRead _ pl table row _ => okPipeline pl && decide (table < 2 ^ 16) && decide (row < 2 ^ 20)
  | .shadowRepair _ pl => okPipeline pl
  | .endOp pl _ => okPipeline pl
  | .setCtq pl _ => okPipeline pl
  | .fwd pl _ => okPipeline pl
  | .drop pl _ => okPipeline pl
  | .skipIf pl _ => okPipeline pl
  | .count pl _ => okPipeline pl
  | .vlanPush pl _ => okPipeline pl
  | .vlanPop pl _ => okPipeline pl
  | .vlanSet pl _ => okPipeline pl
  | .macSet pl _ => okPipeline pl
  | .ttlDec pl _ => okPipeline pl
  | .dscpSet pl _ => okPipeline pl
  | .rtagPush pl _ => okPipeline pl
  | .rtagPop pl _ => okPipeline pl
  | .hsrPush pl _ => okPipeline pl
  | .hsrPop pl _ => okPipeline pl
  | .prpAdd pl _ => okPipeline pl
  | .prpStrip pl _ => okPipeline pl
  | .mirror pl _ => okPipeline pl
  | .sample pl _ => okPipeline pl
  | .punt pl _ => okPipeline pl
  | .launch pl _ => okPipeline pl
  | .setpoint pl _ => okPipeline pl
  | .ptpSyncReceive _ p frame => okPort p && okFrame frame
  | .ptpFollowUpReceive _ p frame => okPort p && okFrame frame
  | .followUpMissing _ p => okPort p
  | .ptpDelayReqReceive _ p frame => okPort p && okFrame frame
  | .ptpDelayRespReceive _ p frame => okPort p && okFrame frame
  | .ptpPdelayReqReceive _ p frame => okPort p && okFrame frame
  | .ptpPdelayRespReceive _ p frame => okPort p && okFrame frame
  | .pdelayLost _ p => okPort p
  | .ptpGeneralMessage _ p frame => okPort p && okFrame frame
  | .syncOriginate _ d p => okDomain d && okPort p
  | .delayReqSend _ d p => okDomain d && okPort p
  | .pdelayReqSend _ p => okPort p
  | .ppsInEdge _ k _ => decide (k < 2)
  | .ppsMissing _ k => decide (k < 2)
  | .ppsOutEdge _ k => decide (k < 2)
  | .pllRefLoss _ => true
  | .read _ r idx sub => okRequester r && decide (idx < 2 ^ 16) && decide (sub < 2 ^ 8)
  | .write _ r idx sub ty data => okRequester r && decide (idx < 2 ^ 16) && decide (sub < 2 ^ 8) && decide (ty < 2 ^ 8) && okData data
  | .readStaged _ r idx sub => okRequester r && decide (idx < 2 ^ 16) && decide (sub < 2 ^ 8)
  | .readRow _ r idx sub k0 n => okRequester r && decide (idx < 2 ^ 16) && decide (sub < 2 ^ 8) && decide (k0 < 2 ^ 32) && decide (n < 2 ^ 16)
  | .writeRow _ r idx sub k0 n data => okRequester r && decide (idx < 2 ^ 16) && decide (sub < 2 ^ 8) && decide (k0 < 2 ^ 32) && decide (n < 2 ^ 16) && okData data
  | .bulkRead _ r idx sub off len => okRequester r && decide (idx < 2 ^ 16) && decide (sub < 2 ^ 8) && decide (off < 2 ^ 32) && decide (len < 2 ^ 16)
  | .bulkWrite _ r idx sub off total data => okRequester r && decide (idx < 2 ^ 16) && decide (sub < 2 ^ 8) && decide (off < 2 ^ 32) && decide (total < 2 ^ 32) && okData data
  | .bulkWriteTimeout _ master idx sub => okMaster master && decide (idx < 2 ^ 16) && decide (sub < 2 ^ 8)
  | .subscribe _ r idx sub => okRequester r && decide (idx < 2 ^ 16) && decide (sub < 2 ^ 8)
  | .unsubscribe _ r idx sub => okRequester r && decide (idx < 2 ^ 16) && decide (sub < 2 ^ 8)
  | .sessionOpen _ slot nonce _ => decide (slot < 2 ^ 8) && nonce.length == 16
  | .sessionClose _ r => okRequester r
  | .commit _ r flags id tick => okRequester r && decide (flags < 2 ^ 8) && decide (id < 2 ^ 16) && decide (tick < 2 ^ 64)
  | .abort _ r flags id tick => okRequester r && decide (flags < 2 ^ 8) && decide (id < 2 ^ 16) && decide (tick < 2 ^ 64)
  | .echo _ r data => okRequester r && okData data
  | .notifyDeliver _ r => okRequester r
  | .batchFoldDone _ => true
  | .lpmReserveReturn _ => true
  | .prostaFrameReceive _ port frame => okPort port && okFrame frame
  | .sessionIdleTimeout _ sid => decide (sid < 2 ^ 32)
  | .canSegmentSingle _ bus seg => okCan bus && okData seg
  | .canSegmentFirst _ bus seg => okCan bus && okData seg
  | .canSegmentConsecutive _ bus seg => okCan bus && okData seg
  | .canSegmentAbort _ bus seg => okCan bus && okData seg
  | .canTransferTimeout _ agent => decide (agent < 2)
  | .canResponseSend _ agent => decide (agent < 2)
  | .canNotifySend _ agent => decide (agent < 2)
  | .windowGo _ m _ len => okMaster m && decide (len < 4097)
  | .windowDone _ => true
  | .setTime _ r d t => okRequester r && okDomain d && decide (t < 2 ^ 96)
  | .rateWord _ r d w => okRequester r && okDomain d && okI64 w
  | .phaseAdjust _ r d v => okRequester r && okDomain d && okI64 v
  | .reacquire _ r d v => okRequester r && okDomain d && decide (v < 2 ^ 8)
  | .outputReacquire _ r v => okRequester r && decide (v < 2 ^ 8)
  | .outputDomainWrite _ r v => okRequester r && decide (v < 2 ^ 8)
  | .profilePreset _ r d v => okRequester r && okDomain d && decide (v < 2 ^ 8)
  | .storeImage _ r v => okRequester r && decide (v < 2 ^ 32)
  | .storeComplete _ _ => true
  | .l2Insert _ r data => okRequester r && decide (data < 2 ^ 112)
  | .l2Delete _ r data => okRequester r && decide (data < 2 ^ 72)
  | .l2Query _ r key => okRequester r && decide (key < 2 ^ 64)
  | .l2Flush _ r v => okRequester r && decide (v < 2 ^ 32)
  | .l2FlushComplete _ => true
  | .emInsert _ r data => okRequester r && decide (data < 2 ^ 240)
  | .emDelete _ r key => okRequester r && decide (key < 2 ^ 160)
  | .emQuery _ r key => okRequester r && decide (key < 2 ^ 160)
  | .deepInsert _ r data => okRequester r && decide (data < 2 ^ 248)
  | .deepDelete _ r data => okRequester r && decide (data < 2 ^ 168)
  | .deepQuery _ r data => okRequester r && decide (data < 2 ^ 168)
  | .paddockComplete _ r data => okRequester r && decide (data < 2 ^ 64)
  | .streamUnblock _ r v => okRequester r && decide (v < 2 ^ 32)
  | .gateUnlatch _ r v => okRequester r && decide (v < 2 ^ 32)
  | .histogramClear _ r v => okRequester r && decide (v < 2 ^ 16)
  | .queueHighWaterClear _ r v => okRequester r && decide (v < 2 ^ 16)
  | .yardEventPush _ r line tick offq width => okRequester r && decide (line < 2 ^ 8) && decide (tick < 2 ^ 64) && decide (offq < 2 ^ 32) && decide (width < 2 ^ 32)
  | .yardEventFlush _ r line => okRequester r && decide (line < 2 ^ 8)
  | .yardSafeRequest _ r v => okRequester r && decide (v < 2 ^ 8)
  | .yardSafeRelease _ r v => okRequester r && decide (v < 2 ^ 8)
  | .tcLoopWord _ pair _ => okPair pair
  | .tcLoopDone _ pair _ => okPair pair
  | .mirrorResync _ r v => okRequester r && decide (v < 2 ^ 8)
  | .mirrorResyncDone _ => true
  | .takeoverArm _ r v => okRequester r && decide (v < 2 ^ 8)
  | .ownClaim _ r v => okRequester r && decide (v < 2 ^ 8)
  | .ownRelease _ r v => okRequester r && decide (v < 2 ^ 8)
  | .ownGntHigh _ => true
  | .ownSettleExpiry _ => true
  | .yieldComplete _ => true
  | .tetherFrameReceive _ path _ => decide (path < 3)
  | .tetherGapTimeout _ => true
  | .heartbeat _ path role _ => decide (path < 3) && decide (role < 2 ^ 8)
  | .tetherL2 _ _ => true
  | .tetherRecovery _ _ => true
  | .tetherDict _ _ => true
  | .tetherSetpoint _ _ => true
  | .tetherServo _ _ => true
  | .pairHbInToggle _ => true
  | .enum _ f => okCasc f
  | .enumRetry _ => true
  | .image _ f => okCasc f
  | .imageEnd _ f => okCasc f
  | .cascadeImageApplied _ => true
  | .status _ f => okCasc f
  | .dict _ f => okCasc f
  | .dictResp _ f => okCasc f
  | .test _ f => okCasc f
  | .cascadeTestDone _ results => okWords results
  | .testResult _ f => okCasc f
  | .reset _ f => okCasc f
  | .cascadeSend _ r data => okRequester r && okData data
  | .cascadeClockLoss _ => true
  | .cascadeBootWaitExpiry _ => true
  | .deepSearchComplete _ slot _ => decide (slot < 4096)
  | .deepLearnComplete _ slot => decide (slot < 4096)
  | .deepAccessComplete _ acc => decide (acc.slot < 4096)
  | .requestQueueAllocate _ => true
  | .requestQueueTimeout _ => true
  | .paddockOpTimeout _ slot => decide (slot < 4096)
  | .paddockRelease _ => true
  | .paddockReentry _ pl => okPipeline pl
  | .deviceReset _ m key => okMaster m && decide (key < 2 ^ 8)
  | .mgmtReset _ m key => okMaster m && decide (key < 2 ^ 8)
  | .tickCoreReset _ m key => okMaster m && decide (key < 2 ^ 8)
  | .yardSafeReq _ m key => okMaster m && decide (key < 2 ^ 8)
  | .yardSafeRel _ m key => okMaster m && decide (key < 2 ^ 8)
  | .hostReset _ m key => okMaster m && decide (key < 2 ^ 8)
  | .dmaQuiesce _ m _ => okMaster m
  | .pePerst _ => true
  | .hotReset _ => true
  | .flr _ => true
  | .d3hotEntry _ => true
  | .d0Return _ => true
  | .hbTimeLatch _ m _ => okMaster m
  | .capRearm _ m => okMaster m
  | .faultNRelease _ m => okMaster m
  | .hbRegisterWrite _ m off size v => okMaster m && decide (off < 2 ^ 20) && okSize size && decide (v < 2 ^ 64)
  | .mbxTx _ m ch _ => okMaster m && decide (ch < 16)
  | .mbxRxData _ m ch => okMaster m && decide (ch < 16)
  | .mbxRxStampData _ m ch => okMaster m && decide (ch < 16)
  | .hbSemAcquire _ m sem => okMaster m && decide (sem < 64)
  | .hbSemRelease _ m sem _ => okMaster m && decide (sem < 64)
  | .hbDbSet _ m _ => okMaster m
  | .hbDbClr _ m _ => okMaster m
  | .ringEnable _ ring _ => decide (ring < 17)
  | .ringDisable _ ring => decide (ring < 17)
  | .ringTailWrite _ ring _ => decide (ring < 17)
  | .puntRecordWrite _ ring => decide (ring < 8)
  | .injectDescriptor _ ring _ frame => decide (ring < 8) && okOptFrame frame
  | .notifyRingWrite _ => true
  | .msixMessage _ v => okVector v
  | .msixHoldoffExpiry _ v => okVector v
  | .bar2Read _ off len _ => decide (off < 2 ^ 64) && decide (len < 2 ^ 32)
  | .bar2Write _ off _ => decide (off < 2 ^ 64)
  | .swapPrepare _ r v => okRequester r && decide (v < 2 ^ 8)
  | .swapPrepareDone _ _ => true
  | .swapRequest _ r tick => okRequester r && decide (tick < 2 ^ 64)
  | .swapHandoffInterrupt _ => true
  | .handoffReady _ r v _ => okRequester r && decide (v < 2 ^ 8)
  | .swapExecute _ => true
  | .bankConfirm _ r v => okRequester r && decide (v < 2 ^ 8)
  | .firmwareBankWrite _ r bank off total data => okRequester r && decide (bank < 2) && decide (off < 2 ^ 32) && decide (total < 2 ^ 32) && okData data
  | .keyRevoke _ r slot => okRequester r && decide (slot < 2 ^ 8)
  | .rollbackCommit _ r level => okRequester r && decide (level < 2 ^ 8)
  | .loopResume _ r pair v => okRequester r && okPair pair && decide (v < 2 ^ 8)
  | .tickCoreMismatch _ pair => okPair pair
  | .mgmtWatchdogExpiry _ => true
  | .mgmtWatchdogRestart _ => true
  | .wdMgmtKick _ r v => okRequester r && decide (v < 2 ^ 8)
  | .tickCoreWatchdogExpiry _ pair => okPair pair
  | .wdTickKick _ r pair v => okRequester r && okPair pair && decide (v < 2 ^ 8)
  | .hostWatchdogExpiry _ => true
  | .hbmRetrain _ r v => okRequester r && decide (v < 2 ^ 8)
  | .hbmOffline _ r v => okRequester r && decide (v < 2 ^ 8)
  | .hbmTrainingDone _ results failing _ timeUs => results.length == 64 && okOptPc failing && decide (timeUs < 2 ^ 32)
  | .setDelays _ r _ => okRequester r
  | .writePattern _ r _ => okRequester r
  | .readCompare _ r _ failBlocks failBits => okRequester r && decide (failBlocks < 2 ^ 32) && decide (failBits < 2 ^ 40)
  | .writeThenCompare _ r _ failBlocks failBits => okRequester r && decide (failBlocks < 2 ^ 32) && decide (failBits < 2 ^ 40)
  | .hbmTrainEnd _ r _ => okRequester r
  | .hbmTrainSessionTimeout _ => true
  | .hbmRetrainSlice _ pc rdEye wrEye rdStep wrStep => okPc pc && decide (rdEye < 2 ^ 8) && decide (wrEye < 2 ^ 8) && okI32 rdStep && okI32 wrStep
  | .hbmRefresh _ pc bank _ => okPc pc && decide (bank < 32)
  | .hbmTempRead _ t0 t1 => okI32 t0 && okI32 t1
  | .hbmSelfRefreshEntry _ pc => okPc pc
  | .hbmSelfRefreshWake _ pc => okPc pc
  | .hbmPatrolRead _ addr _ => decide (addr < 2 ^ 64)
  | .hbmRowRepair _ pc bank row => okPc pc && decide (bank < 32) && decide (row < 2 ^ 14)
  | .bufferCellPatrol _ cell _ => decide (cell < 2 ^ 32)
  | .alloc _ r flags size => okRequester r && decide (flags < 2 ^ 8) && decide (size < 2 ^ 32)
  | .free _ r handle => okRequester r && decide (handle < 2 ^ 32)
  | .share _ r handle owners => okRequester r && decide (handle < 2 ^ 32) && decide (owners < 2 ^ 64)
  | .release _ r handle => okRequester r && decide (handle < 2 ^ 32)
  | .query _ r handle => okRequester r && decide (handle < 2 ^ 32)
  | .reclaim _ r master => okRequester r && okMaster master
  | .faultRaise _ rep => okReport rep
  | .faultNWidthEnd _ => true
  | .internalBusTimeout _ m addr access => okMaster m && decide (addr < 2 ^ 64) &&
    access.op.all fun (e : Nat × Nat × Nat) => decide (e.1 < 256) && decide (e.2.1 < 65536) && decide (e.2.2 < 256)
  | .faultNReleaseEntry _ r v => okRequester r && decide (v < 2 ^ 8)
  | .faultClassClear _ r v => okRequester r && decide (v < 2 ^ 8)
  | .captureRearm _ r v => okRequester r && decide (v < 2 ^ 8)
  | .portShutClear _ r v => okRequester r && decide (v < 2 ^ 8)
  | .shedRequest _ r v => okRequester r && decide (v < 2 ^ 8)
  | .shedExit _ r v => okRequester r && decide (v < 2 ^ 8)
  | .shedAutoExit _ => true
  | .shedRestoreDone _ => true
  | .stabledRequest _ r v => okRequester r && decide (v < 2 ^ 8)
  | .stableReqPin _ => true
  | .stabledEntry _ => true
  | .aonComparatorSample _ c mv => decide (c < 4) && decide (mv < 2 ^ 16)
  | .timeAlarmFire _ a => decide (a < 4)
  | .linkEnergyDetect _ lane us => decide (lane < 96) && decide (us < 2 ^ 32)
  | .stableReqRelease _ => true
  | .wake _ cause => decide (cause < 6)
  | .thermalSample _ temps => temps.length == 16
  | .avsUpdate _ correctionMv measuredMv _ => okI32 correctionMv && decide (measuredMv < 2 ^ 16)
  | .avsRetry _ measuredMv _ => decide (measuredMv < 2 ^ 16)
  | .ppsOutPulseEnd _ k => decide (k < 2)
  | .pllRefLock _ => true
  | .refOffsetMeasurement _ ppb => okI32 ppb
  | .ownGntLow _ => true
  | .pcieLinkUp _ width speed => decide (width < 16) && decide (speed < 16)
  | .hbRegisterRead _ m off size => okMaster m && decide (off < 2 ^ 20) && okSize size
  | .tapClock _ _ _ _ _ => true
  | .classicalCanFrame _ bus => okCan bus
  | .remoteFaultEnd _ p => okPort p
  | .signalLoss _ p => okPort p
  | .laneEyeMarginUpdate _ lane hMui vMv => decide (lane < 96) && decide (hMui < 2 ^ 16) && decide (vMv < 2 ^ 16)

end Sys2Proof
end

