-- ==== Sys2Proof/Tests/Slice0.lean ====
section
/-!
SUPPORT. Witnesses for the hypotheses of the statements, the smoke test of WellFormed, and a few worked examples of the spec.
-/
open Sys2Proof Sys2Proof.Machine

namespace Sys2Proof.Tests

set_option Elab.async false

/-- A block in service: running, forwarding, its dictionary loaded. -/
def base : State :=
  { State.reset with dev := { State.reset.dev with power := { State.reset.dev.power with phase := .running, forwarding := true, loaded := true } } }

/-- A block in service, changed by f. -/
def wk (f : Dev → Dev) : State := { base with dev := f base.dev }

/-- Entries set to values. -/
def sets (l : List (Nat × Nat)) (d : Dev) : Dev := l.foldl (fun d e => d.store e.1 e.2) d

/-- Rows of TABLEs set to values. -/
def rows (l : List (Nat × Nat × Nat)) (d : Dev) : Dev := l.foldl (fun d e => d.setRow e.1 e.2.1 e.2.2) d

/-- The management core M0. -/
def m0 : Requester := ⟨1, 0⟩

/-- Every check accepts a write, as a Bool. -/
def takesB (r : Requester) (o : Op) (l : List Put) (d : Dev) : Bool :=
  d.clear r o && (match (d.posed r o).planWrite r false (d.posed r o).latest o with
    | .ok q => decide (q = l)
    | .error _ => false) && ((d.posed r o).recordRel r false l).status == Status.ok

theorem takesB_sound {r : Requester} {o : Op} {l : List Put} {d : Dev} (h : takesB r o l d = true) : d.takes r o l := by
  unfold takesB at h
  simp only [Bool.and_eq_true, beq_iff_eq] at h
  obtain ⟨⟨h1, h2⟩, h3⟩ := h
  refine ⟨h1, ?_, h3⟩
  split at h2
  · next q e => rw [e, of_decide_eq_true h2]
  · simp at h2

/-- The line of an entry. -/
def sp (idx sub : Nat) : EntrySpec := (specOf idx sub).getD ⟨0, 0, 0, 0, 0, .u8, .ro, 0, 0, 0, false, .any⟩
/-- The line of a TABLE. -/
def tb (idx : Nat) : TableSpec := (tableOf idx).getD ⟨0, 0, 0, 0, none, 0, 0, 0, []⟩

theorem sealed (f : CascFrame) : (cascSeal f).crc = cascCrc (cascSeal f) := rfl

theorem okOf {ε α : Type} {e : Except ε α} (h : e.isOk = true) : ∃ a, e = .ok a := by
  cases e with
  | ok a => exact ⟨a, rfl⟩
  | error => simp [Except.isOk, Except.toBool] at h

/-! ### States that the witnesses start from -/

def s0 : State := { State.reset with dev := { State.reset.dev with tap := { fsm := .shiftDr, ir := 2, drSh := 2 ^ 337 - 1 } } }
def s1 : State := { State.reset with dev := { State.reset.dev with tap := { fsm := .shiftDr, ir := 2 } } }
def s2 : State := { State.reset with dev := { State.reset.dev with tap := { fsm := .captureDr, ir := 1 } } }
def s3 : State := { State.reset with dev := { State.reset.dev with tap := { fsm := .captureDr, ir := 2 } } }
def s4 : State := { State.reset with dev := { State.reset.dev with tap := { fsm := .captureDr, ir := 5 } } }
def s5 : State := { State.reset with dev := { State.reset.dev with tap := { fsm := .shiftDr, ir := 6, drSh := 1 } } }
def s6 : State := { State.reset with dev := { State.reset.dev with tap := { fsm := .shiftDr, ir := 255, drSh := 1 } } }
def s7 : State := { State.reset with dev := { State.reset.dev with tap := { fsm := .shiftIr, irSh := 255 } } }
def s8 : State := { State.reset with dev := { State.reset.dev with tap := { fsm := .updateIr, irSh := 255 } } }
def s9 : State := { State.reset with dev := { State.reset.dev with tap := { fsm := .updateDr, ir := 3, drSh := 2 ^ 337 - 1 } } }
def s10 : State := { State.reset with dev := { State.reset.dev with tap := { fsm := .shiftDr, ir := 2, drSh := 1 } } }
def s11 : State := { State.reset with dev := { State.reset.dev with tap := { fsm := .shiftDr } } }
def s12 : State := { State.reset with dev := { State.reset.dev with tap := { fsm := .pauseDr } } }
def s13 : State := { State.reset with dev := { State.reset.dev with tap := { fsm := .updateIr } } }
def s14 : State := { State.reset with dev := { State.reset.dev with tap := { fsm := .testLogicReset } } }
def s15 : State := { State.reset with dev := { State.reset.dev with tap := { fsm := .captureIr } } }
def s16 : State := { State.reset with dev := { State.reset.dev with tap := { fsm := .exit2Ir } } }
def s17 : State := wk fun d => (sets [(E.DomainState 1, 1)] d)
def s18 : State := wk id
def s19 : State := wk fun d => ((fun d => { d with commit := { d.commit with stage := ({ scal := [(E.TickPhase, 7)], rows := [] } : Staged) } }) d)
def s20 : State := wk fun d => ((fun d => { d with commit := { d.commit with batches := [({ id := 1, tick := 5, asked := 5, flip := false, lateOk := false, late := false, master := 1, arrival := 0, st := ({ scal := [(E.TickPhase, 7)], rows := [] } : Staged) } : Batch), ({ id := 2, tick := 6, asked := 6, flip := false, lateOk := false, late := false, master := 1, arrival := 0, st := ({ scal := [], rows := [] } : Staged) } : Batch)] } }) d)
def s21 : State := wk fun d => ((fun d => { d with commit := { d.commit with batches := [({ id := 2, tick := 6, asked := 6, flip := false, lateOk := false, late := false, master := 1, arrival := 0, st := ({ scal := [], rows := [] } : Staged) } : Batch)] } }) d)
def s22 : State := wk fun d => (rows [(T.YardLines, 55, 0x40000000000000000000000000000000)] d)
def s23 : State := wk fun d => ((Dev.setLine 55 { queue := [⟨5, 4, 0⟩] }) d)
def s24 : State := wk fun d => (sets [(E.YardSafe, 1)] d)
def s25 : State := wk fun d => ((fun d => { d with time := { d.time with tickRun := true } }) (rows [(T.Generators, 15, 0x80040000000000000000000000000000), (T.YardLines, 55, 0x43e00000000000000000000000000000)] d))
def s26 : State := wk fun d => ((Dev.setLine 55 { queue := [(⟨0, 4, 0⟩ : Pulse)] }) (rows [(T.YardLines, 55, 0x44000000000000000000000000000000)] d))
def s27 : State := wk fun d => ((Dev.setLine 55 { queue := [(⟨0, 4, 0⟩ : Pulse)] }) (rows [(T.YardLines, 55, 0x40000000000000000000000000000000)] d))
def s28 : State := wk fun d => ((Dev.modYard fun y => { y with groups := [(7, { queue := [(55, ⟨0, 4, 0⟩)] })] }) (rows [(T.YardLines, 55, 0x40000000000000000000000000000000)] d))
def s29 : State := wk fun d => ((Dev.setLine 55 { active := true }) d)
def s30 : State := wk fun d => (rows [(T.YardLines, 55, 0x80010000000000000000000000000000)] d)
def s31 : State := wk fun d => ((Dev.setLine 55 { lastX := some 0 }) (rows [(T.YardLines, 55, 0x80010000000000000000000000000000)] d))
def s32 : State := wk fun d => ((fun d => { d with time := { d.time with tickRun := true } }) (rows [(T.PpConfig, 7, 0x80000000000000000000000000000000)] d))
def s33 : State := wk fun d => ((Dev.modYard fun y => { y with busy := [(7, 9)] }) (rows [(T.PpConfig, 7, 0x80000000000000000000000000000000)] d))
def s34 : State := wk fun d => (sets [(E.LoopOwner 7, 3)] d)
def s35 : State := wk fun d => (sets [(E.LoopOwner 7, 2)] d)
def s36 : State := wk fun d => (sets [(E.LoopOwner 0, 3)] d)
def s37 : State := wk fun d => (sets [(E.LoopOwner 0, 2)] d)
def s38 : State := wk fun d => ((Dev.modYard fun y => { y with loopRun := [(31, 2)] }) (sets [(E.LoopOverrunAction 3, 1), (E.LoopOverrunLimit 3, 2)] d))
def s39 : State := wk fun d => ((Dev.modYard fun y => { y with loopRun := [(31, 2)] }) (sets [(E.LoopOverrunAction 3, 2), (E.LoopOverrunLimit 3, 2)] d))
def s40 : State := wk fun d => (sets [(E.HbmState, 2)] d)
def s41 : State := wk fun d => (sets [(E.HbmState, 1)] d)
def s42 : State := wk fun d => ((Dev.modPower fun p => { p with storing := true }) d)
def s43 : State := wk fun d => (sets [(E.PowerMode, 1)] d)
def s44 : State := wk fun d => (sets [(E.ActiveBank, 0), (E.BankState 1, 1)] d)
def s45 : State := wk fun d => (sets [(E.ActiveBank, 0), (E.BankState 1, 2)] d)
def s46 : State := wk fun d => (sets [(E.SwapState, 2)] d)
def s47 : State := wk fun d => ((fun d => { d with fw := { d.fw with asked := true } }) d)
def s48 : State := wk fun d => ((fun d => { d with fw := { d.fw with trial := true } }) (sets [(E.ActiveBank, 1)] d))
def s49 : State := wk fun d => (sets [(E.KeySlotStatus 0, 1), (E.KeySlotStatus 3, 1)] d)
def s50 : State := wk fun d => ((fun d => { d with fw := { d.fw with banks := [(0, (⟨1, 5, 0, 3⟩ : BankHdr))] } }) (sets [(E.RollbackLevel, 4), (E.ConfirmedBank, 0)] d))
def s51 : State := wk fun d => ((fun d => { d with faults := { d.faults with nLow := true, nEnd := 6 } }) d)
def s52 : State := wk fun d => ((fun d => { d with faults := { d.faults with nLow := true, nEnd := 5 } }) d)
def s53 : State := wk fun d => (sets [(E.FaultClassSeen, 0x7F)] d)
def s54 : State := wk fun d => ((fun d => { d with faults := { d.faults with cap := { valid := true, more := true } } }) d)
def s55 : State := wk fun d => (sets [(E.PortShutLow, 2 ^ 63)] d)
def s56 : State := { State.reset with dev := { State.reset.dev with power := { phase := .off }, tap := { ir := 9 } } }
def s57 : State := { base with dev := { base.dev with power := { phase := .stabled, awaiting := true }, tap := { ir := 9 } } }
def s58 : State := wk fun d => (rows [(T.AonComparators, 3, 0x8325130000000000)] d)
def s59 : State := wk fun d => (rows [(T.TimeAlarms, 3, 0x80000000000000000000000000000000)] d)
def s60 : State := wk fun d => (sets [(E.LinkEnergyUs, 7)] d)
def s61 : State := { base with dev := { base.dev with power := { phase := .stabled, awaiting := false }, tap := { ir := 9 } } }
def s62 : State := { base with dev := (Dev.store E.WakeOnReqRelease 1 { base.dev with power := { phase := .stabled } }) }
def s63 : State := wk fun d => ((fun d => { d with faults := { d.faults with nLow := true, nEnd := 5, nWait := true } }) d)
def s64 : State := { pending := [], dev := { (wk fun d => { d with faults := { d.faults with nLow := true, nEnd := 5, nWait := true } }).dev with power := { phase := .off } } }
def s65 : State := wk fun d => ((fun d => { d with wd := { d.wd with mgmtArmed := true } }) (sets [(E.WdMgmtMs, 1)] d))
def s66 : State := wk fun d => ((fun d => { d with wd := { d.wd with expired := some 0 } }) (sets [(E.WdMgmtRestart, 1), (E.WdRestartLimit, 1), (E.ActiveBank, 0)] d))
def s67 : State := wk fun d => ((fun d => { d with wd := { d.wd with tickArmed := [3], tickCount := [(3, 2)] } }) (sets [(E.WdTickTicks 3, 2)] d))
def s68 : State := wk fun d => ((fun d => { d with wd := { d.wd with hostArmed := true, hostCount := 2 } }) (sets [(E.HostWdTicks, 2)] d))
def s69 : State := wk fun d => ((fun d => { d with wd := { d.wd with tickArmed := [3] } }) d)
def s70 : State := wk fun d => (rows [(T.FaultReactions, Src.portCalFailed, 0)] d)
def s71 : State := wk fun d => (sets [(E.InEnable 1, 1), (E.InEdge 1, 0)] d)
def s72 : State := wk fun d => (sets [(E.InEnable 1, 1), (E.InEdge 1, 1)] d)
def s73 : State := wk fun d => ((Dev.setPpsIn 1 { last := some 0, run := 3 }) (sets [(E.InEnable 1, 1)] d))
def s74 : State := wk fun d => ((Dev.setPpsOut 1 { lastSec := some (-1) }) (sets [(E.OutSource 1, 2), (E.OutGate 1, 0), (E.OutOffset 1, 0)] d))
def s75 : State := wk fun d => ((Dev.setPpsOut 1 { lastSec := none }) (sets [(E.OutSource 1, 2)] d))
def s76 : State := wk fun d => ((Dev.setPpsOut 1 { level := true, endX := 5 }) d)
def s77 : State := wk fun d => (sets [(E.PllRefSelect, 1), (E.PllState, 2)] d)
def s78 : State := wk fun d => (sets [(E.PllRefSelect, 4), (E.PllState, 1)] d)
def s79 : State := wk fun d => (sets [(E.PllRefSelect, 0), (E.PllState, 2)] d)
def s80 : State := wk fun d => ((fun d => { d with time := { d.time with refRun := 9 } }) (sets [(E.PllRefSelect, 1), (E.PllState, 1)] d))
def s81 : State := wk fun d => ((fun d => { d with time := { d.time with refRun := 7 } }) (sets [(E.PllState, 2)] d))
def s82 : State := wk fun d => ((fun d => { d with time := { d.time with refRun := 6 } }) (sets [(E.PllState, 2)] d))
def s83 : State := wk fun d => ((fun d => d.setDomainSt 1 { d.domainSt 1 with quiet := 3 }) (sets [(E.DomainState 1, 1), (E.ServoTimeout 1, 3)] d))
def s84 : State := wk fun d => ((fun d => d.setDomainSt 1 { d.domainSt 1 with quiet := 2 }) (sets [(E.DomainState 1, 1), (E.ServoTimeout 1, 3)] d))
def s85 : State := wk fun d => (sets [(E.PortState 95, 1), (E.PortMode 95, 1), (E.AnEnable 95, 0)] d)
def s86 : State := wk fun d => (sets [(E.PortState 95, 1), (E.PortMode 95, 1), (E.AnEnable 95, 1), (E.Medium 95, 1)] d)
def s87 : State := wk fun d => (sets [(E.PortState 95, 2)] d)
def s88 : State := wk fun d => (sets [(E.PortState 95, 3)] d)
def s89 : State := wk fun d => (sets [(E.PortState 95, 2), (E.AnAdvertise 95, 2 ^ 12 + 2 ^ 8)] d)
def s90 : State := wk fun d => (sets [(E.PortState 95, 2), (E.AnAdvertise 95, 2 ^ 8)] d)
def s91 : State := wk fun d => ((Dev.setPort 95 { mode := 12 }) (sets [(E.PortState 95, 3)] d))
def s92 : State := wk fun d => (sets [(E.PortState 95, 3), (E.PortMode 95, 1), (E.AnEnable 95, 1), (E.Medium 95, 1)] d)
def s93 : State := wk fun d => (sets [(E.PortState 95, 4)] d)
def s94 : State := wk fun d => (sets [(E.PortState 95, 5), (E.LinkDownHold 95, 1)] d)
def s95 : State := wk fun d => ((Dev.setPort 95 { remote := true }) (sets [(E.PortState 95, 4)] d))
def s96 : State := wk fun d => (sets [(E.PortState 95, 4), (E.CalState 95, 1)] d)
def s97 : State := wk fun d => (sets [(E.VerifyStatus 95, 1)] d)
def s98 : State := wk fun d => (sets [(E.VerifyStatus 95, 2)] d)
def s99 : State := wk fun d => ((Dev.modPower fun p => { p with phase := .starting, forwarding := false, loaded := false }) (sets [(E.BootSource, 3)] d))
def s100 : State := wk fun d => ((Dev.modPower fun p => { p with phase := .starting, forwarding := false, loaded := false }) (sets [(E.BootSource, 1)] d))
def s101 : State := wk fun d => ((Dev.modPower fun p => { p with phase := .starting, forwarding := false, loaded := false }) d)
def s102 : State := wk fun d => ((Dev.modCasc fun c => { c with waiting := true }) ((Dev.modPower fun p => { p with phase := .starting, forwarding := false, loaded := false }) (sets [(E.CascadeBootWaitMs, 1000)] d)))
def s103 : State := wk fun d => (sets [(E.CascadeRole, 1), (E.CascadeState, 1), (E.UniqueId, 0x0102030405060708)] d)
def s104 : State := wk fun d => ((Dev.modCasc fun c => { c with busyX := 6 }) (sets [(E.CascadeRole, 1), (E.CascadeState, 1), (E.UniqueId, 0x0102030405060708)] d))
def s105 : State := wk fun d => (sets [(E.CascadeRole, 2)] d)
def s106 : State := wk fun d => (sets [(E.CascadeRole, 2), (E.CascadePosition, 1), (E.CascadeState, 2)] d)
def s107 : State := wk fun d => ((Dev.modCasc fun c => { c with image := some ({ kind := 2, target := 2, total := 4, store := false, got := [1, 2, 3, 4] } : CascImage) }) (sets [(E.CascadeRole, 2), (E.CascadePosition, 1), (E.CascadeState, 2)] d))
def s108 : State := wk fun d => ((Dev.modCasc fun c => { c with pendImg := some ({ kind := 1, target := 2, total := 4, store := false, got := [1, 2, 3, 4] } : CascImage) }) (sets [(E.CascadeRole, 2), (E.CascadePosition, 1), (E.CascadeState, 2)] d))
def s109 : State := wk fun d => ((Dev.modCasc fun c => { c with test := some (([0, 1, 1, 0, 0, 1] ++ List.replicate 14 0 : Bytes), 5) }) (sets [(E.CascadeRole, 2), (E.CascadePosition, 1), (E.CascadeState, 2)] d))
def s110 : State := wk (Dev.modHost fun h => { h with scratch := 77 })
def s111 : State := wk fun d => { d with faults := { d.faults with cap := { d.faults.cap with valid := true, more := true } } }
def s112 : State := wk fun d => { d with faults := { d.faults with nLow := true, nEnd := 5 } }
def s113 : State := wk fun d => { d with faults := { d.faults with nLow := true, nEnd := 6 } }
def s114 : State := wk (Dev.modHost fun h => { h with due := [4, 36] })
def s115 : State := wk (Dev.modHost fun h => { h with hold := [(4, 5)] })
def s116 : State := wk fun d => (d.setRing 0 { d.ring 0 with holdoff := 1 }).modHost fun h => { h with hold := [(4, 5)] }
def s117 : State := wk (Dev.setMbox 0 { ab := List.replicate 7 ⟨1, 16, 0⟩ })
def s118 : State := wk (Dev.modHost fun h => { h with resetAt := (List.range 64).map fun m => (m, 0) })
def s119 : State := wk (Dev.setMbox 0 { ab := List.replicate 8 ⟨1, 16, 0⟩ })
def s120 : State := wk (Dev.setMbox 0 { ba := [⟨9, 1, 3⟩, ⟨8, 1, 3⟩] })
def s121 : State := wk (Dev.setMbox 0 { ba := [⟨9, 1, 3⟩] })
def s122 : State := wk (Dev.setSem 63 { holder := none, broken := true })
def s123 : State := wk (Dev.setSem 0 { holder := some (16, 2), broken := false })
def s124 : State := wk (Dev.setSem 0 { holder := some (1, 2), broken := false })
def s125 : State := wk (Dev.modHost fun h => { h with dbPend := 2 ^ 64 - 1 })
def s126 : State := wk fun d => ((Dev.setRing 0 { enable := true, log2 := 6, units := 4, tail := 8 }) d)
def s127 : State := wk fun d => (Dev.setFrame 1 ({ port := 3, pl := 0, bytes := List.replicate 60 0, x := 0, time := 0, tick := 0, oport := 3, tail := 1, ox := 0 } : Frame) (Dev.setQueue 1536 [({ frame := 1, tc := 0, colour := 0 } : QEntry)] ((Dev.setRing 0 { enable := true, log2 := 6, units := 4, tail := 8 }) d)))
def s128 : State := wk fun d => (Dev.setFrame 1 ({ port := 3, pl := 0, bytes := List.replicate 60 0, x := 0, time := 0, tick := 0, oport := 3, tail := 2, ox := 0 } : Frame) (Dev.setQueue 1536 [({ frame := 1, tc := 0, colour := 0 } : QEntry)] ((Dev.setRing 0 { enable := true, log2 := 6, units := 4, tail := 8 }) d)))
def s129 : State := wk fun d => (Dev.setFrame 1 ({ port := 3, pl := 0, bytes := List.replicate 60 0, x := 0, time := 0, tick := 0, oport := 3, tail := 1, ox := 0 } : Frame) (Dev.setQueue 1536 [({ frame := 1, tc := 0, colour := 0 } : QEntry)] ((Dev.setRing 0 { enable := true, log2 := 6, units := 4, tail := 0 }) d)))
def s130 : State := wk fun d => ((Dev.setRing 15 { enable := true, log2 := 6, units := 4, head := 63, tail := 0 }) d)
def s131 : State := wk fun d => ((Dev.modAccess fun a => { a with queues := [⟨⟨16, 0⟩, [{ key := 5, seq := 0, time := 0, x := 0, acq := false, lost := false, v := 0, data := [] }], []⟩] }) ((Dev.setRing 16 { enable := true, log2 := 6, head := 63, tail := 0 }) d))
def s132 : State := wk fun d => (sets [(E.ActiveBank, 0)] d)
def s133 : State := wk fun d => ((Dev.modYard fun y => { y with loopWords := [(3, 1), (2100, 4)] }) d)
def s134 : State := wk fun d => ((fun d => { d with time := { d.time with nextB := 1000 } }) d)
def s135 : State := wk fun d => ((fun d => { d with time := { d.time with acquire := false } }) d)
def s136 : State := wk fun d => ((fun d => { d with time := { d.time with acquire := false } }) ((Dev.modPower fun p => { p with phase := .starting, forwarding := false }) d))
def s137 : State := wk fun d => ((fun d => { d with net := { d.net with residue := [{ copy := ({ port := 3, queue := 2, entry := ({ frame := 7, colour := 2 } : QEntry) } : Copy), key := (1, 50, 7), tick := 0 }] } }) ((Dev.setFrame 7 ({ port := 3, pl := 0, bytes := List.replicate 300 1, x := 0, time := 0, tick := 0, oport := 3, ox := 0, tail := 1 } : Frame)) (rows [(T.AdmissionProfiles, 0, 0)] (sets [(E.ResidueLimitTicks, 0)] d))))
def s138 : State := wk fun d => ((fun d => { d with net := { d.net with residue := [{ copy := ({ port := 3, queue := 2, entry := ({ frame := 7 } : QEntry) } : Copy), key := (1, 50, 7), tick := 0 }] } }) (sets [(E.ResidueLimitTicks, 1)] d))
def s139 : State := wk fun d => ((fun d => { d with net := { d.net with recs := [(16383, { takeAny := false, last := 0 })], bounds := 7 } }) (rows [(T.RecoveryFunctions, 16383, 0x7000000)] d))
def s140 : State := wk fun d => ((Dev.setQueue (95 * 16 + 7) [({ frame := 1, tag := some 3 } : QEntry)]) ((Dev.setFrame 1 ({ port := 3, pl := 0, bytes := List.replicate 60 0, x := 0, time := 0, tick := 0, oport := 3, ox := 0, tail := 1 } : Frame)) (rows [(T.WeaveWindows, 97280, 0x7f)] (sets [(E.WeaveEnable 95, 1), (E.WeaveCycleTicks 95, 1), (E.WindowCount 95, 1), (E.PortState 95, 4), (E.PortMode 95, 1)] d))))
def s141 : State := wk fun d => ((Dev.setQueue (95 * 16) [({ frame := 1, tag := some 3 } : QEntry)]) ((Dev.setFrame 1 ({ port := 3, pl := 0, bytes := List.replicate 60 0, x := 0, time := 0, tick := 0, oport := 3, ox := 0, tail := 1 } : Frame)) (rows [(T.WeaveWindows, 97280, 0x1)] (sets [(E.WeaveEnable 95, 1), (E.WeaveCycleTicks 95, 1), (E.WindowCount 95, 1), (E.PortState 95, 4), (E.PortMode 95, 1)] d))))
def s142 : State := wk fun d => ((fun d => { d with net := { d.net with tx := [(95, ({ row := 95 * 16, entry := ({ frame := 1 } : QEntry), x := 0, len := 1004 } : Tx))] } }) ((Dev.setFrame 1 ({ port := 3, pl := 0, bytes := List.replicate 1000 0, x := 0, time := 0, tick := 0, oport := 3, ox := 0, tail := 1 } : Frame)) (rows [(T.WeaveWindows, 97280, 0x2)] (sets [(E.WeaveEnable 95, 1), (E.WeaveCycleTicks 95, 1), (E.WindowCount 95, 1), (E.PortState 95, 4), (E.PortMode 95, 1), (E.PreemptEnable 95, 1), (E.VerifyDisable 95, 1), (E.PreemptableQueues 95, 1)] d))))
def s143 : State := wk fun d => ((fun d => { d with time := { d.time with acquire := false, tickRun := true, tick := 5 } }) ((Dev.setDom (E.TemplateImage 0) (List.replicate 60 1)) (rows [(T.SampleGroups, 15, 0x8000100000000000)] d)))
def s144 : State := wk fun d => (sets [(E.PowerMode, 2)] d)
def s145 : State := wk fun d => ((Dev.modPower fun p => { p with stabling := some 0 }) d)
def s146 : State := wk fun d => ((Dev.modPower fun p => { p with stabling := some 0 }) (rows [(T.PpConfig, 0, 0x80000000000000000000000000000000)] (sets [(E.StabledRampLimitMs, 1)] d)))
def s147 : State := wk fun d => ((Dev.modPower fun p => { p with stabling := some 0 }) (rows [(T.PpConfig, 0, 0x80000000000000000000000000000000), (T.SetpointWordState, 0, 0)] (sets [(E.StabledRampLimitMs, 1)] d)))
def s148 : State := wk fun d => (sets [(E.ThrottleThresholdC, 100), (E.TripTempC, 105)] d)
def s149 : State := wk fun d => (sets [(E.ThrottleThresholdC, 100), (E.TripTempC, 105), (E.ThrottleLevel, 2)] d)
def s150 : State := wk fun d => ((Dev.modPower fun p => { p with cool := some 0 }) (sets [(E.PowerMode, 1), (E.ShedCause, 2), (E.ShedAutoExit, 1)] d))
def s151 : State := wk fun d => ((Dev.modPower fun p => { p with avsFailed := some 3 }) (sets [(E.AvsEnable, 1), (E.AvsFusedMv, 751)] d))
def s152 : State := wk fun d => (sets [(E.AvsEnable, 1), (E.AvsFusedMv, 751)] d)
def s153 : State := wk fun d => ((Dev.modPower fun p => { p with avsFailed := some 760 }) (sets [(E.AvsEnable, 1)] d))
def s154 : State := wk fun d => (sets [(E.PortState 95, 4), (E.PortMode 95, 1)] d)
def s155 : State := wk fun d => ((Dev.setFrame 1 ({ port := 95, pl := 0, bytes := List.replicate 60 0, x := 0, time := 0, tick := 0, oport := 95, ox := 0, tail := 0 } : Frame)) (sets [(E.PortState 95, 4), (E.PortMode 95, 1)] d))
def s156 : State := wk fun d => ((Dev.setFrame 1 ({ port := 95, pl := 0, bytes := List.replicate 60 0, x := 0, time := 0, tick := 0, oport := 95, ox := 0, tail := 0, frag := true } : Frame)) (sets [(E.PortState 95, 4), (E.PortMode 95, 1)] d))
def s157 : State := wk fun d => ((Dev.setFrame 1 ({ port := 95, pl := 0, bytes := List.replicate 60 0, x := 0, time := 0, tick := 0, oport := 95, ox := 0, tail := 0, prp := some 4 } : Frame)) (sets [(E.PortState 95, 4), (E.PortMode 95, 1)] d))
def s158 : State := wk fun d => ((fun d => { d with net := { d.net with copies := [(7, [({ port := 95, queue := 15, entry := ({ frame := 1 } : QEntry) } : Copy)])] } }) ((Dev.setFrame 1 ({ port := 3, pl := 0, bytes := List.replicate 60 0, x := 0, time := 0, tick := 0, oport := 3, ox := 0, tail := 1 } : Frame)) (sets [(E.PortState 95, 4), (E.PortMode 95, 1), (E.CutThrough 95, 0)] d)))
def s159 : State := wk fun d => ((fun d => { d with net := { d.net with copies := [(7, [({ port := 95, queue := 15, entry := ({ frame := 1 } : QEntry) } : Copy)])] } }) ((Dev.setFrame 1 ({ port := 3, pl := 0, bytes := List.replicate 60 0, x := 0, time := 0, tick := 0, oport := 3, ox := 0, tail := 1 } : Frame)) d))
def s160 : State := wk fun d => ((Dev.setQueue (95 * 16 + 7) [({ frame := 1 } : QEntry)]) ((Dev.setFrame 1 ({ port := 3, pl := 0, bytes := List.replicate 60 0, x := 0, time := 0, tick := 0, oport := 3, ox := 0, tail := 1 } : Frame)) (sets [(E.PortState 95, 4), (E.PortMode 95, 1)] d)))
def s161 : State := wk fun d => ((Dev.setQueue (95 * 16 + 7) [({ frame := 1 } : QEntry)]) ((Dev.setFrame 1 ({ port := 3, pl := 0, bytes := List.replicate 1514 0, x := 0, time := 0, tick := 0, oport := 3, ox := 0, tail := 1 } : Frame)) (sets [(E.PortState 95, 4), (E.PortMode 95, 1), (E.CutThrough 95, 1)] d)))
def s162 : State := wk fun d => ((Dev.setQueue (95 * 16 + 7) [({ frame := 1 } : QEntry)]) ((Dev.setFrame 1 ({ port := 3, pl := 0, bytes := List.replicate 60 0, x := 0, time := 0, tick := 0, oport := 3, ox := 0, tail := 1 } : Frame)) d))
def s163 : State := wk fun d => ((fun d => { d with net := { d.net with tx := [(95, ({ row := 95 * 16, entry := ({ frame := 1 } : QEntry), x := 0, len := 64 } : Tx))] } }) ((Dev.setFrame 1 ({ port := 3, pl := 0, bytes := List.replicate 60 0, x := 0, time := 0, tick := 0, oport := 3, ox := 0, tail := 1 } : Frame)) (sets [(E.PortState 95, 4), (E.PortMode 95, 1)] d)))
def s164 : State := wk fun d => ((fun d => { d with net := { d.net with releasing := 5 } }) d)
def s165 : State := wk fun d => ((Dev.setQueue (95 * 16 + 12) [({ frame := 1, dhop := some 0 } : QEntry)]) ((Dev.setFrame 1 ({ port := 3, pl := 0, bytes := List.replicate 60 0, x := 0, time := 0, tick := 0, oport := 3, ox := 0, tail := 1 } : Frame)) (sets [(E.PortState 95, 4), (E.PortMode 95, 1), (E.DhopQueues 95, 1)] d)))
def s166 : State := wk fun d => ((Dev.setQueue (95 * 16 + 15) [({ frame := 1, dhop := some 0 } : QEntry)]) ((Dev.setFrame 1 ({ port := 3, pl := 0, bytes := List.replicate 60 0, x := 0, time := 0, tick := 0, oport := 3, ox := 0, tail := 1 } : Frame)) (sets [(E.PortState 95, 4), (E.PortMode 95, 1), (E.DhopQueues 95, 15), (E.DhopLateAction 95, 0)] d)))
def s167 : State := wk fun d => ((Dev.setQueue (95 * 16 + 15) [({ frame := 1, target := some 0 } : QEntry)]) ((Dev.setFrame 1 ({ port := 3, pl := 0, bytes := List.replicate 60 0, x := 0, time := 0, tick := 0, oport := 3, ox := 0, tail := 1 } : Frame)) (sets [(E.PortState 95, 4), (E.PortMode 95, 1)] d)))
def s168 : State := wk fun d => ((Dev.setQueue (1599) [({ frame := 1 } : QEntry), ({ frame := 1, part := 1 } : QEntry)]) ((Dev.setFrame 1 ({ port := 3, pl := 0, bytes := List.replicate 60 0, x := 0, time := 0, tick := 0, oport := 3, ox := 0, tail := 1 } : Frame)) (rows [(T.HbmRegions, 2, 0), (T.HbmRegions, 3, 0x200)] (sets [(E.HbmState, 2)] d))))
def s169 : State := wk fun d => ((Dev.setQueue (1599) [({ frame := 1, part := 2 } : QEntry)]) ((Dev.setFrame 1 ({ port := 3, pl := 0, bytes := List.replicate 60 0, x := 0, time := 0, tick := 0, oport := 3, ox := 0, tail := 1 } : Frame)) (rows [(T.QueueConfig, 1599, 0x10000000000)] (sets [(E.HbmState, 2)] d))))
def s170 : State := wk fun d => ((fun d => { d with net := { d.net with recirc := [1] } }) ((Dev.setFrame 1 ({ port := 3, pl := 7, bytes := List.replicate 60 0, x := 0, time := 0, tick := 0, oport := 3, ox := 0, tail := 1 } : Frame)) d))
def s171 : State := wk fun d => ((fun d => { d with net := { d.net with samples := [({ sampler := 15, pl := 7, frame := 1, seq := 3, offered := 9, ready := true, bytes := List.replicate 64 5 } : SamplePend)] } }) (rows [(T.Samplers, 15, 0x203f000000000000)] d))
def s172 : State := wk fun d => ((fun d => { d with net := { d.net with samples := [({ sampler := 15, pl := 7, frame := 1, seq := 3, offered := 9, ready := true, bytes := List.replicate 64 5 } : SamplePend)] } }) (rows [(T.Samplers, 15, 0xe3f000000000000)] d))
def s173 : State := wk fun d => ((fun d => { d with net := { d.net with reentry := [1] } }) ((Dev.setFrame 1 ({ port := 3, pl := 7, bytes := List.replicate 60 0, x := 0, time := 0, tick := 0, oport := 3, ox := 0, tail := 1 } : Frame)) d))
def s174 : State := wk fun d => ((fun d => { d with net := { d.net with reentry := [1] } }) ((Dev.setFrame 1 ({ port := 3, pl := 7, bytes := List.replicate 60 0, x := 0, time := 0, tick := 0, oport := 3, ox := 0, tail := 2 } : Frame)) d))
def s175 : State := wk fun d => ((Dev.setStage 7 ({ frame := 1, base := 0, len := 3, arg := 9, skip := 1 } : Stage)) ((Dev.setFrame 1 ({ port := 3, pl := 7, bytes := ([2, 0, 0, 0, 0, 1, 2, 0, 0, 0, 0, 2, 18, 52] ++ List.replicate 46 0 : Bytes), x := 0, time := 0, tick := 0, oport := 3, ox := 0, tail := 1 } : Frame)) d))
def s176 : State := wk fun d => ((Dev.setStage 7 ({ frame := 1, base := 0, len := 3, arg := 9 } : Stage)) ((Dev.setFrame 1 ({ port := 3, pl := 7, bytes := ([2, 0, 0, 0, 0, 1, 2, 0, 0, 0, 0, 2, 18, 52] ++ List.replicate 46 0 : Bytes), x := 0, time := 0, tick := 0, oport := 3, ox := 0, tail := 1 } : Frame)) d))
def s177 : State := wk fun d => ((Dev.setStage 7 ({ frame := 1, base := 0, len := 3, arg := 9 } : Stage)) ((Dev.setFrame 1 ({ port := 3, pl := 7, bytes := ([2, 0, 0, 0, 0, 1, 2, 0, 0, 0, 0, 2, 18, 52] ++ List.replicate 46 0 : Bytes), x := 0, time := 0, tick := 0, oport := 3, ox := 0, tail := 1, ctx := { bridged := some 3, dest := some 9 } } : Frame)) d))
def s178 : State := wk fun d => ((Dev.setStage 7 ({ frame := 1, base := 0, len := 3, arg := 9 } : Stage)) ((Dev.setFrame 1 ({ port := 3, pl := 7, bytes := ([2, 0, 0, 0, 0, 1, 2, 0, 0, 0, 0, 2, 18, 52] ++ List.replicate 46 0 : Bytes), x := 0, time := 0, tick := 0, oport := 3, ox := 0, tail := 1 } : Frame)) (rows [(T.MirrorSessions, 15, 0x80000003802f8000)] d)))
def s179 : State := wk fun d => ((Dev.setStage 7 ({ frame := 1, base := 0, len := 3, arg := 9 } : Stage)) ((Dev.setFrame 1 ({ port := 3, pl := 7, bytes := ([2, 0, 0, 0, 0, 1, 2, 0, 0, 0, 0, 2, 18, 52] ++ List.replicate 46 0 : Bytes), x := 0, time := 0, tick := 0, oport := 3, ox := 0, tail := 1 } : Frame)) (rows [(T.MirrorSessions, 15, 0)] d)))
def s180 : State := wk fun d => ((Dev.setStage 7 ({ frame := 1, base := 0, len := 3, arg := 9 } : Stage)) ((Dev.setFrame 1 ({ port := 3, pl := 7, bytes := ([2, 0, 0, 0, 0, 1, 2, 0, 0, 0, 0, 2, 18, 52] ++ List.replicate 46 0 : Bytes), x := 0, time := 0, tick := 0, oport := 3, ox := 0, tail := 1 } : Frame)) (rows [(T.Samplers, 15, 0x8000000001000000)] d)))
def s181 : State := wk fun d => ((Dev.setStage 7 ({ frame := 1, base := 0, len := 3, arg := 9 } : Stage)) ((Dev.setFrame 1 ({ port := 3, pl := 7, bytes := ([2, 0, 0, 0, 0, 1, 2, 0, 0, 0, 0, 2, 18, 52] ++ List.replicate 46 0 : Bytes), x := 0, time := 0, tick := 0, oport := 3, ox := 0, tail := 1 } : Frame)) (rows [(T.Samplers, 15, 0x8000000002000000)] d)))
def s182 : State := wk fun d => ((Dev.setStage 7 ({ frame := 1, base := 0, len := 3, arg := 9 } : Stage)) ((Dev.setFrame 1 ({ port := 3, pl := 7, bytes := ([2, 0, 0, 0, 0, 1, 2, 0, 0, 0, 0, 2, 18, 52] ++ List.replicate 46 0 : Bytes), x := 0, time := 0, tick := 3, oport := 3, ox := 0, tail := 1 } : Frame)) d))
def s183 : State := wk fun d => ((Dev.setStage 7 ({ frame := 1, base := 0, len := 3, arg := 9, edits := List.replicate 7 .ttl } : Stage)) ((Dev.setFrame 1 ({ port := 3, pl := 7, bytes := ([2, 0, 0, 0, 0, 1, 2, 0, 0, 0, 0, 2, 18, 52] ++ List.replicate 46 0 : Bytes), x := 0, time := 0, tick := 0, oport := 3, ox := 0, tail := 1 } : Frame)) d))
def s184 : State := wk fun d => ((Dev.setStage 7 ({ frame := 1, base := 0, len := 3, arg := 9 } : Stage)) ((Dev.setFrame 1 ({ port := 3, pl := 7, bytes := ([2, 0, 0, 0, 0, 1, 2, 0, 0, 0, 0, 2, 18, 52] ++ List.replicate 46 0 : Bytes), x := 0, time := 0, tick := 0, oport := 3, ox := 0, tail := 1, ctx := { tag := 4097 } } : Frame)) d))
def s185 : State := wk fun d => ((Dev.setStage 7 ({ frame := 1, base := 0, len := 3, arg := 9 } : Stage)) ((Dev.setFrame 1 ({ port := 3, pl := 7, bytes := ([2, 0, 0, 0, 0, 1, 2, 0, 0, 0, 0, 2, 129, 0, 0, 5, 129, 0, 0, 5, 129, 0, 0, 5, 18, 52] ++ List.replicate 34 0 : Bytes), x := 0, time := 0, tick := 0, oport := 3, ox := 0, tail := 1 } : Frame)) d))
def s186 : State := wk fun d => ((Dev.setStage 7 ({ frame := 1, base := 0, len := 3, arg := 9 } : Stage)) ((Dev.setFrame 1 ({ port := 3, pl := 7, bytes := ([2, 0, 0, 0, 0, 1, 2, 0, 0, 0, 0, 2, 129, 0, 0, 5, 8, 0, 69, 0, 0, 46, 0, 0, 0, 0, 64, 253, 101, 209, 10, 0, 0, 1, 10, 0, 0, 2] ++ List.replicate 26 0 : Bytes), x := 0, time := 0, tick := 0, oport := 3, ox := 0, tail := 1 } : Frame)) d))
def s187 : State := wk fun d => ((Dev.setStage 7 ({ frame := 1, base := 0, len := 3, arg := 9, edits := List.replicate 8 .ttl } : Stage)) ((Dev.setFrame 1 ({ port := 3, pl := 7, bytes := ([2, 0, 0, 0, 0, 1, 2, 0, 0, 0, 0, 2, 129, 0, 0, 5, 8, 0, 69, 0, 0, 46, 0, 0, 0, 0, 64, 253, 101, 209, 10, 0, 0, 1, 10, 0, 0, 2] ++ List.replicate 26 0 : Bytes), x := 0, time := 0, tick := 0, oport := 3, ox := 0, tail := 1 } : Frame)) d))
def s188 : State := wk fun d => ((Dev.setStage 7 ({ frame := 1, base := 0, len := 3, arg := 9, edits := List.replicate 7 .ttl } : Stage)) ((Dev.setFrame 1 ({ port := 3, pl := 7, bytes := ([2, 0, 0, 0, 0, 1, 2, 0, 0, 0, 0, 2, 129, 0, 0, 5, 8, 0, 69, 0, 0, 46, 0, 0, 0, 0, 64, 253, 101, 209, 10, 0, 0, 1, 10, 0, 0, 2] ++ List.replicate 26 0 : Bytes), x := 0, time := 0, tick := 0, oport := 3, ox := 0, tail := 1, ctx := { tc := 7 } } : Frame)) d))
def s189 : State := wk fun d => ((Dev.setStage 7 ({ frame := 1, base := 0, len := 3, arg := 9 } : Stage)) ((Dev.setFrame 1 ({ port := 3, pl := 7, bytes := ([2, 0, 0, 0, 0, 1, 2, 0, 0, 0, 0, 2, 8, 0, 69, 0, 0, 46, 0, 0, 0, 0, 2, 253, 163, 209, 10, 0, 0, 1, 10, 0, 0, 2] ++ List.replicate 26 0 : Bytes), x := 0, time := 0, tick := 0, oport := 3, ox := 0, tail := 1 } : Frame)) d))
def s190 : State := wk fun d => ((Dev.setStage 7 ({ frame := 1, base := 0, len := 3, arg := 9 } : Stage)) ((Dev.setFrame 1 ({ port := 3, pl := 7, bytes := ([2, 0, 0, 0, 0, 1, 2, 0, 0, 0, 0, 2, 8, 0, 69, 0, 0, 46, 0, 0, 0, 0, 1, 253, 164, 209, 10, 0, 0, 1, 10, 0, 0, 2] ++ List.replicate 26 0 : Bytes), x := 0, time := 0, tick := 0, oport := 3, ox := 0, tail := 1 } : Frame)) d))
def s191 : State := wk fun d => ((Dev.setStage 7 ({ frame := 1, base := 0, len := 3, arg := 9 } : Stage)) ((Dev.setFrame 1 ({ port := 3, pl := 7, bytes := ([2, 0, 0, 0, 0, 1, 2, 0, 0, 0, 0, 2, 18, 52] ++ List.replicate 46 0 : Bytes), x := 0, time := 0, tick := 0, oport := 3, ox := 0, tail := 1 } : Frame)) (rows [(T.SeqGen, 4095, 0x8000ffff)] d)))
def s192 : State := wk fun d => ((Dev.setStage 7 ({ frame := 1, base := 0, len := 3, arg := 9 } : Stage)) ((Dev.setFrame 1 ({ port := 3, pl := 7, bytes := ([2, 0, 0, 0, 0, 1, 2, 0, 0, 0, 0, 2, 241, 193, 0, 0, 0, 9, 18, 52] ++ List.replicate 40 0 : Bytes), x := 0, time := 0, tick := 0, oport := 3, ox := 0, tail := 1 } : Frame)) d))
def s193 : State := wk fun d => ((Dev.setStage 7 ({ frame := 1, base := 0, len := 3, arg := 9 } : Stage)) ((Dev.setFrame 1 ({ port := 3, pl := 7, bytes := ([2, 0, 0, 0, 0, 1, 2, 0, 0, 0, 0, 2, 137, 47, 0, 52, 0, 9, 18, 52] ++ List.replicate 40 0 : Bytes), x := 0, time := 0, tick := 0, oport := 3, ox := 0, tail := 1 } : Frame)) d))
def s194 : State := wk fun d => ((Dev.setStage 7 ({ frame := 1, base := 0, len := 3, arg := 9 } : Stage)) ((Dev.setFrame 1 ({ port := 3, pl := 7, bytes := ([2, 0, 0, 0, 0, 1, 2, 0, 0, 0, 0, 2, 18, 52] ++ List.replicate 41 0 ++ [9, 160, 52, 136, 251] : Bytes), x := 0, time := 0, tick := 0, oport := 3, ox := 0, tail := 1 } : Frame)) d))
def s195 : State := wk fun d => (sets [(E.PortState 95, 4), (E.PortMode 95, 1), (E.CalState 95, 2), (E.RoleA 95, 3), (E.Transport 0, 7), (E.Transport 1, 7), (E.DomainNumber 1, 9), (E.MasterMode 0, 0), (E.UniqueId, 0x1122334455667788)] d)
def s196 : State := wk fun d => (sets [(E.PortState 95, 4), (E.PortMode 95, 1), (E.CalState 95, 2), (E.RoleA 95, 4), (E.Transport 0, 7), (E.Transport 1, 7), (E.DomainNumber 1, 9), (E.MasterMode 0, 0), (E.UniqueId, 0x1122334455667788)] d)
def s197 : State := wk fun d => (sets [(E.PortState 95, 4), (E.PortMode 95, 1), (E.CalState 95, 2), (E.RoleB 95, 3), (E.Transport 0, 7), (E.Transport 1, 7), (E.DomainNumber 1, 9), (E.MasterMode 0, 0), (E.UniqueId, 0x1122334455667788)] d)
def s198 : State := wk fun d => (sets [(E.PortState 95, 4), (E.PortMode 95, 1), (E.CalState 95, 2), (E.RoleA 95, 3), (E.Transport 0, 7), (E.Transport 1, 7), (E.DomainNumber 1, 9), (E.MasterMode 0, 0), (E.UniqueId, 0x1122334455667788), (E.DomainNumber 1, 0), (E.RoleB 95, 4)] d)
def s199 : State := wk fun d => (sets [(E.PortState 95, 4), (E.PortMode 95, 1), (E.CalState 95, 2), (E.RoleA 95, 0), (E.Transport 0, 7), (E.Transport 1, 7), (E.DomainNumber 1, 9), (E.MasterMode 0, 0), (E.UniqueId, 0x1122334455667788)] d)
def s200 : State := wk fun d => ((fun d => { d with time := { d.time with syncs := [(⟨95, 0, 5, 2, 7, 100, 0⟩ : SyncWait)] } }) (sets [(E.PortState 95, 4), (E.PortMode 95, 1), (E.CalState 95, 2), (E.RoleA 95, 3), (E.Transport 0, 7), (E.Transport 1, 7), (E.DomainNumber 1, 9), (E.MasterMode 0, 0), (E.UniqueId, 0x1122334455667788)] d))
def s201 : State := wk fun d => ((fun d => { d with time := { d.time with twoStep := [⟨95, 0, 5, 2, 7, 100, 0⟩] } }) (sets [(E.PortState 95, 4), (E.PortMode 95, 1), (E.CalState 95, 2), (E.RoleA 95, 3), (E.Transport 0, 7), (E.Transport 1, 7), (E.DomainNumber 1, 9), (E.MasterMode 0, 0), (E.UniqueId, 0x1122334455667788), (E.SyncIntervalTicks 0, 0)] d))
def s202 : State := wk fun d => (sets [(E.PortState 95, 4), (E.PortMode 95, 1), (E.CalState 95, 2), (E.RoleA 95, 2), (E.Transport 0, 7), (E.Transport 1, 7), (E.DomainNumber 1, 9), (E.MasterMode 0, 0), (E.UniqueId, 0x1122334455667788)] d)
def s203 : State := wk fun d => ((Dev.modPtp 95 fun q => { q with dreq := [(0, (7, some 100))] }) (sets [(E.PortState 95, 4), (E.PortMode 95, 1), (E.CalState 95, 2), (E.RoleA 95, 3), (E.Transport 0, 7), (E.Transport 1, 7), (E.DomainNumber 1, 9), (E.MasterMode 0, 0), (E.UniqueId, 0x1122334455667788)] d))
def s204 : State := wk fun d => (sets [(E.PortState 95, 4), (E.PortMode 95, 1), (E.CalState 95, 2), (E.RoleA 95, 0), (E.Transport 0, 7), (E.Transport 1, 7), (E.DomainNumber 1, 9), (E.MasterMode 0, 0), (E.UniqueId, 0x1122334455667788), (E.PdelayIntervalTicks 95, 1)] d)
def s205 : State := wk fun d => ((Dev.modPtp 95 fun q => { q with pdReq := some ({ seq := 7, t1 := some 100 } : PdReq) }) (sets [(E.PortState 95, 4), (E.PortMode 95, 1), (E.CalState 95, 2), (E.RoleA 95, 3), (E.Transport 0, 7), (E.Transport 1, 7), (E.DomainNumber 1, 9), (E.MasterMode 0, 0), (E.UniqueId, 0x1122334455667788)] d))
def s206 : State := wk fun d => ((Dev.modPtp 95 fun q => { q with pdReq := some ({ seq := 7, t1 := some 100 } : PdReq), pdLost := 2 }) (sets [(E.PortState 95, 4), (E.PortMode 95, 1), (E.CalState 95, 2), (E.RoleA 95, 3), (E.Transport 0, 7), (E.Transport 1, 7), (E.DomainNumber 1, 9), (E.MasterMode 0, 0), (E.UniqueId, 0x1122334455667788), (E.PdelayIntervalTicks 95, 1)] d))
def s207 : State := wk fun d => ((Dev.modPtp 95 fun q => { q with pdReq := some ({ seq := 7, t1 := some 100 } : PdReq), pdLost := 1 }) (sets [(E.PortState 95, 4), (E.PortMode 95, 1), (E.CalState 95, 2), (E.RoleA 95, 3), (E.Transport 0, 7), (E.Transport 1, 7), (E.DomainNumber 1, 9), (E.MasterMode 0, 0), (E.UniqueId, 0x1122334455667788), (E.PdelayIntervalTicks 95, 1)] d))
def s208 : State := wk fun d => (sets [(E.PortState 95, 4), (E.PortMode 95, 1), (E.CalState 95, 2), (E.RoleA 95, 3), (E.Transport 0, 7), (E.Transport 1, 7), (E.DomainNumber 1, 9), (E.MasterMode 0, 0), (E.UniqueId, 0x1122334455667788), (E.FirmwareState, 2)] d)
def s209 : State := wk fun d => (sets [(E.PortState 95, 4), (E.PortMode 95, 1), (E.CalState 95, 2), (E.RoleB 95, 2), (E.Transport 0, 7), (E.Transport 1, 7), (E.DomainNumber 1, 9), (E.MasterMode 0, 0), (E.UniqueId, 0x1122334455667788), (E.MasterMode 1, 0), (E.SyncIntervalTicks 1, 3)] d)
def s210 : State := wk fun d => ((Dev.modPtp 95 fun q => { q with nextSync := [(0, 1)] }) (sets [(E.PortState 95, 4), (E.PortMode 95, 1), (E.CalState 95, 2), (E.RoleA 95, 2), (E.Transport 0, 7), (E.Transport 1, 7), (E.DomainNumber 1, 9), (E.MasterMode 0, 0), (E.UniqueId, 0x1122334455667788)] d))
def s211 : State := wk fun d => (sets [(E.PortState 95, 4), (E.PortMode 95, 1), (E.CalState 95, 2), (E.RoleA 95, 3), (E.Transport 0, 7), (E.Transport 1, 7), (E.DomainNumber 1, 9), (E.MasterMode 0, 0), (E.UniqueId, 0x1122334455667788), (E.DelayMechanism 0, 1), (E.DelayReqIntervalTicks 0, 1)] d)
def s212 : State := wk fun d => (sets [(E.PortState 95, 4), (E.PortMode 95, 1), (E.CalState 95, 2), (E.RoleA 95, 3), (E.Transport 0, 7), (E.Transport 1, 7), (E.DomainNumber 1, 9), (E.MasterMode 0, 0), (E.UniqueId, 0x1122334455667788), (E.DelayMechanism 0, 0)] d)
def s213 : State := wk fun d => (sets [(E.PortState 95, 4), (E.PortMode 95, 1), (E.CalState 95, 2), (E.RoleA 95, 3), (E.Transport 0, 7), (E.Transport 1, 7), (E.DomainNumber 1, 9), (E.MasterMode 0, 0), (E.UniqueId, 0x1122334455667788), (E.PdelayIntervalTicks 95, 1)] d)
def s214 : State := wk fun d => ((Dev.modPtp 95 fun q => { q with nextPdreq := 1 }) (sets [(E.PortState 95, 4), (E.PortMode 95, 1), (E.CalState 95, 2), (E.RoleA 95, 3), (E.Transport 0, 7), (E.Transport 1, 7), (E.DomainNumber 1, 9), (E.MasterMode 0, 0), (E.UniqueId, 0x1122334455667788), (E.PdelayIntervalTicks 95, 1)] d))
def s215 : State := wk fun d => (sets [(E.PortState 95, 4), (E.PortMode 95, 1), (E.CalState 95, 2), (E.RoleA 95, 3), (E.Transport 0, 7), (E.Transport 1, 7), (E.DomainNumber 1, 9), (E.MasterMode 0, 0), (E.UniqueId, 0x1122334455667788), (E.PdelayIntervalTicks 95, 0)] d)
def s216 : State := wk fun d => (sets [(E.FlashBytes, 2 ^ 27), (E.BootSource, 2)] d)
def s217 : State := wk fun d => (sets [(E.SwapState, 1), (E.ActiveBank, 0)] d)
def s218 : State := wk fun d => ((fun d => { d with fw := { d.fw with swapTick := 1 } }) (sets [(E.SwapState, 3)] d))
def s219 : State := wk fun d => ((fun d => { d with fw := { d.fw with swapTick := 0, ready := true, standby := some (⟨1, 2, 3, 4⟩ : BankHdr) } }) (sets [(E.SwapState, 3), (E.ActiveBank, 0)] d))
def s220 : State := wk fun d => ((fun d => { d with fw := { d.fw with swapTick := 0 } }) (sets [(E.SwapState, 3), (E.FirmwareState, 2)] d))
def s221 : State := wk fun d => ((fun d => { d with tele := { d.tele with snap := some { dict := d.dict, tick := 0, time := 0, raw := 0, acq := false }, swept := 1 } }) (rows [(T.SweepSets, 7, 0x80001000000000000000000000100000)] (sets [(E.HbmState, 2)] d)))
def s222 : State := wk fun d => ((fun d => { d with tele := { d.tele with snap := some { dict := d.dict, tick := 0, time := 0, raw := 0, acq := false }, swept := 1 } }) (rows [(T.SweepSets, 7, 0x80001000000000000000000000100000)] (sets [(E.HbmState, 2), (E.SweepTail 7, 8)] d)))
def s223 : State := wk fun d => ((fun d => { d with tele := { d.tele with dumps := [({ set := 7, bank := 0, words := [1, 2] } : Dump)] } }) (rows [(T.SweepSets, 7, 0xc0001000000000000000000000100000)] d))
def s224 : State := wk fun d => ((fun d => { d with tele := { d.tele with dumps := [({ set := 7, bank := 0, words := [1, 2] } : Dump)] } }) (rows [(T.SweepSets, 7, 0x80001000000000000000000000100000)] (sets [(E.HbmState, 2)] d)))
def s225 : State := wk fun d => ((fun d => { d with tele := { d.tele with snap := some { dict := d.dict, tick := 0, time := 0, raw := 0, acq := false }, bwDone := 1 } }) d)
def s226 : State := wk fun d => ((fun d => { d with tele := { d.tele with irqDone := 1 } }) ((fun d => { d with time := { d.time with tickRun := true, tick := 6 } }) (sets [(E.TickIrqDivider, 3)] d)))
def s227 : State := wk fun d => (sets [(0x20005, 3)] d)
def s228 : State := wk fun d => ((Dev.modAccess fun a => { a with bulks := [{ who := m0, key := entryKey 0x3412 1, total := 8, got := [1], last := 0 }] }) d)
def s229 : State := wk fun d => ((Dev.modAccess fun a => { a with sessions := [({ id := 9, slot := 0, key := [], last := 0 } : Session)] }) d)
def s230 : State := wk fun d => ((fun d => { d with commit := { d.commit with stage := ({ scal := [(E.WeaveCycleOffset 3, 0)], rows := [] } : Staged) } }) d)
def s231 : State := wk fun d => ((fun d => { d with commit := { d.commit with folding := [5, 6] } }) d)
def s232 : State := wk fun d => ((fun d => { d with commit := { d.commit with epochs := [⟨0, {}⟩], lpmHeld := [(0, 4), (5, 6)] } }) d)
def s233 : State := wk fun d => (sets [(E.PortState 95, 4), (E.PortMode 95, 1), (E.ProstaEnable, 1), (E.NodeId, 3), (E.AssumedNodeId, 4), (E.ProstaPortsHigh, 2 ^ 31)] d)
def s234 : State := wk fun d => ((Dev.modAccess fun a => { a with replies := List.replicate 64 { tag := 0, path := .prosta (reqOf 5 (pduIn 0 []) 0), who := ⟨0x20, 0⟩, recs := [] } }) (sets [(E.PortState 95, 4), (E.PortMode 95, 1), (E.ProstaEnable, 1), (E.NodeId, 3), (E.AssumedNodeId, 4), (E.ProstaPortsHigh, 2 ^ 31)] d))
def s235 : State := wk fun d => (rows [(T.ProstaRoutes, 5, 0xaf800000000000000007)] (sets [(E.PortState 95, 4), (E.PortMode 95, 1), (E.ProstaEnable, 1), (E.NodeId, 3), (E.AssumedNodeId, 4), (E.ProstaPortsHigh, 2 ^ 31)] d))
def s236 : State := wk fun d => (sets [(E.KeySlotEnable 7, 1)] d)
def s237 : State := wk fun d => ((Dev.modAccess fun a => { a with sessions := [({ id := 9, slot := 7, key := [1], last := 0 } : Session)] }) (sets [(E.SessionIdleTimeout, 60)] d))
def s238 : State := wk fun d => (sets [(E.CanEnable 1, 1), (E.CanPrivilege 1, 2)] d)
def s239 : State := wk fun d => (sets [(E.CanEnable 1, 1)] d)
def s240 : State := wk fun d => ((Dev.setCan 1 { active := true, tag := 3, len := 4096, count := 0, buf := List.replicate 61 1, last := 0 }) (sets [(E.CanEnable 1, 1)] d))
def s241 : State := wk fun d => ((Dev.setCan 1 { active := true, tag := 3, len := 4096, count := 0, buf := List.replicate 61 1, last := 0 }) d)
def s242 : State := wk fun d => ((Dev.setCan 1 { resp := some (3, List.replicate 200 1) }) d)
def s243 : State := wk fun d => ((Dev.modAccess fun a => { a with queues := [⟨⟨0x22, 0⟩, [({ key := 5, seq := 0, time := 0, x := 0, acq := false, lost := false, v := 0, data := [] } : Event)], [7]⟩] }) d)
def s244 : State := wk fun d => ((Dev.modWindow fun w => { w with buf := ([13, 0, 0, 12, 0, 0, 0, 0, 1, 2, 3, 4] : Bytes) }) d)
def s245 : State := wk fun d => ((Dev.modWindow fun w => { w with busy := true }) d)
def s246 : State := wk fun d => ((Dev.modWindow fun w => { w with busy := true, ready := true, resp := [1, 2] }) d)
def s247 : State := wk fun d => ((fun d => { d with pair := { d.pair with miss := 3 } }) (sets [(E.MateState, 1), (E.PairEnable, 1), (E.PairRole, 1), (E.HbMissLimit, 3), (E.TetherPortB, 95)] d))
def s248 : State := wk fun d => ((Dev.setDom E.TakeoverPlan (List.replicate 24 0)) ((fun d => { d with pair := { d.pair with miss := 3 } }) (sets [(E.MateState, 1), (E.PairEnable, 1), (E.PairRole, 1), (E.HbMissLimit, 3), (E.TetherPortB, 95), (E.TakeoverArmed, 1)] d)))
def s249 : State := wk fun d => ((fun d => { d with pair := { d.pair with silent := [(0, 3)] } }) (sets [(E.MateState, 1), (E.PairEnable, 1), (E.PairRole, 1), (E.HbMissLimit, 3), (E.TetherPortB, 95)] d))
def s250 : State := wk fun d => ((fun d => { d with pair := { d.pair with silent := [(2, 3)] } }) (sets [(E.MateState, 1), (E.PairEnable, 1), (E.PairRole, 1), (E.HbMissLimit, 3), (E.TetherPortB, 95)] d))
def s251 : State := wk fun d => ((fun d => { d with pair := { d.pair with silent := [(2, 2)] } }) (sets [(E.MateState, 1), (E.PairEnable, 1), (E.PairRole, 1), (E.HbMissLimit, 3), (E.TetherPortB, 95)] d))
def s252 : State := wk fun d => (sets [(E.MateState, 1), (E.PairEnable, 1), (E.PairRole, 1), (E.HbMissLimit, 3), (E.TetherPortB, 95)] d)
def s253 : State := wk fun d => (sets [(E.OwnState, 2)] d)
def s254 : State := wk fun d => (sets [(E.OwnState, 1), (E.PairRole, 2)] d)
def s255 : State := wk fun d => (sets [(E.OwnState, 1), (E.OwnSettleNs, 1000)] d)
def s256 : State := wk fun d => (sets [(E.OwnState, 3)] d)
def s257 : State := wk fun d => ((fun d => { d with pair := { d.pair with held := [⟨7, ([24, 1, 0, 20, 0, 0, 0, 7] ++ List.replicate 8 0 ++ [7, 0, 0, 4] : Bytes), 0⟩] } }) (sets [(E.MateState, 1), (E.PairEnable, 1), (E.PairRole, 1), (E.HbMissLimit, 3), (E.TetherPortB, 95), (E.MirrorState, 3)] d))
def s258 : State := wk fun d => ((Dev.setRow (T.L2Rows 7) ((l2Cands 5 7).headD 0) (l2Row false false false 5 7 9)) (sets [(E.MateState, 1), (E.PairEnable, 1), (E.PairRole, 1), (E.HbMissLimit, 3), (E.TetherPortB, 95)] d))
def s259 : State := wk fun d => ((Dev.setRow (T.L2Rows 7) ((l2Cands 5 7).headD 0) (l2Row true false false 5 7 9)) (sets [(E.MateState, 1), (E.PairEnable, 1), (E.PairRole, 1), (E.HbMissLimit, 3), (E.TetherPortB, 95)] d))
def s260 : State := wk fun d => (sets [(E.MateState, 2)] d)
def s261 : State := wk fun d => (sets [(E.MateState, 1), (E.PairEnable, 1), (E.PairRole, 1), (E.HbMissLimit, 3), (E.TetherPortB, 95), (E.MirrorState, 1)] d)
def s262 : State := wk fun d => ((fun d => { d with net := { d.net with learnQ := [(7, [({ fid := 5, mac := 7, dest := 9, old := none, port := 95, tc := 0 } : LearnReq)])] } }) (sets [(E.MirrorL2, 0)] d))
def s263 : State := wk fun d => ((Dev.setRow (T.L2Rows 7) ((l2Cands 5 7).headD 0) (l2Row false false false 5 7 3)) ((fun d => { d with net := { d.net with learnQ := [(7, [({ fid := 5, mac := 7, dest := 9, old := some 3, port := 95, tc := 0 } : LearnReq)])] } }) (sets [(E.MirrorL2, 0)] d)))
def s264 : State := wk fun d => ((Dev.setRow (T.L2Rows 7) ((l2Cands 5 7).headD 0) (l2Row false false false 5 7 3)) (sets [(E.L2AgeEnable, 1)] d))
def s265 : State := wk fun d => ((Dev.setRow (T.L2Rows 7) ((l2Cands 5 7).headD 0) (setBit (l2Row false false false 5 7 3) 85 false)) (sets [(E.L2AgeEnable, 1)] d))
def s266 : State := wk fun d => ((fun d => { d with net := { d.net with updates := [{ ticket := none, op := .row (T.TreeRules 3) ((l2Cands 5 7).headD 0) 9, left := [(7, 1)] }] } }) d)
def s267 : State := wk fun d => ((fun d => { d with net := { d.net with updates := [{ ticket := none, op := .row T.AssocRowsAll 8191 5, left := [(7, 1)] }] } }) d)
def s268 : State := wk fun d => ((fun d => { d with net := { d.net with updates := [{ ticket := none, op := .em [.copy 3 4, .put 3 7], left := [(0, 2), (7, 2)] }] } }) d)
def s269 : State := wk fun d => ((fun d => { d with net := { d.net with bad := [(T.NextHops, 5)], repair := [(7, [(T.NextHops, 5)])] } }) (sets [(E.HbmState, 2)] d))
def s270 : State := wk fun d => (sets [(E.L2FlushBusy, 1)] d)
def s271 : State := wk fun d => ((Dev.setRow (T.L2Rows 7) ((l2Cands 5 7).headD 0) (l2Row false false false 5 7 3)) ((fun d => { d with net := { d.net with updates := [{ ticket := none, op := .flush 2 0 0, left := [(7, 262144)] }] } }) (sets [(E.L2FlushBusy, 1)] d)))
def s272 : State := wk fun d => (rows [(T.StreamBlocked, 0, 0x80)] (sets [(E.StreamsBlocked, 1)] d))
def s273 : State := wk fun d => (rows [(T.GateLatched, 255, 0x80)] d)
def s274 : State := wk fun d => ((Dev.setQueue (1599) [({ frame := 1 } : QEntry)]) ((Dev.setFrame 1 ({ port := 3, pl := 0, bytes := List.replicate 60 0, x := 0, time := 0, tick := 0, oport := 3, ox := 0, tail := 1 } : Frame)) d))
def s275 : State := wk fun d => ((Dev.setRow (T.EmRows 0) ((emCands (2 ^ 156 + 7)).headD 0) (2 ^ 255 + (2 ^ 156 + 7) * 2 ^ 80)) d)
def s276 : State := wk fun d => ((Dev.setSlot 4095 ({ kind := 1, state := 1, keys := [(1, (2 ^ 156 + 7))], limit := 100 } : Slot)) d)
def s277 : State := wk fun d => ((Dev.setDeep ((bucketSlots (deepPrimary (2 ^ 156 + 7))).headD 0) (deepRow false (2 ^ 156 + 7) 5)) ((Dev.setSlot 4095 ({ kind := 1, state := 1, keys := [(1, (2 ^ 156 + 7))], limit := 100 } : Slot)) d))
def s278 : State := wk fun d => ((Dev.setDeep ((bucketSlots (deepPrimary (deepL2Key 0 5 7))).headD 0) (deepRow false (deepL2Key 0 5 7) (9 * 2 ^ 64))) ((Dev.setSlot 4095 ({ kind := 2, state := 1, learn := some ({ fid := 5, mac := 7, dest := 9, old := none, port := 95, tc := 0 } : LearnReq), limit := 100 } : Slot)) d))
def s279 : State := wk fun d => ((Dev.setSlot 4095 ({ kind := 5, state := 1, data := (2 ^ 156 + 7), limit := 100 } : Slot)) d)
def s280 : State := wk fun d => ((Dev.setSlot 4095 ({ kind := 4, state := 1, data := (2 ^ 156 + 7) * 2 ^ 80 + 3, limit := 100 } : Slot)) d)
def s281 : State := wk fun d => ((fun d => { d with net := { d.net with waiting := [({ kind := 5, who := m0, data := 7, x := 0, ticket := none } : WaitOp)] } }) (sets [(E.HbmState, 2)] d))
def s282 : State := wk fun d => ((fun d => { d with net := { d.net with waiting := [({ kind := 5, who := m0, data := 7, x := 0, ticket := none } : WaitOp)] } }) d)
def s283 : State := wk fun d => ((fun d => { d with net := { d.net with waiting := [({ kind := 5, who := m0, data := 7, x := 0, ticket := none } : WaitOp)] } }) (sets [(E.OpTimeoutUs, 100)] d))
def s284 : State := wk fun d => ((Dev.setSlot 4095 ({ state := 1, gen := 15, limit := 4 } : Slot)) d)
def s285 : State := wk fun d => ((fun d => { d with net := { d.net with slots := [(4095, ({ state := 2, gen := 15, kind := 5 } : Slot))] } }) d)
def s286 : State := wk fun d => ((Dev.setSlot 4095 ({ kind := 3, state := 1, gen := 5, limit := 100 } : Slot)) d)
def s287 : State := wk fun d => ((Dev.setSlot 4095 ({ kind := 3, state := 1, gen := 6, limit := 100 } : Slot)) d)
def s288 : State := wk fun d => ((Dev.modHbm fun h => { h with keep := true, mem := [(0x40000000, 7)] }) (sets [(E.HbmState, 1)] d))
def s289 : State := wk fun d => ((Dev.modHbm fun h => { h with mem := [(0x40000000, 7)] }) (sets [(E.HbmState, 1)] d))
def s290 : State := wk fun d => ((Dev.modHbm fun h => { h with session := some 0 }) d)
def s291 : State := wk fun d => ((fun d => (List.range 64).foldl (fun d k => d.setRow T.HbmTraining k (2 ^ 127)) d) ((Dev.modHbm fun h => { h with session := some 0 }) d))
def s292 : State := wk fun d => ((Dev.modHbm fun h => { h with postponed := [(63 * 32 + 31, 3)] }) (sets [(E.HbmState, 2), (E.HbmRefreshMode, 1)] d))
def s293 : State := wk fun d => ((Dev.modHbm fun h => { h with postponed := [(63 * 32 + 31, 3)] }) (sets [(E.HbmState, 2), (E.HbmRefreshMode, 1), (E.HbmRefreshPostponeMax, 4)] d))
def s294 : State := wk fun d => (sets [(E.HbmState, 2), (E.HbmIdleSelfRefreshUs, 1)] d)
def s295 : State := wk fun d => (sets [(E.HbmState, 2), (E.HbmIdleSelfRefreshUs, 0)] d)
def s296 : State := wk fun d => ((Dev.modHbm fun h => { h with asleep := [63] }) (sets [(E.HbmState, 2)] d))
def s297 : State := wk fun d => ((Dev.modHbm fun h => { h with errs := [(5, 5)], patrolAt := 8 }) (sets [(E.HbmState, 2)] d))
def s298 : State := wk fun d => ((Dev.modHbm fun h => { h with soft := [5], errs := [((63 * 32 + 31) * 2 ^ 14 + 16383, 3)] }) (sets [(E.HbmState, 2), (E.RowRepairThreshold, 3)] d))
def s299 : State := wk fun d => (sets [(E.HbmState, 2), (E.BufferCellsReplaced, 1023)] d)
def s300 : State := wk fun d => (rows [(T.PoolQuotas, 1, 2 ^ 128 - 1)] (sets [(E.HbmState, 2)] d))
def s301 : State := wk fun d => ((Dev.setBuf (0) { owners := 2, last := 1 }) (rows [(T.PoolQuotas, 1, 2 ^ 128 - 1)] (sets [(E.HbmState, 2)] d)))
def s302 : State := wk fun d => ((Dev.modHbm fun h => { h with bufs := (List.range 8192).map fun i => (3 * 2 ^ 20 + i, { owners := 4, last := 2 }) }) (sets [(E.HbmState, 2)] d))
def s303 : State := wk fun d => ((Dev.setBuf (0) { owners := 2, last := 1 }) (sets [(E.HbmState, 2)] d))
def s304 : State := wk fun d => ((Dev.setBuf (0) { owners := 6, last := 2 }) (sets [(E.HbmState, 2)] d))
def s305 : State := wk fun d => ((Dev.setBuf (0) { owners := 6, last := 2, poisoned := true }) (sets [(E.HbmState, 2)] d))
def s306 : State := wk fun d => ((Dev.setBuf (5) { owners := 2 ^ 63, last := 63 }) (sets [(E.HbmState, 2)] d))

/-- A spilling queue whose next frame is f. -/
def spillState (f : Frame) : State :=
  wk fun d => Dev.setQueue 1599 [{ frame := 1 }, { frame := 1, part := 1 }] (Dev.setFrame 1 f (sets [(E.HbmState, 2)] d))

theorem frameOfLen (n : Nat) : ∃ f : Frame, f.tail = 1 ∧ f.len = n + 4 :=
  ⟨{ port := 3, pl := 0, bytes := List.replicate n 0, x := 0, time := 0, tick := 0, oport := 3, ox := 0, tail := 1 }, rfl, by simp [Frame.len]⟩

theorem noRoom (f : Frame) (h : f.len = 2 ^ 40 + 4) : ((spillState f).seen 5).spillFits 1599 (cdiv f.len 256) = false := by
  have q : ((spillState f).seen 5).net.queues = [(1599, [{ frame := 1 }, { frame := 1, part := 1 }])] := rfl
  simp [Dev.spillFits, Dev.hbmPart, Dev.queue, FMap.getD, FMap.get?, q, h, cdiv]

/-! ### Witnesses: for every clause of every statement, a state and operands that meet its hypotheses -/

theorem witness_OnlyItsBallsReachTheTap :
    (∃ (c : Instr) (s t : State), (∀ a b e f g, c ≠ .tapClock a b e f g) ∧ exec c s = .next t) ∧
    (∃ (s : State) (v : Tap), v = s.dev.tap) ∧
    (∃ (s : State) (v : Tap), v = s.dev.tap) ∧
    (∃ (s : State) (v : Tap), v = s.dev.tap ∧ v.fsm = .captureDr ∧ v.ir = 1) ∧
    (∃ (s : State) (v : Tap), v = s.dev.tap ∧ v.fsm = .captureDr ∧ (v.ir = 2 ∨ v.ir = 3 ∨ v.ir = 4 ∨ v.ir = 5)) ∧
    (∃ (s : State) (v : Tap), v = s.dev.tap ∧ v.fsm = .captureDr ∧ (v.ir = 2 ∨ v.ir = 3 ∨ v.ir = 4 ∨ v.ir = 5)) ∧
    (∃ (s : State) (v : Tap), v = s.dev.tap ∧ v.fsm = .shiftDr ∧ 6 ≤ v.ir) ∧
    (∃ (s : State) (v : Tap), v = s.dev.tap ∧ v.fsm = .shiftDr ∧ 6 ≤ v.ir) ∧
    (∃ (s : State) (v : Tap), v = s.dev.tap ∧ v.fsm = .shiftDr ∧ v.ir = 2) ∧
    (∃ (s : State) (v : Tap), v = s.dev.tap ∧ v.fsm = .shiftIr) :=
  ⟨⟨.supplyValid 5 [] true, wk fun d => { d with power := { d.power with phase := .off } }, _, by simp, rfl⟩,
   ⟨s0, ({ fsm := .shiftDr, ir := 2, drSh := 2 ^ 337 - 1 } : Tap), by decide +kernel⟩,
   ⟨s1, ({ fsm := .shiftDr, ir := 2 } : Tap), by decide +kernel⟩,
   ⟨s2, ({ fsm := .captureDr, ir := 1 } : Tap), by decide +kernel⟩,
   ⟨s3, ({ fsm := .captureDr, ir := 2 } : Tap), by decide +kernel⟩,
   ⟨s4, ({ fsm := .captureDr, ir := 5 } : Tap), by decide +kernel⟩,
   ⟨s5, ({ fsm := .shiftDr, ir := 6, drSh := 1 } : Tap), by decide +kernel⟩,
   ⟨s6, ({ fsm := .shiftDr, ir := 255, drSh := 1 } : Tap), by decide +kernel⟩,
   ⟨s0, ({ fsm := .shiftDr, ir := 2, drSh := 2 ^ 337 - 1 } : Tap), by decide +kernel⟩,
   ⟨s7, ({ fsm := .shiftIr, irSh := 255 } : Tap), by decide +kernel⟩⟩

theorem witness_OnlyItsBallsReachTheTap_2 :
    (∃ (s : State) (v : Tap), v = s.dev.tap ∧ v.fsm = .updateIr) ∧
    (∃ (s : State) (v : Tap), v = s.dev.tap ∧ v.fsm = .updateDr ∧ v.ir = 3) ∧
    (∃ (s : State) (v : Tap), v = s.dev.tap ∧ v.fsm = .shiftDr) ∧
    (∃ (s : State) (tdi : Bool) (pins : BitVec 337) (v : Tap) (e : _), v = s.dev.tap ∧ e = (fun q : Tap => q.edge true true tdi true pins.toNat)) ∧
    (∃ (s : State) (tdi : Bool) (pins : BitVec 337) (v : Tap) (e : _), v = s.dev.tap ∧ e = (fun q : Tap => q.edge true true tdi true pins.toNat)) ∧
    (∃ (s : State) (tdi : Bool) (pins : BitVec 337) (v : Tap) (e : _), v = s.dev.tap ∧ e = (fun q : Tap => q.edge true true tdi true pins.toNat)) ∧
    (∃ (s : State) (tdi : Bool) (pins : BitVec 337) (v : Tap) (e : _), v = s.dev.tap ∧ e = (fun q : Tap => q.edge true true tdi true pins.toNat)) ∧
    (∃ (s : State) (tdi : Bool) (pins : BitVec 337) (v : Tap) (e : _), v = s.dev.tap ∧ e = (fun q : Tap => q.edge true true tdi true pins.toNat)) ∧
    (∃ (s : State) (tdi : Bool) (pins : BitVec 337) (v : Tap) (e : _), v = s.dev.tap ∧ e = (fun q : Tap => q.edge true true tdi true pins.toNat)) :=
  ⟨⟨s8, ({ fsm := .updateIr, irSh := 255 } : Tap), by decide +kernel⟩,
   ⟨s9, ({ fsm := .updateDr, ir := 3, drSh := 2 ^ 337 - 1 } : Tap), by decide +kernel⟩,
   ⟨s10, ({ fsm := .shiftDr, ir := 2, drSh := 1 } : Tap), by decide +kernel⟩,
   ⟨s11, true, (BitVec.allOnes 337), ({ fsm := .shiftDr } : Tap), (fun q : Tap => q.edge true true true true (BitVec.allOnes 337).toNat), by decide +kernel, rfl⟩,
   ⟨s12, true, (BitVec.allOnes 337), ({ fsm := .pauseDr } : Tap), (fun q : Tap => q.edge true true true true (BitVec.allOnes 337).toNat), by decide +kernel, rfl⟩,
   ⟨s13, true, (BitVec.allOnes 337), ({ fsm := .updateIr } : Tap), (fun q : Tap => q.edge true true true true (BitVec.allOnes 337).toNat), by decide +kernel, rfl⟩,
   ⟨s14, true, (BitVec.allOnes 337), ({ fsm := .testLogicReset } : Tap), (fun q : Tap => q.edge true true true true (BitVec.allOnes 337).toNat), by decide +kernel, rfl⟩,
   ⟨s15, true, (BitVec.allOnes 337), ({ fsm := .captureIr } : Tap), (fun q : Tap => q.edge true true true true (BitVec.allOnes 337).toNat), by decide +kernel, rfl⟩,
   ⟨s16, true, (BitVec.allOnes 337), ({ fsm := .exit2Ir } : Tap), (fun q : Tap => q.edge true true true true (BitVec.allOnes 337).toNat), by decide +kernel, rfl⟩⟩

theorem witness_ResetState :
    (∃ d : Dev, d = State.reset.dev) ∧
    (∃ (d : _), d = State.reset.dev) ∧
    (∃ (d : _) (p : _), d = State.reset.dev ∧ p < 96) :=
  ⟨⟨_, rfl⟩,
   ⟨State.reset.dev, by decide +kernel⟩,
   ⟨State.reset.dev, 95, by decide +kernel⟩⟩

theorem witness_TimeWritesRefused :
    (∃ (s : State) (x : Nat) (i : Nat) (r : Requester) (d : Dev) (v : _), s.Runs ∧ d = s.seen x ∧ i < 2 ∧ d.accepts r (E.SetTime i) v ∧ d.get (E.DomainState i) ≠ 0 ∧ (d.domainSt i).pend.reacquire = false) ∧
    (∃ (s : State) (x : Nat) (i : Nat) (r : Requester) (d : Dev) (w : Int) (e : EntrySpec), s.Runs ∧ d = s.seen x ∧ i < 2 ∧ d.finds r (putOp (E.RateWord i) (enc 64 w)) (.entry e) = true ∧ (sgn 64 (enc 64 w) < -281474976710 ∨ 281474976710 < sgn 64 (enc 64 w))) ∧
    (∃ (s : State) (x : Nat) (i : Nat) (r : Requester) (d : Dev) (w : Int) (e : EntrySpec), s.Runs ∧ d = s.seen x ∧ i < 2 ∧ d.finds r (putOp (E.RateWord i) (enc 64 w)) (.entry e) = true ∧ (sgn 64 (enc 64 w) < -281474976710 ∨ 281474976710 < sgn 64 (enc 64 w))) :=
  ⟨⟨s17, 5, 1, m0, s17.seen 5, 5, rfl, rfl, by decide +kernel, takesB_sound (by decide +kernel), by decide +kernel⟩,
   ⟨s18, 5, 1, m0, s18.seen 5, (-281474976711 : Int), sp (E.RateWord 1 / 256) (E.RateWord 1 % 256), rfl, rfl, by decide +kernel⟩,
   ⟨s18, 5, 1, m0, s18.seen 5, (281474976711 : Int), sp (E.RateWord 1 / 256) (E.RateWord 1 % 256), rfl, rfl, by decide +kernel⟩⟩

theorem witness_StagedReads :
    (∃ (s : State) (x : Nat) (idx : Nat) (sub : Nat) (k : Nat) (r : Requester) (e : EntrySpec) (d : Dev), s.Runs ∧ d = s.seen x ∧ idx < 65536 ∧ sub < 256 ∧ k = entryKey idx sub ∧ d.finds r { opcode := 3, idx, sub } (.entry e) = true ∧ e.acc = .rwt ∧ e.ty.bytes ≠ 0 ∧ FMap.wf d.commit.stage.scal = true ∧ (∀ b ∈ d.commit.batches, FMap.wf b.st.scal = true) ∧ d.finds r { opcode := 1, idx, sub } (.entry e) = true) ∧
    (∃ (s : State) (x : Nat) (idx : Nat) (sub : Nat) (k : Nat) (v : Nat) (r : Requester) (e : EntrySpec) (d : Dev), s.Runs ∧ d = s.seen x ∧ idx < 65536 ∧ sub < 256 ∧ k = entryKey idx sub ∧ d.finds r { opcode := 3, idx, sub } (.entry e) = true ∧ e.acc = .rwt ∧ e.ty.bytes ≠ 0 ∧ FMap.wf d.commit.stage.scal = true ∧ (∀ b ∈ d.commit.batches, FMap.wf b.st.scal = true) ∧ d.commit.stage.scal.get? k = some v) ∧
    (∃ (s : State) (x : Nat) (idx : Nat) (sub : Nat) (k : Nat) (v : Nat) (r : Requester) (e : EntrySpec) (d : Dev) (l : List Batch) (b : Batch) (m : _), s.Runs ∧ d = s.seen x ∧ idx < 65536 ∧ sub < 256 ∧ k = entryKey idx sub ∧ d.finds r { opcode := 3, idx, sub } (.entry e) = true ∧ e.acc = .rwt ∧ e.ty.bytes ≠ 0 ∧ FMap.wf d.commit.stage.scal = true ∧ (∀ b ∈ d.commit.batches, FMap.wf b.st.scal = true) ∧ d.commit.stage.scal.get? k = none ∧ d.commit.batches = l ++ b :: m ∧ b.st.scal.get? k = some v ∧ (∀ a ∈ m, b.tick < a.tick ∧ a.st.scal.get? k = none)) ∧
    (∃ (s : State) (x : Nat) (idx : Nat) (sub : Nat) (k : Nat) (r : Requester) (e : EntrySpec) (d : Dev), s.Runs ∧ d = s.seen x ∧ idx < 65536 ∧ sub < 256 ∧ k = entryKey idx sub ∧ d.finds r { opcode := 3, idx, sub } (.entry e) = true ∧ e.acc = .rwt ∧ e.ty.bytes ≠ 0 ∧ FMap.wf d.commit.stage.scal = true ∧ (∀ b ∈ d.commit.batches, FMap.wf b.st.scal = true) ∧ d.commit.stage.scal.get? k = none ∧ (∀ b ∈ d.commit.batches, b.st.scal.get? k = none)) :=
  ⟨⟨s18, 5, (E.TickPhase) / 256, (E.TickPhase) % 256, E.TickPhase, m0, sp (E.TickPhase / 256) (E.TickPhase % 256), s18.seen 5, rfl, rfl, by decide +kernel⟩,
   ⟨s19, 5, (E.TickPhase) / 256, (E.TickPhase) % 256, E.TickPhase, 7, m0, sp (E.TickPhase / 256) (E.TickPhase % 256), s19.seen 5, rfl, rfl, by decide +kernel⟩,
   ⟨s20, 5, (E.TickPhase) / 256, (E.TickPhase) % 256, E.TickPhase, 7, m0, sp (E.TickPhase / 256) (E.TickPhase % 256), s20.seen 5, ([] : List Batch), ({ id := 1, tick := 5, asked := 5, flip := false, lateOk := false, late := false, master := 1, arrival := 0, st := ({ scal := [(E.TickPhase, 7)], rows := [] } : Staged) } : Batch), [({ id := 2, tick := 6, asked := 6, flip := false, lateOk := false, late := false, master := 1, arrival := 0, st := ({ scal := [], rows := [] } : Staged) } : Batch)], rfl, rfl, by decide +kernel⟩,
   ⟨s21, 5, (E.TickPhase) / 256, (E.TickPhase) % 256, E.TickPhase, m0, sp (E.TickPhase / 256) (E.TickPhase % 256), s21.seen 5, rfl, rfl, by decide +kernel⟩⟩

theorem witness_GatesOpenByTheirTick :
    (∃ (d : Dev) (g : Nat) (row : Nat) (c : Nat), c = Row.StreamGates.cycleTicks row ∧ 1 ≤ c ∧ Row.StreamGates.valid row = 1 ∧ bit (d.row T.GateLatched g) 7 = false) ∧
    (∃ (d : Dev) (g : Nat) (row : Nat) (c : Nat), c = Row.StreamGates.cycleTicks row ∧ 1 ≤ c ∧ Row.StreamGates.valid row = 1 ∧ bit (d.row T.GateLatched g) 7 = false ∧ Row.StreamGates.openLen row = c) ∧
    (∃ (row : Nat) (c : Nat), c = Row.StreamGates.cycleTicks row ∧ 1 ≤ c ∧ Row.StreamGates.openLen row = 0) ∧
    (∃ (row : Nat) (c : Nat), c = Row.StreamGates.cycleTicks row ∧ 1 ≤ c ∧ Row.StreamGates.valid row = 0) ∧
    (∃ (d : Dev) (g : Nat) (row : Nat) (c : Nat), c = Row.StreamGates.cycleTicks row ∧ 1 ≤ c ∧ bit (d.row T.GateLatched g) 7 = true) :=
  ⟨⟨State.reset.dev, 16383, 0x8000100000080000, 1, by decide +kernel⟩,
   ⟨State.reset.dev, 16383, 0x8000100000080000, 1, by decide +kernel⟩,
   ⟨0x8000100000000000, 1, by decide +kernel⟩,
   ⟨0x100000080000, 1, by decide +kernel⟩,
   ⟨State.reset.dev.setRow T.GateLatched 16383 0x80, 16383, 0x8000100000080000, 1, by decide +kernel⟩⟩

theorem witness_YardEntriesAndLines :
    (∃ (s : State) (x : Nat) (l : Nat) (r : Requester) (d : Dev) (tick : _) (offq : _) (width : _), s.Runs ∧ d = s.seen x ∧ l < 56 ∧ d.acceptsDom r E.YardEventPush (toBE 1 l ++ [0, 0, 0] ++ toBE 8 tick ++ toBE 4 offq ++ toBE 4 width) ∧ d.isOutput l = true ∧ d.yardSafe = false ∧ 4 ≤ width ∧ width ≤ 16777215 ∧ offq < d.period * 8 ∧ tick ≤ d.tickNow + 65536 ∧ tick < 2 ^ 64 ∧ offq < 2 ^ 32 ∧ d.outTime + 131072000 ≤ (d.tickStart tick : Int) * 65536 + offq * 8192 ∧ Row.YardLines.minPeriodNs (d.yrow l) = 0 ∧ (d.line l).queue.length < 32) ∧
    (∃ (s : State) (x : Nat) (l : Nat) (r : Requester) (d : Dev), s.Runs ∧ d = s.seen x ∧ l < 56 ∧ d.accepts r E.YardEventFlush l) ∧
    (∃ (s : State) (x : Nat) (r : Requester) (d : Dev), s.Runs ∧ d = s.seen x ∧ d.accepts r E.YardSafeRequest 1) ∧
    (∃ (s : State) (x : Nat) (r : Requester) (d : Dev), s.Runs ∧ d = s.seen x ∧ d.accepts r E.YardSafeRelease 1) ∧
    (∃ (s : State) (x : Nat) (r : Requester) (d : Dev), s.Runs ∧ d = s.seen x ∧ d.accepts r E.YardSafeRelease 1) ∧
    (∃ (s : State) (x : Nat) (l : Nat) (d : Dev) (g : _) (start : Int), s.Runs ∧ d = s.seen x ∧ l < 56 ∧ g < 16 ∧ d.genTime g d.tickNow = some start ∧ d.time.tickRun = true ∧ start ≤ d.outTime ∧ d.yard.genTick.get? g ≠ some d.tickNow ∧ d.yardSafe = false) ∧
    (∃ (s : State) (x : Nat) (l : Nat) (d : Dev) (p : Pulse) (q : List Pulse), s.Runs ∧ d = s.seen x ∧ l < 56 ∧ (d.line l).queue = p :: q ∧ p.start ≤ d.outTime ∧ Row.YardLines.genValid (d.yrow l) = 0 ∧ d.lineOwned l = false) ∧
    (∃ (s : State) (x : Nat) (l : Nat) (d : Dev) (p : Pulse) (q : List Pulse), s.Runs ∧ d = s.seen x ∧ l < 56 ∧ (d.line l).queue = p :: q ∧ p.start ≤ d.outTime ∧ Row.YardLines.genValid (d.yrow l) = 0 ∧ d.lineOwned l = true ∧ d.startPasses l p = true ∧ d.groupOf l = none ∧ d.yard.groups.all (fun e => e.2.queue.all fun q => q.1 != l) = true) ∧
    (∃ (s : State) (x : Nat) (l : Nat) (d : Dev) (g : _) (p : Pulse), s.Runs ∧ d = s.seen x ∧ l < 56 ∧ (d.yard.groups.getD g {}).queue = [(l, p)] ∧ (d.yard.groups.getD g {}).last = none ∧ p.start ≤ d.outTime ∧ d.lineOwned l = true ∧ d.groupHolds g l p.start = false) ∧
    (∃ (s : State) (x : Nat) (l : Nat) (d : Dev), s.Runs ∧ d = s.seen x ∧ l < 56 ∧ (d.line l).active = true ∧ (d.line l).endT ≤ d.outTime) ∧
    (∃ (s : State) (x : Nat) (l : Nat) (d : Dev) (held : _), s.Runs ∧ d = s.seen x ∧ l < 56 ∧ Row.YardLines.mode (d.yrow l) = 2 ∧ Row.YardLines.edge (d.yrow l) = 2 ∧ Row.YardLines.gateValid (d.yrow l) = 0 ∧ Row.YardLines.deglitchNs (d.yrow l) ≤ held ∧ (d.line l).lastX = none) ∧
    (∃ (s : State) (x : Nat) (l : Nat) (d : Dev) (held : _) (x0 : _), s.Runs ∧ d = s.seen x ∧ l < 56 ∧ Row.YardLines.mode (d.yrow l) = 2 ∧ Row.YardLines.edge (d.yrow l) = 2 ∧ Row.YardLines.gateValid (d.yrow l) = 0 ∧ Row.YardLines.deglitchNs (d.yrow l) ≤ held ∧ (d.line l).lastX = some x0 ∧ d.now < x0 + 128) :=
  ⟨⟨s22, 5, 55, m0, s22.seen 5, 65536, 7, 16777215, rfl, rfl, by decide +kernel, takesB_sound (by decide +kernel), by decide +kernel⟩,
   ⟨s23, 5, 55, m0, s23.seen 5, rfl, rfl, by decide +kernel, takesB_sound (by decide +kernel)⟩,
   ⟨s18, 5, m0, s18.seen 5, rfl, rfl, takesB_sound (by decide +kernel)⟩,
   ⟨s18, 5, m0, s18.seen 5, rfl, rfl, takesB_sound (by decide +kernel)⟩,
   ⟨s24, 5, m0, s24.seen 5, rfl, rfl, takesB_sound (by decide +kernel)⟩,
   ⟨s25, 5, 55, s25.seen 5, 15, (0 : Int), rfl, rfl, by decide +kernel⟩,
   ⟨s26, 5, 55, s26.seen 5, (⟨0, 4, 0⟩ : Pulse), ([] : List Pulse), rfl, rfl, by decide +kernel⟩,
   ⟨s27, 5, 55, s27.seen 5, (⟨0, 4, 0⟩ : Pulse), ([] : List Pulse), rfl, rfl, by decide +kernel⟩,
   ⟨s28, 5, 55, s28.seen 5, 7, (⟨0, 4, 0⟩ : Pulse), rfl, rfl, by decide +kernel⟩,
   ⟨s29, 5, 55, s29.seen 5, rfl, rfl, by decide +kernel⟩,
   ⟨s30, 5, 55, s30.seen 5, 9, rfl, rfl, by decide +kernel⟩,
   ⟨s31, 127, 55, s31.seen 127, 9, 0, rfl, rfl, by decide +kernel⟩⟩

theorem witness_SetpointsAndLoops :
    (∃ (s : State) (x : Nat) (pp : Nat) (k : Nat) (d : Dev), s.Runs ∧ d = s.seen x ∧ pp < 8 ∧ k < 4 ∧ d.closed pp = true ∧ d.ppActive pp = true ∧ d.yard.evalTick.get? pp ≠ some d.nextTick) ∧
    (∃ (s : State) (x : Nat) (pp : Nat) (k : Nat) (d : Dev) (w : _), s.Runs ∧ d = s.seen x ∧ pp < 8 ∧ k < 4 ∧ w < 64 ∧ d.closed pp = true ∧ d.ppActive pp = true ∧ d.yard.evalTick.get? pp ≠ some d.nextTick) ∧
    (∃ (s : State) (x : Nat) (pp : Nat) (k : Nat) (d : Dev) (n : _) (status : _) (words : _) (crcs : _), s.Runs ∧ d = s.seen x ∧ pp < 8 ∧ k < 4 ∧ d.yard.busy.get? pp = some n ∧ d.transferOver pp n = true ∧ d.crcsRight pp status words crcs = true) ∧
    (∃ (s : State) (x : Nat) (pp : Nat) (k : Nat) (d : Dev) (n : _) (status : _) (words : _) (crcs : List Nat), s.Runs ∧ d = s.seen x ∧ pp < 8 ∧ k < 4 ∧ d.yard.busy.get? pp = some n ∧ d.transferOver pp n = true ∧ d.crcsRight pp status words crcs = false) ∧
    (∃ (s : State) (x : Nat) (pp : Nat) (k : Nat) (d : Dev) (w : BitVec 64), s.Runs ∧ d = s.seen x ∧ pp < 8 ∧ k < 4 ∧ d.loopPair (fld w.toNat 63 61) = some k ∧ d.suspended k = false) ∧
    (∃ (s : State) (x : Nat) (pp : Nat) (k : Nat) (d : Dev) (w : BitVec 64), s.Runs ∧ d = s.seen x ∧ pp < 8 ∧ k < 4 ∧ d.loopPair (fld w.toNat 63 61) ≠ some k) ∧
    (∃ (s : State) (x : Nat) (pp : Nat) (k : Nat) (d : Dev), s.Runs ∧ d = s.seen x ∧ pp < 8 ∧ k < 4 ∧ d.loopPair 0 = some k ∧ d.suspended k = false ∧ d.closed 0 = false ∧ d.yard.loopWords = []) ∧
    (∃ (s : State) (x : Nat) (pp : Nat) (k : Nat) (d : Dev), s.Runs ∧ d = s.seen x ∧ pp < 8 ∧ k < 4 ∧ d.loopPair 0 ≠ some k) ∧
    (∃ (s : State) (x : Nat) (pp : Nat) (k : Nat) (d : Dev), s.Runs ∧ d = s.seen x ∧ pp < 8 ∧ k < 4 ∧ d.suspended k = false ∧ d.get (E.LoopOverrunAction k) = 1 ∧ d.get (E.LoopOverrunLimit k) ≤ d.yard.loopRun.getD (k * 8 + pp) 0) ∧
    (∃ (s : State) (x : Nat) (pp : Nat) (k : Nat) (d : Dev), s.Runs ∧ d = s.seen x ∧ pp < 8 ∧ k < 4 ∧ d.suspended k = false ∧ d.get (E.LoopOverrunAction k) = 2 ∧ d.get (E.LoopOverrunLimit k) ≤ d.yard.loopRun.getD (k * 8 + pp) 0) :=
  ⟨⟨s32, 5, 7, 3, s32.seen 5, rfl, rfl, by decide +kernel⟩,
   ⟨s32, 5, 7, 3, s32.seen 5, 63, rfl, rfl, by decide +kernel⟩,
   ⟨s33, 5, 7, 3, s33.seen 5, 9, 0, List.replicate 64 (3 : Nat), [crc4 (lineBits false 0 ((s33.seen 5).diStatus (7) (0)) ((s33.seen 5).diWords (7) (List.replicate 64 (3 : Nat))))], rfl, rfl, by decide +kernel⟩,
   ⟨s33, 5, 7, 3, s33.seen 5, 9, 0, List.replicate 64 (3 : Nat), ([] : List Nat), rfl, rfl, by decide +kernel⟩,
   ⟨s34, 5, 7, 3, s34.seen 5, (0xE3F00000FFFFFFFF : BitVec 64), rfl, rfl, by decide +kernel⟩,
   ⟨s35, 5, 7, 3, s35.seen 5, (0xE3F00000FFFFFFFF : BitVec 64), rfl, rfl, by decide +kernel⟩,
   ⟨s36, 5, 7, 3, s36.seen 5, rfl, rfl, by decide +kernel⟩,
   ⟨s37, 5, 7, 3, s37.seen 5, rfl, rfl, by decide +kernel⟩,
   ⟨s38, 5, 7, 3, s38.seen 5, rfl, rfl, by decide +kernel⟩,
   ⟨s39, 5, 7, 3, s39.seen 5, rfl, rfl, by decide +kernel⟩⟩

theorem witness_HbmAndPowerEntries :
    (∃ (s : State) (x : Nat) (r : Requester) (d : Dev), s.Runs ∧ d = s.seen x ∧ d.accepts r E.HbmRetrain 1 ∧ d.get E.HbmState ≠ 1 ∧ d.get E.HbmState ≠ 5) ∧
    (∃ (s : State) (x : Nat) (r : Requester) (d : Dev), s.Runs ∧ d = s.seen x ∧ d.accepts r E.HbmRetrain 1 ∧ d.get E.HbmState ≠ 1 ∧ d.get E.HbmState ≠ 5) ∧
    (∃ (s : State) (x : Nat) (r : Requester) (d : Dev), s.Runs ∧ d = s.seen x ∧ d.accepts r E.HbmRetrain 1 ∧ d.get E.HbmState = 1) ∧
    (∃ (s : State) (x : Nat) (r : Requester) (d : Dev), s.Runs ∧ d = s.seen x ∧ d.accepts r E.HbmOffline 1 ∧ d.get E.HbmState = 2) ∧
    (∃ (s : State) (x : Nat) (r : Requester) (d : Dev), s.Runs ∧ d = s.seen x ∧ d.accepts r E.HbmOffline 1 ∧ d.get E.HbmState ≠ 2) ∧
    (∃ (s : State) (x : Nat) (v : Nat) (r : Requester) (d : Dev), s.Runs ∧ d = s.seen x ∧ d.accepts r E.StoreImage v ∧ d.power.storing = false) ∧
    (∃ (s : State) (x : Nat) (v : Nat) (r : Requester) (d : Dev), s.Runs ∧ d = s.seen x ∧ d.accepts r E.StoreImage v ∧ d.power.storing = true) ∧
    (∃ (s : State) (x : Nat) (d : Dev), s.Runs ∧ d = s.seen x ∧ d.power.storing = true) ∧
    (∃ (s : State) (x : Nat) (v : Nat) (r : Requester) (d : Dev), s.Runs ∧ d = s.seen x ∧ d.accepts r E.ShedExit v ∧ d.get E.PowerMode = 1) ∧
    (∃ (s : State) (x : Nat) (v : Nat) (r : Requester) (d : Dev), s.Runs ∧ d = s.seen x ∧ d.accepts r E.ShedExit v ∧ d.get E.PowerMode ≠ 1) ∧
    (∃ (s : State) (x : Nat) (v : Nat) (r : Requester) (d : Dev), s.Runs ∧ d = s.seen x ∧ d.accepts r E.ShedRequest v ∧ d.get E.PowerMode ≠ 1) ∧
    (∃ (s : State) (x : Nat) (v : Nat) (r : Requester) (d : Dev), s.Runs ∧ d = s.seen x ∧ d.accepts r E.StabledRequest v ∧ d.power.stabling = none ∧ d.power.t0 + 8000000 ≤ d.now) :=
  ⟨⟨s40, 5, m0, s40.seen 5, rfl, rfl, takesB_sound (by decide +kernel), by decide +kernel⟩,
   ⟨s18, 5, m0, s18.seen 5, rfl, rfl, takesB_sound (by decide +kernel), by decide +kernel⟩,
   ⟨s41, 5, m0, s41.seen 5, rfl, rfl, takesB_sound (by decide +kernel), by decide +kernel⟩,
   ⟨s40, 5, m0, s40.seen 5, rfl, rfl, takesB_sound (by decide +kernel), by decide +kernel⟩,
   ⟨s18, 5, m0, s18.seen 5, rfl, rfl, takesB_sound (by decide +kernel), by decide +kernel⟩,
   ⟨s18, 5, 0x53544F52, m0, s18.seen 5, rfl, rfl, takesB_sound (by decide +kernel), by decide +kernel⟩,
   ⟨s42, 5, 0x53544F52, m0, s42.seen 5, rfl, rfl, takesB_sound (by decide +kernel), by decide +kernel⟩,
   ⟨s42, 5, s42.seen 5, rfl, rfl, by decide +kernel⟩,
   ⟨s43, 5, 1, m0, s43.seen 5, rfl, rfl, takesB_sound (by decide +kernel), by decide +kernel⟩,
   ⟨s18, 5, 1, m0, s18.seen 5, rfl, rfl, takesB_sound (by decide +kernel), by decide +kernel⟩,
   ⟨s18, 5, 1, m0, s18.seen 5, rfl, rfl, takesB_sound (by decide +kernel), by decide +kernel⟩,
   ⟨s18, 8000000, 1, m0, s18.seen 8000000, rfl, rfl, takesB_sound (by decide +kernel), by decide +kernel⟩⟩

theorem witness_FirmwareEntries :
    (∃ (s : State) (x : Nat) (r : Requester) (d : Dev), s.Runs ∧ d = s.seen x ∧ d.accepts r E.SwapPrepare 1 ∧ d.get (E.BankState d.standbyBank) = 1 ∧ d.bankOpen d.standbyBank = false) ∧
    (∃ (s : State) (x : Nat) (r : Requester) (d : Dev), s.Runs ∧ d = s.seen x ∧ d.accepts r E.SwapPrepare 1 ∧ d.get (E.BankState d.standbyBank) ≠ 1) ∧
    (∃ (s : State) (x : Nat) (v : Nat) (r : Requester) (d : Dev), s.Runs ∧ d = s.seen x ∧ d.accepts r E.SwapRequest v ∧ d.get E.SwapState = 2 ∧ d.tickNow + 2 ≤ v ∧ d.fwRunning = false) ∧
    (∃ (s : State) (x : Nat) (v : Nat) (r : Requester) (d : Dev), s.Runs ∧ d = s.seen x ∧ d.accepts r E.SwapRequest v ∧ v < d.tickNow + 2) ∧
    (∃ (s : State) (x : Nat) (r : Requester) (d : Dev), s.Runs ∧ d = s.seen x ∧ d.accepts r E.HandoffReady 1 ∧ 1 ≤ r.master ∧ r.master ≤ 4) ∧
    (∃ (s : State) (x : Nat) (r : Requester) (d : Dev), s.Runs ∧ d = s.seen x ∧ d.accepts r E.HandoffReady 1 ∧ 1 ≤ r.master ∧ r.master ≤ 4) ∧
    (∃ (s : State) (x : Nat) (r : Requester) (d : Dev), s.Runs ∧ d = s.seen x ∧ d.accepts r E.BankConfirm 1 ∧ d.fw.trial = true) ∧
    (∃ (s : State) (x : Nat) (v : Nat) (r : Requester) (d : Dev), s.Runs ∧ d = s.seen x ∧ v < 4 ∧ d.accepts r E.KeyRevoke v ∧ ((List.range 4).any fun k => k != v && d.get (E.KeySlotStatus k) == 1) = true ∧ ((d.fw.banks.get? (d.get E.ConfirmedBank)).map (·.keySlot) == some v) = false) ∧
    (∃ (s : State) (x : Nat) (v : Nat) (r : Requester) (d : Dev) (h : BankHdr), s.Runs ∧ d = s.seen x ∧ d.accepts r E.RollbackCommit v ∧ d.fw.banks.get? (d.get E.ConfirmedBank) = some h ∧ d.get E.RollbackLevel < v ∧ v ≤ h.rollback) ∧
    (∃ (s : State) (x : Nat) (v : Nat) (r : Requester) (d : Dev) (h : BankHdr), s.Runs ∧ d = s.seen x ∧ d.accepts r E.RollbackCommit v ∧ d.fw.banks.get? (d.get E.ConfirmedBank) = some h ∧ v ≤ d.get E.RollbackLevel) ∧
    (∃ (s : State) (x : Nat) (r : Requester) (d : Dev) (k : _), s.Runs ∧ d = s.seen x ∧ k < 4 ∧ d.accepts r (E.LoopResume k) 1) :=
  ⟨⟨s44, 5, m0, s44.seen 5, rfl, rfl, takesB_sound (by decide +kernel), by decide +kernel⟩,
   ⟨s45, 5, m0, s45.seen 5, rfl, rfl, takesB_sound (by decide +kernel), by decide +kernel⟩,
   ⟨s46, 5, 2, m0, s46.seen 5, rfl, rfl, takesB_sound (by decide +kernel), by decide +kernel⟩,
   ⟨s46, 5, 1, m0, s46.seen 5, rfl, rfl, takesB_sound (by decide +kernel), by decide +kernel⟩,
   ⟨s47, 5, m0, s47.seen 5, rfl, rfl, takesB_sound (by decide +kernel), by decide +kernel⟩,
   ⟨s18, 5, m0, s18.seen 5, rfl, rfl, takesB_sound (by decide +kernel), by decide +kernel⟩,
   ⟨s48, 5, m0, s48.seen 5, rfl, rfl, takesB_sound (by decide +kernel), by decide +kernel⟩,
   ⟨s49, 5, 3, (⟨0x10, 0⟩ : Requester), s49.seen 5, rfl, rfl, by decide +kernel, takesB_sound (by decide +kernel), by decide +kernel⟩,
   ⟨s50, 5, 5, (⟨0x10, 0⟩ : Requester), s50.seen 5, (⟨1, 5, 0, 3⟩ : BankHdr), rfl, rfl, takesB_sound (by decide +kernel), by decide +kernel⟩,
   ⟨s50, 5, 4, (⟨0x10, 0⟩ : Requester), s50.seen 5, (⟨1, 5, 0, 3⟩ : BankHdr), rfl, rfl, takesB_sound (by decide +kernel), by decide +kernel⟩,
   ⟨s18, 5, m0, s18.seen 5, 3, rfl, rfl, by decide +kernel, takesB_sound (by decide +kernel)⟩⟩

theorem witness_FaultEntries :
    (∃ (s : State) (x : Nat) (v : Nat) (r : Requester) (d : Dev), s.Runs ∧ d = s.seen x ∧ d.accepts r E.FaultNRelease v ∧ d.faults.nLow = true ∧ d.now < d.faults.nEnd) ∧
    (∃ (s : State) (x : Nat) (v : Nat) (r : Requester) (d : Dev), s.Runs ∧ d = s.seen x ∧ d.accepts r E.FaultNRelease v ∧ d.faults.nLow = true ∧ d.faults.nEnd ≤ d.now) ∧
    (∃ (s : State) (x : Nat) (v : Nat) (r : Requester) (d : Dev), s.Runs ∧ d = s.seen x ∧ d.accepts r E.FaultClassClear v) ∧
    (∃ (s : State) (x : Nat) (v : Nat) (r : Requester) (d : Dev), s.Runs ∧ d = s.seen x ∧ d.accepts r E.CaptureRearm v) ∧
    (∃ (s : State) (x : Nat) (v : Nat) (r : Requester) (d : Dev), s.Runs ∧ d = s.seen x ∧ d.accepts r E.PortShutClear v ∧ v < 64 ∧ bit (d.get E.PortShutLow) v = true) ∧
    (∃ (s : State) (x : Nat) (v : Nat) (r : Requester) (d : Dev), s.Runs ∧ d = s.seen x ∧ d.accepts r E.WdMgmtKick v ∧ 1 ≤ r.master ∧ r.master ≤ 4) ∧
    (∃ (s : State) (x : Nat) (v : Nat) (r : Requester) (d : Dev), s.Runs ∧ d = s.seen x ∧ d.accepts r E.WdMgmtKick v ∧ 1 ≤ r.master ∧ r.master ≤ 4) ∧
    (∃ (s : State) (x : Nat) (v : Nat) (r : Requester) (d : Dev), s.Runs ∧ d = s.seen x ∧ d.accepts r E.WdMgmtKick v ∧ 4 < r.master) ∧
    (∃ (s : State) (x : Nat) (v : Nat) (r : Requester) (d : Dev) (k : _), s.Runs ∧ d = s.seen x ∧ k < 4 ∧ d.accepts r (E.WdTickKick k) v ∧ (pairMasters k).contains r.master = true) :=
  ⟨⟨s51, 5, 1, m0, s51.seen 5, rfl, rfl, takesB_sound (by decide +kernel), by decide +kernel⟩,
   ⟨s52, 5, 1, m0, s52.seen 5, rfl, rfl, takesB_sound (by decide +kernel), by decide +kernel⟩,
   ⟨s53, 5, 127, m0, s53.seen 5, rfl, rfl, takesB_sound (by decide +kernel)⟩,
   ⟨s54, 5, 1, m0, s54.seen 5, rfl, rfl, takesB_sound (by decide +kernel)⟩,
   ⟨s55, 5, 63, m0, s55.seen 5, rfl, rfl, takesB_sound (by decide +kernel), by decide +kernel⟩,
   ⟨s18, 5, 1, m0, s18.seen 5, rfl, rfl, takesB_sound (by decide +kernel), by decide +kernel⟩,
   ⟨s18, 5, 1, (⟨4, 0⟩ : Requester), s18.seen 5, rfl, rfl, takesB_sound (by decide +kernel), by decide +kernel⟩,
   ⟨s18, 5, 1, (⟨8, 0⟩ : Requester), s18.seen 5, rfl, rfl, takesB_sound (by decide +kernel), by decide +kernel⟩,
   ⟨s18, 5, 1, (⟨0x0F, 0⟩ : Requester), s18.seen 5, 3, rfl, rfl, by decide +kernel, takesB_sound (by decide +kernel), by decide +kernel⟩⟩

theorem witness_TimeEntries :
    (∃ (s : State) (x : Nat) (i : Nat) (v : Nat) (r : Requester) (d : Dev), s.Runs ∧ d = s.seen x ∧ i < 2 ∧ d.accepts r (E.SetTime i) v ∧ d.get (E.DomainState i) = 0) ∧
    (∃ (s : State) (x : Nat) (i : Nat) (r : Requester) (d : Dev) (w : Int), s.Runs ∧ d = s.seen x ∧ i < 2 ∧ d.accepts r (E.RateWord i) (enc 64 w) ∧ -281474976710 ≤ sgn 64 (enc 64 w) ∧ sgn 64 (enc 64 w) ≤ 281474976710) ∧
    (∃ (s : State) (x : Nat) (i : Nat) (r : Requester) (d : Dev) (w : Int), s.Runs ∧ d = s.seen x ∧ i < 2 ∧ d.accepts r (E.RateWord i) (enc 64 w) ∧ -281474976710 ≤ sgn 64 (enc 64 w) ∧ sgn 64 (enc 64 w) ≤ 281474976710) ∧
    (∃ (s : State) (x : Nat) (i : Nat) (r : Requester) (d : Dev) (w : Int), s.Runs ∧ d = s.seen x ∧ i < 2 ∧ d.accepts r (E.PhaseAdjust i) (enc 64 w)) ∧
    (∃ (s : State) (x : Nat) (i : Nat) (v : Nat) (r : Requester) (d : Dev), s.Runs ∧ d = s.seen x ∧ i < 2 ∧ d.accepts r (E.Reacquire i) v) ∧
    (∃ (s : State) (x : Nat) (i : Nat) (v : Nat) (r : Requester) (d : Dev), s.Runs ∧ d = s.seen x ∧ i < 2 ∧ d.accepts r E.OutputReacquire v) ∧
    (∃ (s : State) (x : Nat) (i : Nat) (v : Nat) (r : Requester) (d : Dev), s.Runs ∧ d = s.seen x ∧ i < 2 ∧ d.accepts r E.OutputDomain v) ∧
    (∃ (s : State) (x : Nat) (i : Nat) (v : Nat) (r : Requester) (d : Dev), s.Runs ∧ d = s.seen x ∧ i < 2 ∧ d.accepts r (E.ProfilePreset i) v) :=
  ⟨⟨s18, 5, 1, 5, m0, s18.seen 5, rfl, rfl, by decide +kernel, takesB_sound (by decide +kernel), by decide +kernel⟩,
   ⟨s18, 5, 1, m0, s18.seen 5, (-281474976710 : Int), rfl, rfl, by decide +kernel, takesB_sound (by decide +kernel), by decide +kernel⟩,
   ⟨s18, 5, 1, m0, s18.seen 5, (281474976710 : Int), rfl, rfl, by decide +kernel, takesB_sound (by decide +kernel), by decide +kernel⟩,
   ⟨s18, 5, 1, m0, s18.seen 5, (-7 : Int), rfl, rfl, by decide +kernel, takesB_sound (by decide +kernel)⟩,
   ⟨s18, 5, 1, 1, m0, s18.seen 5, rfl, rfl, by decide +kernel, takesB_sound (by decide +kernel)⟩,
   ⟨s18, 5, 1, 1, m0, s18.seen 5, rfl, rfl, by decide +kernel, takesB_sound (by decide +kernel)⟩,
   ⟨s18, 5, 1, 1, m0, s18.seen 5, rfl, rfl, by decide +kernel, takesB_sound (by decide +kernel)⟩,
   ⟨s18, 5, 1, 1, m0, s18.seen 5, rfl, rfl, by decide +kernel, takesB_sound (by decide +kernel)⟩⟩

theorem witness_AlwaysOnDomain :
    (∃ (s : State) (x : Nat) (d : Dev), d = s.seen x ∧ d.power.phase = .off) ∧
    (∃ (s : State) (x : Nat) (d : Dev), d = s.seen x ∧ d.power.phase = .stabled ∧ d.power.awaiting = true) ∧
    (∃ (s : State) (x : Nat) (d : Dev), d = s.seen x) ∧
    (∃ (s : State) (x : Nat) (d : Dev), d = s.seen x) ∧
    (∃ (s : State) (x : Nat) (d : Dev) (c : _) (mv : _), d = s.seen x ∧ c < 4 ∧ d.power.phase ≠ .off ∧ Row.AonComparators.valid (d.row T.AonComparators c) = 1 ∧ Row.AonComparators.highMv (d.row T.AonComparators c) < min 1800 (mv / 2 * 2) ∧ Row.AonComparators.lowMv (d.row T.AonComparators c) ≤ min 1800 (mv / 2 * 2)) ∧
    (∃ (s : State) (x : Nat) (d : Dev) (a : _), d = s.seen x ∧ a < 4 ∧ d.power.phase ≠ .off ∧ Row.TimeAlarms.valid (d.row T.TimeAlarms a) = 1 ∧ Row.TimeAlarms.fired (d.row T.TimeAlarms a) = 0 ∧ (fromTimex (d.row T.TimeAlarms a % 2 ^ 96) : Int) ≤ d.time.out.at d.aonX) ∧
    (∃ (s : State) (x : Nat) (d : Dev) (us : _), d = s.seen x ∧ d.power.phase ≠ .off ∧ d.get E.LinkEnergyUs ≤ us) ∧
    (∃ (s : State) (x : Nat) (d : Dev), d = s.seen x ∧ d.power.alive = false) ∧
    (∃ (s : State) (x : Nat) (d : Dev) (c : _), d = s.seen x ∧ d.power.phase = .stabled ∧ d.power.awaiting = false ∧ d.wakePresent c = true) ∧
    (∃ (s : State) (x : Nat) (d : Dev) (c : _), d = s.seen x ∧ d.power.phase = .stabled ∧ d.power.awaiting = false ∧ d.wakePresent c = true) :=
  ⟨⟨s56, 5, s56.seen 5, rfl, by decide +kernel⟩,
   ⟨s57, 5, s57.seen 5, rfl, by decide +kernel⟩,
   ⟨s18, 5, s18.seen 5, rfl⟩,
   ⟨s56, 5, s56.seen 5, rfl⟩,
   ⟨s58, 5, s58.seen 5, 3, 1301, rfl, by decide +kernel⟩,
   ⟨s59, 5, s59.seen 5, 3, rfl, by decide +kernel⟩,
   ⟨s60, 5, s60.seen 5, 7, rfl, by decide +kernel⟩,
   ⟨s61, 5, s61.seen 5, rfl, by decide +kernel⟩,
   ⟨s62, 5, s62.seen 5, 1, rfl, by decide +kernel⟩,
   ⟨s61, 5, s61.seen 5, 5, rfl, by decide +kernel⟩⟩

theorem witness_FaultNTimeoutsAndWatchdogs :
    (∃ (s : State) (x : Nat) (d : Dev), d = s.seen x ∧ s.Runs) ∧
    (∃ (s : State) (x : Nat) (d : Dev), d = s.seen x ∧ d.faults.nLow = true ∧ d.faults.nEnd ≤ d.now ∧ d.faults.nWait = true) ∧
    (∃ (s : State) (x : Nat) (d : Dev), d = s.seen x ∧ d.faults.nLow = true ∧ d.faults.nEnd ≤ d.now ∧ d.faults.nWait = true) ∧
    (∃ (s : State) (x : Nat) (d : Dev), d = s.seen x ∧ d.faults.nLow = true ∧ d.faults.nEnd ≤ d.now ∧ d.faults.nWait = false) ∧
    (∃ (s : State) (x : Nat) (d : Dev), s.Runs ∧ d = s.seen x ∧ d.wd.mgmtArmed = true ∧ d.wd.mgmtKick + 8000000 * d.get E.WdMgmtMs ≤ d.now) ∧
    (∃ (s : State) (x : Nat) (d : Dev) (e : _), s.Runs ∧ d = s.seen x ∧ d.wd.expired = some e ∧ e + 80000000 ≤ d.now ∧ d.getB E.WdMgmtRestart = true ∧ d.wd.restarts = [] ∧ 1 ≤ d.get E.WdRestartLimit ∧ d.get E.ActiveBank ≠ 0xFF) ∧
    (∃ (s : State) (x : Nat) (d : Dev) (k : _), s.Runs ∧ d = s.seen x ∧ d.wd.tickArmed.contains k = true ∧ d.get (E.WdTickTicks k) ≠ 0 ∧ d.get (E.WdTickTicks k) ≤ d.wd.tickCount.getD k 0) ∧
    (∃ (s : State) (x : Nat) (d : Dev), s.Runs ∧ d = s.seen x ∧ d.wd.hostArmed = true ∧ d.get E.HostWdTicks ≠ 0 ∧ d.get E.HostWdTicks ≤ d.wd.hostCount) ∧
    (∃ (s : State) (x : Nat) (d : Dev), s.Runs ∧ d = s.seen x) :=
  ⟨⟨s18, 5, s18.seen 5, rfl, rfl⟩,
   ⟨s63, 5, s63.seen 5, rfl, by decide +kernel⟩,
   ⟨s64, 5, s64.seen 5, rfl, by decide +kernel⟩,
   ⟨s52, 5, s52.seen 5, rfl, by decide +kernel⟩,
   ⟨s65, 8000000, s65.seen 8000000, rfl, rfl, by decide +kernel⟩,
   ⟨s66, 80000000, s66.seen 80000000, 0, rfl, rfl, by decide +kernel⟩,
   ⟨s67, 5, s67.seen 5, 3, rfl, rfl, by decide +kernel⟩,
   ⟨s68, 5, s68.seen 5, rfl, rfl, by decide +kernel⟩,
   ⟨s69, 5, s69.seen 5, rfl, rfl⟩⟩

theorem witness_FaultIsCountedAndLogged :
    (∃ (s : State) (x : Nat) (d : Dev) (q : FaultReport) (cls : Nat), s.Runs ∧ d = s.seen x ∧ q.source < 4096 ∧ classOf q.source = some cls ∧ d.row T.FaultReactions q.source = 0 ∧ d.faults.logged = []) :=
  ⟨s70, 5, s70.seen 5, ({ source := Src.portCalFailed, addr := 7, master := 0x39, access := 0 } : FaultReport), ((classOf Src.portCalFailed).getD 9), rfl, rfl, by decide +kernel⟩

theorem witness_PpsAndPll :
    (∃ (s : State) (x : Nat) (i : Nat) (d : Dev) (rising : _), s.Runs ∧ d = s.seen x ∧ i < 2 ∧ d.getB (E.InEnable i) = true ∧ rising = (d.get (E.InEdge i) == 0)) ∧
    (∃ (s : State) (x : Nat) (i : Nat) (d : Dev) (rising : _), s.Runs ∧ d = s.seen x ∧ i < 2 ∧ d.getB (E.InEnable i) = true ∧ rising = (d.get (E.InEdge i) == 0)) ∧
    (∃ (s : State) (x : Nat) (i : Nat) (d : Dev) (l : _), s.Runs ∧ d = s.seen x ∧ i < 2 ∧ (d.ppsIn i).last = some l ∧ d.getB (E.InEnable i) = true ∧ l + 8008000000 ≤ d.now) ∧
    (∃ (s : State) (x : Nat) (i : Nat) (d : Dev) (v : Int) (sec : Int) (q : Int), s.Runs ∧ d = s.seen x ∧ i < 2 ∧ d.ppsSource i = some v ∧ (v - sgn 32 (d.get (E.OutOffset i)) * 65536) / 65536000000000 = sec ∧ (d.ppsOut i).lastSec = some q ∧ q < sec ∧ d.ppsGated i = false) ∧
    (∃ (s : State) (x : Nat) (i : Nat) (d : Dev), s.Runs ∧ d = s.seen x ∧ i < 2 ∧ (d.ppsSource i).isSome = true ∧ (d.ppsOut i).lastSec = none) ∧
    (∃ (s : State) (x : Nat) (i : Nat) (d : Dev), s.Runs ∧ d = s.seen x ∧ i < 2 ∧ (d.ppsOut i).level = true ∧ (d.ppsOut i).endX ≤ d.now) ∧
    (∃ (s : State) (x : Nat) (d : Dev), s.Runs ∧ d = s.seen x ∧ d.get E.PllRefSelect ≠ 0 ∧ d.get E.PllState ≠ 3) ∧
    (∃ (s : State) (x : Nat) (d : Dev), s.Runs ∧ d = s.seen x ∧ d.get E.PllRefSelect ≠ 0 ∧ d.get E.PllState ≠ 3) ∧
    (∃ (s : State) (x : Nat) (d : Dev), s.Runs ∧ d = s.seen x ∧ d.get E.PllRefSelect = 0) ∧
    (∃ (s : State) (x : Nat) (d : Dev), s.Runs ∧ d = s.seen x ∧ d.get E.PllRefSelect ≠ 0) ∧
    (∃ (s : State) (x : Nat) (d : Dev), s.Runs ∧ d = s.seen x ∧ d.get E.PllState = 2 ∧ 7 ≤ d.time.refRun) ∧
    (∃ (s : State) (x : Nat) (d : Dev), s.Runs ∧ d = s.seen x ∧ d.get E.PllState = 2 ∧ d.time.refRun < 7) :=
  ⟨⟨s71, 5, 1, s71.seen 5, true, rfl, rfl, by decide +kernel⟩,
   ⟨s72, 5, 1, s72.seen 5, false, rfl, rfl, by decide +kernel⟩,
   ⟨s73, 8008000000, 1, s73.seen 8008000000, 0, rfl, rfl, by decide +kernel⟩,
   ⟨s74, 0, 1, s74.seen 0, (0 : Int), (0 : Int), (-1 : Int), rfl, rfl, by decide +kernel⟩,
   ⟨s75, 5, 1, s75.seen 5, rfl, rfl, by decide +kernel⟩,
   ⟨s76, 5, 1, s76.seen 5, rfl, rfl, by decide +kernel⟩,
   ⟨s77, 5, s77.seen 5, rfl, rfl, by decide +kernel⟩,
   ⟨s78, 5, s78.seen 5, rfl, rfl, by decide +kernel⟩,
   ⟨s79, 5, s79.seen 5, rfl, rfl, by decide +kernel⟩,
   ⟨s80, 5, s80.seen 5, rfl, rfl, by decide +kernel⟩,
   ⟨s81, 5, s81.seen 5, rfl, rfl, by decide +kernel⟩,
   ⟨s82, 5, s82.seen 5, rfl, rfl, by decide +kernel⟩⟩

theorem witness_SilentServoHoldsOver :
    (∃ (s : State) (x : Nat) (i : Nat) (d : Dev), s.Runs ∧ d = s.seen x ∧ i < 2 ∧ d.get (E.DomainState i) = 1 ∧ d.get (E.ServoTimeout i) ≤ (d.domainSt i).quiet) ∧
    (∃ (s : State) (x : Nat) (i : Nat) (d : Dev), s.Runs ∧ d = s.seen x ∧ i < 2 ∧ d.get (E.DomainState i) = 1 ∧ (d.domainSt i).quiet < d.get (E.ServoTimeout i)) :=
  ⟨⟨s83, 5, 1, s83.seen 5, rfl, rfl, by decide +kernel⟩,
   ⟨s84, 5, 1, s84.seen 5, rfl, rfl, by decide +kernel⟩⟩

theorem witness_PortsComeUpAndServe :
    (∃ (s : State) (x : Nat) (p : Nat) (d : Dev), s.Runs ∧ d = s.seen x ∧ p < 96 ∧ d.power.forwarding = true ∧ d.get (E.PortState p) = 1 ∧ d.anUsed p = false) ∧
    (∃ (s : State) (x : Nat) (p : Nat) (d : Dev), s.Runs ∧ d = s.seen x ∧ p < 96 ∧ d.power.forwarding = true ∧ d.get (E.PortState p) = 1 ∧ d.anUsed p = true) ∧
    (∃ (s : State) (x : Nat) (p : Nat) (d : Dev), s.Runs ∧ d = s.seen x ∧ p < 96 ∧ (d.get (E.PortState p) = 2 ∨ d.get (E.PortState p) = 3)) ∧
    (∃ (s : State) (x : Nat) (p : Nat) (d : Dev), s.Runs ∧ d = s.seen x ∧ p < 96 ∧ (d.get (E.PortState p) = 2 ∨ d.get (E.PortState p) = 3)) ∧
    (∃ (s : State) (x : Nat) (p : Nat) (d : Dev) (partner : _) (m : _), s.Runs ∧ d = s.seen x ∧ p < 96 ∧ d.get (E.PortState p) = 2 ∧ d.anResolve p partner = some m) ∧
    (∃ (s : State) (x : Nat) (p : Nat) (d : Dev) (partner : _), s.Runs ∧ d = s.seen x ∧ p < 96 ∧ d.get (E.PortState p) = 2 ∧ d.anResolve p partner = none) ∧
    (∃ (s : State) (x : Nat) (p : Nat) (d : Dev), s.Runs ∧ d = s.seen x ∧ p < 96 ∧ d.get (E.PortState p) = 3) ∧
    (∃ (s : State) (x : Nat) (p : Nat) (d : Dev), s.Runs ∧ d = s.seen x ∧ p < 96 ∧ d.get (E.PortState p) = 3 ∧ d.anUsed p = true) :=
  ⟨⟨s85, 5, 95, s85.seen 5, rfl, rfl, by decide +kernel⟩,
   ⟨s86, 5, 95, s86.seen 5, rfl, rfl, by decide +kernel⟩,
   ⟨s87, 5, 95, s87.seen 5, rfl, rfl, by decide +kernel⟩,
   ⟨s88, 5, 95, s88.seen 5, rfl, rfl, by decide +kernel⟩,
   ⟨s89, 5, 95, s89.seen 5, 2 ^ 12 + 2 ^ 8, 12, rfl, rfl, by decide +kernel⟩,
   ⟨s90, 5, 95, s90.seen 5, 2 ^ 12, rfl, rfl, by decide +kernel⟩,
   ⟨s91, 5, 95, s91.seen 5, rfl, rfl, by decide +kernel⟩,
   ⟨s92, 5, 95, s92.seen 5, rfl, rfl, by decide +kernel⟩⟩

theorem witness_PortsComeUpAndServe_2 :
    (∃ (s : State) (x : Nat) (p : Nat) (d : Dev), s.Runs ∧ d = s.seen x ∧ p < 96 ∧ d.get (E.PortState p) = 4) ∧
    (∃ (s : State) (x : Nat) (p : Nat) (d : Dev), s.Runs ∧ d = s.seen x ∧ p < 96 ∧ d.get (E.PortState p) = 5 ∧ d.now < d.holdEnd p) ∧
    (∃ (s : State) (x : Nat) (p : Nat) (d : Dev), s.Runs ∧ d = s.seen x ∧ p < 96 ∧ d.get (E.PortState p) = 5 ∧ d.holdEnd p ≤ d.now) ∧
    (∃ (s : State) (x : Nat) (p : Nat) (d : Dev), s.Runs ∧ d = s.seen x ∧ p < 96 ∧ d.get (E.PortState p) = 4) ∧
    (∃ (s : State) (x : Nat) (p : Nat) (d : Dev), s.Runs ∧ d = s.seen x ∧ p < 96 ∧ d.get (E.PortState p) = 4 ∧ d.get (E.CalState p) = 1) ∧
    (∃ (s : State) (x : Nat) (p : Nat) (d : Dev), s.Runs ∧ d = s.seen x ∧ p < 96 ∧ d.get (E.VerifyStatus p) = 1) ∧
    (∃ (s : State) (x : Nat) (p : Nat) (d : Dev), s.Runs ∧ d = s.seen x ∧ p < 96 ∧ d.get (E.VerifyStatus p) = 2) :=
  ⟨⟨s93, 5, 95, s93.seen 5, rfl, rfl, by decide +kernel⟩,
   ⟨s94, 7999, 95, s94.seen 7999, rfl, rfl, by decide +kernel⟩,
   ⟨s94, 8000, 95, s94.seen 8000, rfl, rfl, by decide +kernel⟩,
   ⟨s95, 5, 95, s95.seen 5, rfl, rfl, by decide +kernel⟩,
   ⟨s96, 5, 95, s96.seen 5, rfl, rfl, by decide +kernel⟩,
   ⟨s97, 5, 95, s97.seen 5, rfl, rfl, by decide +kernel⟩,
   ⟨s98, 5, 95, s98.seen 5, rfl, rfl, by decide +kernel⟩⟩

theorem witness_StartLoadsTheDictionary :
    (∃ (s : State) (x : Nat) (d : Dev), s.Runs ∧ d = s.seen x ∧ d.power.loaded = false ∧ d.casc.waiting = false ∧ d.get E.BootSource = 3) ∧
    (∃ (s : State) (x : Nat) (flash : Nat) (d : Dev), s.Runs ∧ d = s.seen x ∧ d.power.loaded = false ∧ d.casc.waiting = false ∧ d.get E.BootSource = 1 ∧ 134217728 ≤ flash) ∧
    (∃ (s : State) (x : Nat) (flash : Nat) (d : Dev) (b : Bytes) (d' : _), s.Runs ∧ d = s.seen x ∧ d.power.loaded = false ∧ d.casc.waiting = false ∧ d.get E.BootSource = 0 ∧ 134217728 ≤ flash ∧ d.get E.CascadeRole = 0 ∧ imageSound b = true ∧ (d.store E.FlashBytes flash).imageApply (d.time.stableX != 0) b = .ok d') ∧
    (∃ (s : State) (x : Nat) (flash : Nat) (d : Dev) (b : Bytes), s.Runs ∧ d = s.seen x ∧ d.power.loaded = false ∧ d.casc.waiting = false ∧ d.get E.BootSource = 0 ∧ 134217728 ≤ flash ∧ d.get E.CascadeRole = 0 ∧ imageSound b = false) ∧
    (∃ (s : State) (x : Nat) (d : Dev), s.Runs ∧ d = s.seen x ∧ d.power.loaded = false ∧ d.casc.waiting = true ∧ d.power.t0 + 8000000 * d.get E.CascadeBootWaitMs ≤ d.now) :=
  ⟨⟨s99, 5, s99.seen 5, rfl, rfl, by decide +kernel⟩,
   ⟨s100, 5, 134217728, s100.seen 5, rfl, rfl, by decide +kernel⟩,
   (okOf (by decide +kernel)).elim fun q h => ⟨s101, 5, 134217728, s101.seen 5, ([74, 84, 68, 73, 0, 1, 0, 64, 0, 0, 0, 9, 0, 1, 0, 0, 1, 2, 3, 4, 5, 6, 7, 8] ++ List.replicate 36 0 ++ [29, 206, 61, 173, 0, 0, 0, 0] : Bytes), q, rfl, rfl, by decide +kernel, by decide +kernel, by decide +kernel, by decide +kernel, by decide +kernel, by decide +kernel, h⟩,
   ⟨s101, 5, 134217728, s101.seen 5, ([1] : Bytes), rfl, rfl, by decide +kernel⟩,
   ⟨s102, 8000000 * 1000, s102.seen (8000000 * 1000), rfl, rfl, by decide +kernel⟩⟩

theorem witness_CascadeMaster :
    (∃ (s : State) (x : Nat) (f : CascFrame) (d : Dev), s.Runs ∧ d = s.seen x ∧ d.get E.CascadeRole = 1 ∧ f.crc = cascCrc f ∧ cascPayloadOk f = true ∧ f.type = 1 ∧ d.get E.CascadeState ≠ 2 ∧ beAt f.payload 4 8 = d.get E.UniqueId ∧ beAt f.payload 0 1 ≠ 0xFE ∧ d.get E.CascadeNodeBase = 0 ∧ d.casc.images = []) ∧
    (∃ (s : State) (x : Nat) (f : CascFrame) (d : Dev), s.Runs ∧ d = s.seen x ∧ d.get E.CascadeRole = 1 ∧ f.crc = cascCrc f ∧ cascPayloadOk f = true ∧ f.type = 1 ∧ beAt f.payload 4 8 ≠ d.get E.UniqueId) ∧
    (∃ (s : State) (x : Nat) (d : Dev), s.Runs ∧ d = s.seen x ∧ d.get E.CascadeRole = 1 ∧ d.power.loaded = true ∧ d.get E.CascadeState ≠ 2 ∧ d.casc.enumX + 80000000 ≤ d.now ∧ d.casc.stopped = false) ∧
    (∃ (s : State) (x : Nat) (f : CascFrame) (d : Dev), s.Runs ∧ d = s.seen x ∧ d.get E.CascadeRole = 1 ∧ f.crc = cascCrc f ∧ cascPayloadOk f = true ∧ f.type = 4 ∧ beAt f.payload 0 1 ≠ 2) ∧
    (∃ (s : State) (x : Nat) (f : CascFrame) (d : Dev), s.Runs ∧ d = s.seen x ∧ d.get E.CascadeRole = 1 ∧ f.crc = cascCrc f ∧ cascPayloadOk f = true ∧ f.type = 6) ∧
    (∃ (s : State) (x : Nat) (f : CascFrame) (d : Dev), s.Runs ∧ d = s.seen x ∧ d.get E.CascadeRole = 1 ∧ f.crc = cascCrc f ∧ cascPayloadOk f = true ∧ f.type = 8) ∧
    (∃ (s : State) (x : Nat) (r : Requester) (d : Dev) (data : Bytes), s.Runs ∧ d = s.seen x ∧ d.get E.CascadeRole = 1 ∧ d.acceptsDom r E.CascadeSend data ∧ d.casc.stopped = false ∧ d.casc.busyX ≤ d.now) ∧
    (∃ (s : State) (x : Nat) (r : Requester) (d : Dev) (data : Bytes), s.Runs ∧ d = s.seen x ∧ d.get E.CascadeRole = 1 ∧ d.acceptsDom r E.CascadeSend data ∧ d.casc.stopped = false ∧ d.now < d.casc.busyX) :=
  ⟨⟨s103, 5, (cascSeal ({ dest := 1, src := 0, type := 1, flags := 0, seq := 3, payload := ([3, 0, 0, 0, 1, 2, 3, 4, 5, 6, 7, 8] : Bytes), crc := 0 } : CascFrame)), s103.seen 5, rfl, rfl, by decide +kernel, sealed _, by decide +kernel⟩,
   ⟨s103, 5, (cascSeal ({ dest := 1, src := 0, type := 1, flags := 0, seq := 3, payload := ([3, 0, 0, 0, 1, 2, 3, 4, 5, 6, 7, 9] : Bytes), crc := 0 } : CascFrame)), s103.seen 5, rfl, rfl, by decide +kernel, sealed _, by decide +kernel⟩,
   ⟨s103, 80000000, s103.seen 80000000, rfl, rfl, by decide +kernel⟩,
   ⟨s103, 5, (cascSeal ({ dest := 1, src := 0, type := 4, flags := 0, seq := 3, payload := ([1] ++ List.replicate 19 0 : Bytes), crc := 0 } : CascFrame)), s103.seen 5, rfl, rfl, by decide +kernel, sealed _, by decide +kernel⟩,
   ⟨s103, 5, (cascSeal ({ dest := 1, src := 0, type := 6, flags := 0, seq := 3, payload := (List.replicate 480 1 : Bytes), crc := 0 } : CascFrame)), s103.seen 5, rfl, rfl, by decide +kernel, sealed _, by decide +kernel⟩,
   ⟨s103, 5, (cascSeal ({ dest := 1, src := 0, type := 8, flags := 0, seq := 3, payload := (List.replicate 388 1 : Bytes), crc := 0 } : CascFrame)), s103.seen 5, rfl, rfl, by decide +kernel, sealed _, by decide +kernel⟩,
   ⟨s103, 5, m0, s103.seen 5, ([1, 9, 0, 0, 0, 0, 2] : Bytes), rfl, rfl, by decide +kernel, takesB_sound (by decide +kernel), by decide +kernel⟩,
   ⟨s104, 5, m0, s104.seen 5, ([1, 9, 0, 0, 0, 0, 2] : Bytes), rfl, rfl, by decide +kernel, takesB_sound (by decide +kernel), by decide +kernel⟩⟩

theorem witness_CascadeSlave :
    (∃ (s : State) (x : Nat) (f : CascFrame) (d : Dev), s.Runs ∧ d = s.seen x ∧ d.get E.CascadeRole = 2 ∧ f.crc = cascCrc f ∧ cascPayloadOk f = true ∧ f.type = 1 ∧ beAt f.payload 0 1 < 31) ∧
    (∃ (s : State) (x : Nat) (f : CascFrame) (d : Dev), s.Runs ∧ d = s.seen x ∧ d.get E.CascadeRole = 2 ∧ f.crc ≠ cascCrc f ∧ f.type = 1) ∧
    (∃ (s : State) (x : Nat) (f : CascFrame) (d : Dev), s.Runs ∧ d = s.seen x ∧ d.get E.CascadeRole = 2 ∧ f.crc = cascCrc f ∧ cascPayloadOk f = true ∧ f.type = 2 ∧ f.dest = d.get E.CascadePosition ∧ f.dest < 32 ∧ d.cascTargeted (beAt f.payload 4 4) = true ∧ beAt f.payload 8 4 = 0) ∧
    (∃ (s : State) (x : Nat) (f : CascFrame) (d : Dev) (i : CascImage), s.Runs ∧ d = s.seen x ∧ d.get E.CascadeRole = 2 ∧ f.crc = cascCrc f ∧ cascPayloadOk f = true ∧ f.type = 3 ∧ f.dest = d.get E.CascadePosition ∧ f.dest < 32 ∧ d.cascTargeted (beAt f.payload 4 4) = true ∧ d.casc.image = some i ∧ i.kind = 2 ∧ beAt f.payload 0 1 = 2 ∧ i.target = beAt f.payload 4 4 ∧ i.total = beAt f.payload 8 4 ∧ i.got.length = i.total ∧ crc32c 0xFFFFFFFF i.got = beAt f.payload 12 4) ∧
    (∃ (s : State) (x : Nat) (f : CascFrame) (d : Dev), s.Runs ∧ d = s.seen x ∧ d.get E.CascadeRole = 2 ∧ f.crc = cascCrc f ∧ cascPayloadOk f = true ∧ f.type = 3 ∧ f.dest = d.get E.CascadePosition ∧ f.dest < 32 ∧ d.cascTargeted (beAt f.payload 4 4) = true ∧ d.casc.image = none) ∧
    (∃ (s : State) (x : Nat) (d : Dev) (i : CascImage), s.Runs ∧ d = s.seen x ∧ d.get E.CascadeRole = 2 ∧ d.casc.pendImg = some i ∧ i.kind = 1 ∧ i.store = false ∧ d.casc.waiting = false) ∧
    (∃ (s : State) (x : Nat) (f : CascFrame) (d : Dev) (k : _) (v : _), s.Runs ∧ d = s.seen x ∧ d.get E.CascadeRole = 2 ∧ f.crc = cascCrc f ∧ f.type = 5 ∧ f.payload.length ≤ 480 ∧ f.dest = d.get E.CascadePosition ∧ f.dest < 32 ∧ requestOps f.payload = some [putOp k v] ∧ k ∈ [E.NodeId, E.DefaultHopLimit, E.ProstaQueue, E.SessionIdleTimeout] ∧ d.accepts ⟨0x31, 0⟩ k v) ∧
    (∃ (s : State) (x : Nat) (f : CascFrame) (d : Dev), s.Runs ∧ d = s.seen x ∧ d.get E.CascadeRole = 2 ∧ f.crc = cascCrc f ∧ cascPayloadOk f = true ∧ f.type = 7 ∧ f.dest = d.get E.CascadePosition ∧ f.dest < 32 ∧ d.casc.test = none) ∧
    (∃ (s : State) (x : Nat) (d : Dev) (b : Bytes) (x0 : _), s.Runs ∧ d = s.seen x ∧ d.get E.CascadeRole = 2 ∧ d.casc.test = some (b, x0) ∧ x0 ≤ d.now ∧ d.casc.held = []) ∧
    (∃ (s : State) (x : Nat) (f : CascFrame) (d : Dev), s.Runs ∧ d = s.seen x ∧ d.get E.CascadeRole = 2 ∧ f.crc = cascCrc f ∧ cascPayloadOk f = true ∧ f.type = 9 ∧ f.dest = d.get E.CascadePosition ∧ f.dest < 32 ∧ d.cascTargeted (beAt f.payload 0 4) = true) ∧
    (∃ (s : State) (x : Nat) (d : Dev), s.Runs ∧ d = s.seen x ∧ d.get E.CascadeRole = 2 ∧ d.get E.CascadeState ≠ 0) :=
  ⟨⟨s105, 5, (cascSeal ({ dest := 1, src := 0, type := 1, flags := 0, seq := 3, payload := ([30, 0, 0, 0] ++ List.replicate 8 1 : Bytes), crc := 0 } : CascFrame)), s105.seen 5, rfl, rfl, by decide +kernel, sealed _, by decide +kernel⟩,
   ⟨s106, 5, ({ dest := 1, src := 0, type := 1, flags := 0, seq := 3, payload := (List.replicate 12 0 : Bytes), crc := 0 } : CascFrame), s106.seen 5, rfl, rfl, by decide +kernel⟩,
   ⟨s106, 5, (cascSeal ({ dest := 1, src := 0, type := 2, flags := 1, seq := 3, payload := ([2] ++ List.replicate 6 0 ++ [2] ++ List.replicate 7 0 ++ [9] ++ List.replicate 8 5 : Bytes), crc := 0 } : CascFrame)), s106.seen 5, rfl, rfl, by decide +kernel, sealed _, by decide +kernel⟩,
   ⟨s107, 5, (cascSeal ({ dest := 1, src := 0, type := 3, flags := 0, seq := 3, payload := ([2] ++ List.replicate 6 0 ++ [2, 0, 0, 0, 4, 41, 48, 140, 244] : Bytes), crc := 0 } : CascFrame)), s107.seen 5, ({ kind := 2, target := 2, total := 4, store := false, got := [1, 2, 3, 4] } : CascImage), rfl, rfl, by decide +kernel, sealed _, by decide +kernel⟩,
   ⟨s106, 5, (cascSeal ({ dest := 1, src := 0, type := 3, flags := 0, seq := 3, payload := ([2] ++ List.replicate 6 0 ++ [2, 0, 0, 0, 4, 41, 48, 140, 244] : Bytes), crc := 0 } : CascFrame)), s106.seen 5, rfl, rfl, by decide +kernel, sealed _, by decide +kernel⟩,
   ⟨s108, 5, s108.seen 5, ({ kind := 1, target := 2, total := 4, store := false, got := [1, 2, 3, 4] } : CascImage), rfl, rfl, by decide +kernel⟩,
   ⟨s106, 5, (cascSeal ({ dest := 1, src := 0, type := 5, flags := 0, seq := 3, payload := ([2, 0, 0, 10, 2, 16, 3, 3, 0, 9] : Bytes), crc := 0 } : CascFrame)), s106.seen 5, E.NodeId, 9, rfl, rfl, by decide +kernel, sealed _, by decide +kernel, by decide +kernel, by decide +kernel, by decide +kernel, by decide +kernel, by decide +kernel, takesB_sound (by decide +kernel)⟩,
   ⟨s106, 5, (cascSeal ({ dest := 1, src := 0, type := 7, flags := 0, seq := 3, payload := ([0, 1, 1, 0, 234, 96] ++ List.replicate 9 0 ++ [1, 128, 0, 0, 0] : Bytes), crc := 0 } : CascFrame)), s106.seen 5, rfl, rfl, by decide +kernel, sealed _, by decide +kernel⟩,
   ⟨s109, 5, s109.seen 5, ([0, 1, 1, 0, 0, 1] ++ List.replicate 14 0 : Bytes), 5, rfl, rfl, by decide +kernel⟩,
   ⟨s106, 5, (cascSeal ({ dest := 1, src := 0, type := 9, flags := 0, seq := 3, payload := ([0, 0, 0, 2] : Bytes), crc := 0 } : CascFrame)), s106.seen 5, rfl, rfl, by decide +kernel, sealed _, by decide +kernel⟩,
   ⟨s106, 5, s106.seen 5, rfl, rfl, by decide +kernel⟩⟩

theorem witness_HostRegisters :
    (∃ (s : State) (x : Nat) (d : Dev) (v : _), s.Runs ∧ d = s.seen x ∧ v < 2 ^ 32) ∧
    (∃ (s : State) (x : Nat) (d : Dev) (off : _) (size : _), s.Runs ∧ d = s.seen x ∧ ¬(size = 4 ∧ off % 4 = 0) ∧ ¬(size = 8 ∧ off % 8 = 0 ∧ wideAt off = true)) ∧
    (∃ (s : State) (x : Nat) (d : Dev) (off : _) (size : _), s.Runs ∧ d = s.seen x ∧ ¬(size = 4 ∧ off % 4 = 0) ∧ ¬(size = 8 ∧ off % 8 = 0 ∧ wideAt off = true)) ∧
    (∃ (s : State) (x : Nat) (d : Dev), s.Runs ∧ d = s.seen x) ∧
    (∃ (s : State) (x : Nat) (d : Dev), s.Runs ∧ d = s.seen x) ∧
    (∃ (s : State) (x : Nat) (d : Dev) (v : BitVec 32), s.Runs ∧ d = s.seen x ∧ bit v.toNat 0 = true) ∧
    (∃ (s : State) (x : Nat) (d : Dev) (v : BitVec 32), s.Runs ∧ d = s.seen x ∧ bit v.toNat 0 = false) :=
  ⟨⟨s18, 5, s18.seen 5, 0xFFFFFFFF, rfl, rfl, by decide +kernel⟩,
   ⟨s18, 5, s18.seen 5, 2, 4, rfl, rfl, by decide +kernel⟩,
   ⟨s18, 5, s18.seen 5, 0x0C, 8, rfl, rfl, by decide +kernel⟩,
   ⟨s110, 5, s110.seen 5, rfl, rfl⟩,
   ⟨s18, 5, s18.seen 5, rfl, rfl⟩,
   ⟨s18, 5, s18.seen 5, 1#32, rfl, rfl, by decide +kernel⟩,
   ⟨s18, 5, s18.seen 5, 0#32, rfl, rfl, by decide +kernel⟩⟩

theorem witness_HostRegisters_2 :
    (∃ (s : State) (x : Nat) (d : Dev), s.Runs ∧ d = s.seen x) ∧
    (∃ (s : State) (x : Nat) (d : Dev), s.Runs ∧ d = s.seen x ∧ d.faults.nLow = true ∧ d.faults.nEnd ≤ d.now) ∧
    (∃ (s : State) (x : Nat) (d : Dev), s.Runs ∧ d = s.seen x ∧ d.faults.nLow = true ∧ d.now < d.faults.nEnd) ∧
    (∃ (s : State) (x : Nat) (d : Dev) (width : _) (speed : _), s.Runs ∧ d = s.seen x ∧ width < 16 ∧ speed < 16) ∧
    (∃ (s : State) (x : Nat) (d : Dev) (v : _), s.Runs ∧ d = s.seen x ∧ d.host.due.contains v = true ∧ d.host.d3 = false) ∧
    (∃ (s : State) (x : Nat) (d : Dev) (v : _) (e : _), s.Runs ∧ d = s.seen x ∧ (d.host.hold.find? fun h => h.1 == v) = some e ∧ e.2 + d.holdoffX v ≤ d.now ∧ d.host.d3 = false) ∧
    (∃ (s : State) (x : Nat) (d : Dev) (v : _) (e : _), s.Runs ∧ d = s.seen x ∧ (d.host.hold.find? fun h => h.1 == v) = some e ∧ d.now < e.2 + d.holdoffX v) :=
  ⟨⟨s111, 5, s111.seen 5, rfl, rfl⟩,
   ⟨s112, 5, s112.seen 5, rfl, rfl, by decide +kernel⟩,
   ⟨s113, 5, s113.seen 5, rfl, rfl, by decide +kernel⟩,
   ⟨s18, 5, s18.seen 5, 15, 5, rfl, rfl, by decide +kernel⟩,
   ⟨s114, 5, s114.seen 5, 4, rfl, rfl, by decide +kernel⟩,
   ⟨s115, 5, s115.seen 5, 4, (4, 5), rfl, rfl, by decide +kernel⟩,
   ⟨s116, 5, s116.seen 5, 4, (4, 5), rfl, rfl, by decide +kernel⟩⟩

theorem witness_MailboxesSemaphoresAndDoorbells :
    (∃ (s : State) (x : Nat) (m : Nat) (c : Nat) (d : Dev) (a : _), s.Runs ∧ d = s.seen x ∧ d.mboxEnd c m = some a ∧ d.host.resetAt.get? (d.mboxOwner c (!a)) ≠ some (coreClock d.now) ∧ ((d.mboxCh c).out a).length < 8) ∧
    (∃ (s : State) (x : Nat) (m : Nat) (c : Nat) (d : Dev) (a : _), s.Runs ∧ d = s.seen x ∧ d.mboxEnd c m = some a ∧ d.host.resetAt.get? (d.mboxOwner c (!a)) = some (coreClock d.now)) ∧
    (∃ (s : State) (x : Nat) (m : Nat) (c : Nat) (d : Dev) (a : _), s.Runs ∧ d = s.seen x ∧ d.mboxEnd c m = some a ∧ d.host.resetAt.get? (d.mboxOwner c (!a)) ≠ some (coreClock d.now) ∧ 8 ≤ ((d.mboxCh c).out a).length) ∧
    (∃ (s : State) (x : Nat) (m : Nat) (c : Nat) (d : Dev), s.Runs ∧ d = s.seen x ∧ d.mboxEnd c m = none) ∧
    (∃ (s : State) (x : Nat) (m : Nat) (c : Nat) (d : Dev) (a : _) (w : MboxWord) (q : List MboxWord), s.Runs ∧ d = s.seen x ∧ d.mboxEnd c m = some a ∧ (d.mboxCh c).out (!a) = w :: q) ∧
    (∃ (s : State) (x : Nat) (m : Nat) (c : Nat) (d : Dev) (a : _) (w : MboxWord) (q : List MboxWord), s.Runs ∧ d = s.seen x ∧ d.mboxEnd c m = some a ∧ (d.mboxCh c).out (!a) = w :: q) ∧
    (∃ (s : State) (x : Nat) (m : Nat) (c : Nat) (d : Dev) (a : _), s.Runs ∧ d = s.seen x ∧ d.mboxEnd c m = some a ∧ (d.mboxCh c).out (!a) = []) ∧
    (∃ (s : State) (x : Nat) (m : Nat) (d : Dev) (k : _) (n : _) (l : _), s.Runs ∧ d = s.seen x ∧ (d.sem k).holder = none ∧ s.semRivals x m k = n :: l) ∧
    (∃ (s : State) (x : Nat) (m : Nat) (d : Dev) (k : _), s.Runs ∧ d = s.seen x ∧ (d.sem k).holder = none ∧ s.semRivals x m k = []) :=
  ⟨⟨s117, 5, 0x10, 0, s117.seen 5, true, rfl, rfl, by decide +kernel⟩,
   ⟨s118, 5, 0x10, 0, s118.seen 5, true, rfl, rfl, by decide +kernel⟩,
   ⟨s119, 5, 0x10, 0, s119.seen 5, true, rfl, rfl, by decide +kernel⟩,
   ⟨s18, 5, 2, 0, s18.seen 5, rfl, rfl, by decide +kernel⟩,
   ⟨s120, 5, 0x10, 0, s120.seen 5, true, (⟨9, 1, 3⟩ : MboxWord), ([⟨8, 1, 3⟩] : List MboxWord), rfl, rfl, by decide +kernel⟩,
   ⟨s121, 5, 0x10, 0, s121.seen 5, true, (⟨9, 1, 3⟩ : MboxWord), ([] : List MboxWord), rfl, rfl, by decide +kernel⟩,
   ⟨s18, 5, 0x10, 0, s18.seen 5, true, rfl, rfl, by decide +kernel⟩,
   ⟨{ wk id with pending := [.hbSemAcquire 5 2 63, .echo 5 ⟨1, 0⟩ [], .hbRegisterRead 3 1 0x30FC 4] }, 5, 0x10, { wk id with pending := [.hbSemAcquire 5 2 63, .echo 5 ⟨1, 0⟩ [], .hbRegisterRead 3 1 0x30FC 4] }.seen 5, 63, 2, [1], rfl, rfl, by decide +kernel⟩,
   ⟨s122, 5, 0x10, s122.seen 5, 63, rfl, rfl, by decide +kernel⟩⟩

theorem witness_MailboxesSemaphoresAndDoorbells_2 :
    (∃ (s : State) (x : Nat) (d : Dev) (k : _) (h : _) (e : _), s.Runs ∧ d = s.seen x ∧ (d.sem k).holder = some (h, e)) ∧
    (∃ (s : State) (x : Nat) (d : Dev) (k : _) (h : _) (e : _), s.Runs ∧ d = s.seen x ∧ (d.sem k).holder = some (h, e)) ∧
    (∃ (s : State) (x : Nat) (m : Nat) (d : Dev) (k : _) (v : BitVec 32) (e : _), s.Runs ∧ d = s.seen x ∧ (d.sem k).holder = some (m, e) ∧ v.toNat % 2 = 1) ∧
    (∃ (s : State) (x : Nat) (m : Nat) (d : Dev) (k : _) (v : BitVec 32), s.Runs ∧ d = s.seen x ∧ (d.sem k).holder.map (·.1) ≠ some m ∧ v.toNat % 2 = 1) ∧
    (∃ (s : State) (x : Nat) (m : Nat) (d : Dev) (k : _) (v : BitVec 32), s.Runs ∧ d = s.seen x ∧ (d.sem k).holder.map (·.1) ≠ some m ∧ v.toNat % 2 = 1) ∧
    (∃ (s : State) (x : Nat) (d : Dev), s.Runs ∧ d = s.seen x) ∧
    (∃ (s : State) (x : Nat) (m : Nat) (d : Dev), s.Runs ∧ d = s.seen x ∧ 1 ≤ m ∧ m ≤ 4) ∧
    (∃ (s : State) (x : Nat) (d : Dev), s.Runs ∧ d = s.seen x) ∧
    (∃ (s : State) (x : Nat) (m : Nat) (d : Dev), s.Runs ∧ d = s.seen x ∧ 1 ≤ m ∧ m ≤ 4) :=
  ⟨⟨s123, 5, s123.seen 5, 0, 16, 2, rfl, rfl, by decide +kernel⟩,
   ⟨s124, 5, s124.seen 5, 0, 1, 2, rfl, rfl, by decide +kernel⟩,
   ⟨s123, 5, 0x10, s123.seen 5, 0, 1#32, 2, rfl, rfl, by decide +kernel⟩,
   ⟨s18, 5, 0x10, s18.seen 5, 0, 1#32, rfl, rfl, by decide +kernel⟩,
   ⟨s124, 5, 0x10, s124.seen 5, 0, 1#32, rfl, rfl, by decide +kernel⟩,
   ⟨s18, 5, s18.seen 5, rfl, rfl⟩,
   ⟨s18, 5, 4, s18.seen 5, rfl, rfl, by decide +kernel⟩,
   ⟨s125, 5, s125.seen 5, rfl, rfl⟩,
   ⟨s125, 5, 1, s125.seen 5, rfl, rfl, by decide +kernel⟩⟩

theorem witness_HostRings :
    (∃ (s : State) (x : Nat) (r : Nat) (d : Dev) (v : BitVec 32) (n : _), s.Runs ∧ d = s.seen x ∧ n = setBit v.toNat 31 true ∧ (d.ring r).enable = false ∧ 6 ≤ fld n 27 24 ∧ fld n 27 24 ≤ 15) ∧
    (∃ (s : State) (x : Nat) (r : Nat) (d : Dev) (v : BitVec 32) (n : _), s.Runs ∧ d = s.seen x ∧ n = setBit v.toNat 31 true ∧ (d.ring r).enable = false ∧ fld n 27 24 < 6) ∧
    (∃ (s : State) (x : Nat) (d : Dev), s.Runs ∧ d = s.seen x) ∧
    (∃ (s : State) (x : Nat) (d : Dev), s.Runs ∧ d = s.seen x) ∧
    (∃ (s : State) (x : Nat) (r : Nat) (d : Dev) (e : QEntry) (l : List QEntry) (f : Frame), s.Runs ∧ d = s.seen x ∧ r < 8 ∧ d.queue (96 * 16 + r) = e :: l ∧ d.frame? e.frame = some f ∧ f.tail = 1 ∧ d.puntPick.1 = some r) ∧
    (∃ (s : State) (x : Nat) (r : Nat) (d : Dev) (e : QEntry) (l : List QEntry) (f : Frame), s.Runs ∧ d = s.seen x ∧ r < 8 ∧ d.queue (96 * 16 + r) = e :: l ∧ d.frame? e.frame = some f ∧ f.tail = 2) ∧
    (∃ (s : State) (x : Nat) (r : Nat) (d : Dev) (e : QEntry) (l : List QEntry) (f : Frame), s.Runs ∧ d = s.seen x ∧ r < 8 ∧ d.queue (96 * 16 + r) = e :: l ∧ d.frame? e.frame = some f ∧ f.tail = 1 ∧ (d.ring r).enable = true ∧ (d.ring r).waits = false ∧ d.ringRoom r (d.puntRecord 96 e r).length = false) ∧
    (∃ (s : State) (x : Nat) (r : Nat) (d : Dev) (v : BitVec 256), s.Runs ∧ d = s.seen x ∧ r < 8 ∧ (d.ring (8 + r)).enable = true ∧ (d.ring (8 + r)).avail ≠ 0 ∧ d.host.quiesce = false ∧ d.host.d3 = false ∧ d.power.forwarding = true ∧ bit v.toNat 103 = false ∧ injectRefused v.toNat = false ∧ fld v.toNat 79 64 ≠ 0) ∧
    (∃ (s : State) (x : Nat) (r : Nat) (d : Dev) (v : BitVec 256), s.Runs ∧ d = s.seen x ∧ r < 8 ∧ (d.ring (8 + r)).enable = true ∧ (d.ring (8 + r)).avail ≠ 0 ∧ d.host.quiesce = false ∧ d.host.d3 = false ∧ d.power.forwarding = true ∧ bit v.toNat 103 = false ∧ injectRefused v.toNat = false ∧ fld v.toNat 79 64 ≠ 0) ∧
    (∃ (s : State) (x : Nat) (r : Nat) (d : Dev) (v : BitVec 256), s.Runs ∧ d = s.seen x ∧ r < 8 ∧ (d.ring (8 + r)).enable = true ∧ (d.ring (8 + r)).avail ≠ 0 ∧ d.host.quiesce = false ∧ d.host.d3 = false ∧ d.power.forwarding = true ∧ bit v.toNat 103 = false ∧ injectRefused v.toNat = true) ∧
    (∃ (s : State) (x : Nat) (d : Dev) (e : Event), s.Runs ∧ d = s.seen x ∧ d.ringRoom 16 1 = true ∧ (d.notifyTake ⟨0x10, 0⟩).1 = some e) :=
  ⟨⟨s18, 5, 0, s18.seen 5, 0x0F000000#32, setBit (0x0F000000 : Nat) 31 true, rfl, rfl, by decide +kernel⟩,
   ⟨s18, 5, 0, s18.seen 5, 0x05000000#32, setBit (0x05000000 : Nat) 31 true, rfl, rfl, by decide +kernel⟩,
   ⟨s126, 5, s126.seen 5, rfl, rfl⟩,
   ⟨s18, 5, s18.seen 5, rfl, rfl⟩,
   ⟨s127, 5, 0, s127.seen 5, ({ frame := 1, tc := 0, colour := 0 } : QEntry), ([] : List QEntry), ({ port := 3, pl := 0, bytes := List.replicate 60 0, x := 0, time := 0, tick := 0, oport := 3, tail := 1, ox := 0 } : Frame), rfl, rfl, by decide +kernel⟩,
   ⟨s128, 5, 0, s128.seen 5, ({ frame := 1, tc := 0, colour := 0 } : QEntry), ([] : List QEntry), ({ port := 3, pl := 0, bytes := List.replicate 60 0, x := 0, time := 0, tick := 0, oport := 3, tail := 2, ox := 0 } : Frame), rfl, rfl, by decide +kernel⟩,
   ⟨s129, 5, 0, s129.seen 5, ({ frame := 1, tc := 0, colour := 0 } : QEntry), ([] : List QEntry), ({ port := 3, pl := 0, bytes := List.replicate 60 0, x := 0, time := 0, tick := 0, oport := 3, tail := 1, ox := 0 } : Frame), rfl, rfl, by decide +kernel⟩,
   ⟨s130, 5, 7, s130.seen 5, BitVec.ofNat 256 (60 * 2 ^ 64), rfl, rfl, by decide +kernel⟩,
   ⟨s130, 5, 7, s130.seen 5, BitVec.ofNat 256 (60 * 2 ^ 64 + 2 ^ 102 + 3 * 2 ^ 112), rfl, rfl, by decide +kernel⟩,
   ⟨s130, 5, 7, s130.seen 5, BitVec.ofNat 256 (59 * 2 ^ 64), rfl, rfl, by decide +kernel⟩,
   ⟨s131, 5, s131.seen 5, ({ key := 5, seq := 0, time := 0, x := 0, acq := false, lost := false, v := 0, data := [] } : Event), rfl, rfl, by decide +kernel⟩⟩

theorem witness_HostReachesHbm :
    (∃ (s : State) (x : Nat) (off : Nat) (d : Dev) (n : _), s.Runs ∧ d = s.seen x ∧ d.bar2Ok off n [1, 2, 3, 4] = true ∧ 3 ≤ hbmRegion off) ∧
    (∃ (s : State) (x : Nat) (off : Nat) (d : Dev) (n : _), s.Runs ∧ d = s.seen x ∧ d.bar2Ok off n [1, 2, 3, 4] = true) ∧
    (∃ (s : State) (x : Nat) (off : Nat) (d : Dev) (n : _), s.Runs ∧ d = s.seen x ∧ d.bar2Ok off n [1, 2, 3, 4] = false) ∧
    (∃ (s : State) (x : Nat) (off : Nat) (d : Dev) (n : _), s.Runs ∧ d = s.seen x ∧ d.bar2Ok off n [1, 2, 3, 4] = false) ∧
    (∃ (s : State) (x : Nat) (off : Nat) (d : Dev) (b : Bytes), s.Runs ∧ d = s.seen x ∧ Memory.wf d.hbm.mem = true ∧ d.bar2Ok off b.length [4] = true) ∧
    (∃ (s : State) (x : Nat) (off : Nat) (d : Dev) (b : Bytes), s.Runs ∧ d = s.seen x ∧ d.bar2Ok off b.length [4] = false) :=
  ⟨⟨s40, 5, 0xC0000000, s40.seen 5, 4, rfl, rfl, by decide +kernel⟩,
   ⟨s40, 5, 0xC0000000, s40.seen 5, 4, rfl, rfl, by decide +kernel⟩,
   ⟨s40, 5, 0xC0000000, s40.seen 5, 0, rfl, rfl, by decide +kernel⟩,
   ⟨s18, 5, 0xC0000000, s18.seen 5, 4, rfl, rfl, by decide +kernel⟩,
   ⟨s40, 5, 0x200000000 - 3, s40.seen 5, [1, 2, 3], rfl, rfl, by decide +kernel⟩,
   ⟨s18, 5, 0xC0000000, s18.seen 5, [1], rfl, rfl, by decide +kernel⟩⟩

theorem witness_ResetsAndKeys :
    (∃ (s : State) (x : Nat) (d : Dev), s.Runs ∧ d = s.seen x) ∧
    (∃ (s : State) (x : Nat) (d : Dev), s.Runs ∧ d = s.seen x ∧ d.get E.ActiveBank ≠ 0xFF) ∧
    (∃ (s : State) (x : Nat) (d : Dev), s.Runs ∧ d = s.seen x ∧ d.get E.ActiveBank = 0xFF) ∧
    (∃ (s : State) (x : Nat) (d : Dev), s.Runs ∧ d = s.seen x) ∧
    (∃ (s : State) (x : Nat) (d : Dev), s.Runs ∧ d = s.seen x ∧ d.get E.YardSafe = 0) ∧
    (∃ (s : State) (x : Nat) (d : Dev), s.Runs ∧ d = s.seen x) ∧
    (∃ (s : State) (x : Nat) (d : Dev) (m : _) (key : _), s.Runs ∧ d = s.seen x ∧ m ≠ 0x10 ∧ key ≠ 0xA5) :=
  ⟨⟨s18, 5, s18.seen 5, rfl, rfl⟩,
   ⟨s132, 5, s132.seen 5, rfl, rfl, by decide +kernel⟩,
   ⟨s18, 5, s18.seen 5, rfl, rfl, by decide +kernel⟩,
   ⟨s133, 5, s133.seen 5, rfl, rfl⟩,
   ⟨s18, 5, s18.seen 5, rfl, rfl, by decide +kernel⟩,
   ⟨s24, 5, s24.seen 5, rfl, rfl⟩,
   ⟨s18, 5, s18.seen 5, 1, 0xA4, rfl, rfl, by decide +kernel⟩⟩

theorem witness_TickBoundaryAndItsDuties :
    (∃ (s : State) (x : Nat) (p : Nat) (d : Dev), s.Runs ∧ d = s.seen x ∧ p < 96 ∧ d.outTime < (d.time.nextB : Int) * 65536) ∧
    (∃ (s : State) (x : Nat) (p : Nat) (d : Dev), s.Runs ∧ d = s.seen x ∧ p < 96 ∧ (d.time.nextB : Int) * 65536 ≤ d.outTime ∧ d.time.acquire = false ∧ d.time.outReacq = false ∧ (∀ b ∈ d.commit.batches, b.tick ≠ d.nextTick)) ∧
    (∃ (s : State) (x : Nat) (p : Nat) (d : Dev), s.Runs ∧ d = s.seen x ∧ p < 96 ∧ (d.time.nextB : Int) * 65536 ≤ d.outTime ∧ d.time.acquire = false ∧ d.time.outReacq = false ∧ (∀ b ∈ d.commit.batches, b.tick ≠ d.nextTick) ∧ d.power.phase = .starting ∧ d.power.loaded = true ∧ d.time.tickRun = false) ∧
    (∃ (s : State) (x : Nat) (p : Nat) (d : Dev) (e : Residue), s.Runs ∧ d = s.seen x ∧ p < 96 ∧ d.net.residue = [e] ∧ e.tick + d.get E.ResidueLimitTicks ≤ d.tickNow ∧ e.copy.entry.target = none ∧ (d.frame? e.copy.entry.frame).isSome = true ∧ d.admitsTo (e.copy.port * 16 + e.copy.queue) e.copy.entry.colour = false) ∧
    (∃ (s : State) (x : Nat) (p : Nat) (d : Dev), s.Runs ∧ d = s.seen x ∧ p < 96 ∧ (∀ e ∈ d.net.residue, d.tickNow < e.tick + d.get E.ResidueLimitTicks)) ∧
    (∃ (s : State) (x : Nat) (p : Nat) (d : Dev) (n : _), s.Runs ∧ d = s.seen x ∧ p < 96 ∧ (d.net.recs.getD n {}).takeAny = false ∧ (d.net.recs.getD n {}).last + Row.RecoveryFunctions.resetTicks (d.row T.RecoveryFunctions n) ≤ d.net.bounds) ∧
    (∃ (s : State) (x : Nat) (p : Nat) (d : Dev) (q : _) (e : QEntry) (l : List QEntry), s.Runs ∧ d = s.seen x ∧ p < 96 ∧ q < 8 ∧ d.net.tx.get? p = none ∧ d.queue (p * 16 + q) = e :: l ∧ bit (d.gates p) q = false) ∧
    (∃ (s : State) (x : Nat) (p : Nat) (d : Dev) (q : _) (e : QEntry) (l : List QEntry), s.Runs ∧ d = s.seen x ∧ p < 96 ∧ q < 8 ∧ d.net.tx.get? p = none ∧ d.queue (p * 16 + q) = e :: l ∧ bit (d.gates p) q = true) ∧
    (∃ (s : State) (x : Nat) (p : Nat) (d : Dev) (tx : Tx), s.Runs ∧ d = s.seen x ∧ p < 96 ∧ d.net.tx.get? p = some tx ∧ bit (d.gates p) (tx.row % 16) = false ∧ tx.entry.dhop = none ∧ d.canPreempt p tx = true) ∧
    (∃ (s : State) (x : Nat) (p : Nat) (d : Dev) (g : _) (r : _), s.Runs ∧ d = s.seen x ∧ p < 96 ∧ g < 16 ∧ r = d.row T.SampleGroups g ∧ Row.SampleGroups.valid r = 1 ∧ d.time.tickRun = true ∧ d.yard.built.get? g ≠ some d.time.tick ∧ ((d.time.tick : Int) - Row.SampleGroups.phaseTicks r) % (max 1 (Row.SampleGroups.periodTicks r) : Nat) = 0 ∧ (d.time.boundT : Int) + d.buildStart r d.ppRan d.ppRow ≤ d.outNs ∧ (d.dom (E.TemplateImage (Row.SampleGroups.template r))).isEmpty = false) ∧
    (∃ (s : State) (x : Nat) (p : Nat) (d : Dev) (g : _) (r : _), s.Runs ∧ d = s.seen x ∧ p < 96 ∧ g < 16 ∧ r = d.row T.SampleGroups g ∧ Row.SampleGroups.valid r = 0) :=
  ⟨⟨s134, 5, 95, s134.seen 5, rfl, rfl, by decide +kernel⟩,
   ⟨s135, 8000, 95, s135.seen 8000, rfl, rfl, by decide +kernel⟩,
   ⟨s136, 5, 95, s136.seen 5, rfl, rfl, by decide +kernel⟩,
   ⟨s137, 5, 95, s137.seen 5, ({ copy := ({ port := 3, queue := 2, entry := ({ frame := 7, colour := 2 } : QEntry) } : Copy), key := (1, 50, 7), tick := 0 } : Residue), rfl, rfl, by decide +kernel⟩,
   ⟨s138, 5, 95, s138.seen 5, rfl, rfl, by decide +kernel⟩,
   ⟨s139, 5, 95, s139.seen 5, 16383, rfl, rfl, by decide +kernel⟩,
   ⟨s140, 5, 95, s140.seen 5, 7, ({ frame := 1, tag := some 3 } : QEntry), ([] : List QEntry), rfl, rfl, by decide +kernel⟩,
   ⟨s141, 5, 95, s141.seen 5, 0, ({ frame := 1, tag := some 3 } : QEntry), ([] : List QEntry), rfl, rfl, by decide +kernel⟩,
   ⟨s142, 1000, 95, s142.seen 1000, ({ row := 95 * 16, entry := ({ frame := 1 } : QEntry), x := 0, len := 1004 } : Tx), rfl, rfl, by decide +kernel⟩,
   ⟨s143, 5, 95, s143.seen 5, 15, 0x8000100000000000, rfl, rfl, by decide +kernel⟩,
   ⟨s18, 5, 95, s18.seen 5, 15, ((s18).seen (5)).row T.SampleGroups 15, rfl, rfl, by decide +kernel⟩⟩

theorem witness_PowerAndThermal :
    (∃ (s : State) (x : Nat) (d : Dev), s.Runs ∧ d = s.seen x ∧ d.get E.PowerMode = 2) ∧
    (∃ (s : State) (x : Nat) (d : Dev), s.Runs ∧ d = s.seen x ∧ d.get E.PowerMode ≠ 2) ∧
    (∃ (s : State) (x : Nat) (d : Dev), s.Runs ∧ d = s.seen x ∧ d.get E.PowerMode ≠ 2) ∧
    (∃ (s : State) (x : Nat) (d : Dev) (t0 : _), s.Runs ∧ d = s.seen x ∧ d.power.stabling = some t0 ∧ (d.allWordsSafe = true ∨ t0 + 8000000 * d.get E.StabledRampLimitMs ≤ d.now)) ∧
    (∃ (s : State) (x : Nat) (d : Dev) (t0 : _), s.Runs ∧ d = s.seen x ∧ d.power.stabling = some t0 ∧ (d.allWordsSafe = true ∨ t0 + 8000000 * d.get E.StabledRampLimitMs ≤ d.now)) ∧
    (∃ (s : State) (x : Nat) (d : Dev) (t0 : _), s.Runs ∧ d = s.seen x ∧ d.power.stabling = some t0 ∧ d.allWordsSafe = false ∧ d.now < t0 + 8000000 * d.get E.StabledRampLimitMs) ∧
    (∃ (s : State) (x : Nat) (d : Dev) (temps : List Int) (k : _) (tj : Int), s.Runs ∧ d = s.seen x ∧ hottest (temps.take 16) = (k, tj) ∧ sgn 32 (d.get E.ThrottleThresholdC) + 3 < tj ∧ d.get E.ThrottleLevel = 0 ∧ tj < sgn 32 (d.get E.TripTempC)) :=
  ⟨⟨s144, 5, s144.seen 5, rfl, rfl, by decide +kernel⟩,
   ⟨s18, 5, s18.seen 5, rfl, rfl, by decide +kernel⟩,
   ⟨s43, 5, s43.seen 5, rfl, rfl, by decide +kernel⟩,
   ⟨s145, 5, s145.seen 5, 0, rfl, rfl, by decide +kernel⟩,
   ⟨s146, 8000000, s146.seen 8000000, 0, rfl, rfl, by decide +kernel⟩,
   ⟨s147, 7999999, s147.seen 7999999, 0, rfl, rfl, by decide +kernel⟩,
   ⟨s148, 5, s148.seen 5, ([104, 0, 103] : List Int), 0, (104 : Int), rfl, rfl, by decide +kernel⟩⟩

theorem witness_PowerAndThermal_2 :
    (∃ (s : State) (x : Nat) (d : Dev) (temps : List Int) (k : _) (tj : Int), s.Runs ∧ d = s.seen x ∧ hottest (temps.take 16) = (k, tj) ∧ tj ≤ sgn 32 (d.get E.ThrottleThresholdC) - 3 ∧ tj < sgn 32 (d.get E.TripTempC)) ∧
    (∃ (s : State) (x : Nat) (d : Dev) (temps : List Int) (k : _) (tj : Int), s.Runs ∧ d = s.seen x ∧ hottest (temps.take 16) = (k, tj) ∧ sgn 32 (d.get E.TripTempC) ≤ tj ∧ d.power.tj < sgn 32 (d.get E.TripTempC) ∧ d.get E.PowerMode = 0) ∧
    (∃ (s : State) (x : Nat) (d : Dev) (c : _), s.Runs ∧ d = s.seen x ∧ d.power.cool = some c ∧ d.get E.PowerMode = 1 ∧ d.get E.ShedCause = 2 ∧ d.getB E.ShedAutoExit = true ∧ c + 80000000000 ≤ d.now) ∧
    (∃ (s : State) (x : Nat) (d : Dev), s.Runs ∧ d = s.seen x ∧ d.getB E.AvsEnable = true) ∧
    (∃ (s : State) (x : Nat) (d : Dev), s.Runs ∧ d = s.seen x ∧ d.getB E.AvsEnable = true) ∧
    (∃ (s : State) (x : Nat) (d : Dev) (v : _), s.Runs ∧ d = s.seen x ∧ d.getB E.AvsEnable = true ∧ d.power.avsFailed = some v) :=
  ⟨⟨s149, 5, s149.seen 5, ([97, 0, 97] : List Int), 0, (97 : Int), rfl, rfl, by decide +kernel⟩,
   ⟨s149, 5, s149.seen 5, ([97, 0, 105] : List Int), 2, (105 : Int), rfl, rfl, by decide +kernel⟩,
   ⟨s150, 80000000000, s150.seen 80000000000, 0, rfl, rfl, by decide +kernel⟩,
   ⟨s151, 5, s151.seen 5, rfl, rfl, by decide +kernel⟩,
   ⟨s152, 5, s152.seen 5, rfl, rfl, by decide +kernel⟩,
   ⟨s153, 5, s153.seen 5, 760, rfl, rfl, by decide +kernel⟩⟩

theorem witness_FramesArrive :
    (∃ (s : State) (x : Nat) (p : Nat) (d : Dev) (b : Bytes), s.Runs ∧ d = s.seen x ∧ p < 96 ∧ d.portUp p = true ∧ 60 ≤ b.length) ∧
    (∃ (s : State) (x : Nat) (p : Nat) (d : Dev) (b : Bytes), s.Runs ∧ d = s.seen x ∧ p < 96 ∧ d.portUp p = true ∧ b.length < 60) ∧
    (∃ (s : State) (x : Nat) (p : Nat) (d : Dev), s.Runs ∧ d = s.seen x ∧ p < 96 ∧ d.portUp p = false) ∧
    (∃ (s : State) (x : Nat) (p : Nat) (d : Dev) (b : Bytes), s.Runs ∧ d = s.seen x ∧ p < 96 ∧ d.portUp p = true ∧ 60 ≤ b.length ∧ beAt b 12 2 = 0x8808) ∧
    (∃ (s : State) (x : Nat) (p : Nat) (d : Dev) (id : _) (f : Frame) (frag : _), s.Runs ∧ d = s.seen x ∧ p < 96 ∧ d.arriving p frag = some (id, f) ∧ f.prp = none ∧ f.len ≤ d.get (E.MaxFrameBytes p) + (parse (d.get E.ExtraTpid) f.bytes).tagBytes) ∧
    (∃ (s : State) (x : Nat) (p : Nat) (d : Dev) (id : _) (f : Frame) (frag : _), s.Runs ∧ d = s.seen x ∧ p < 96 ∧ d.arriving p frag = some (id, f) ∧ f.len ≤ d.get (E.MaxFrameBytes p) + (parse (d.get E.ExtraTpid) f.bytes).tagBytes) ∧
    (∃ (s : State) (x : Nat) (p : Nat) (d : Dev) (id : _) (f : Frame) (frag : _), s.Runs ∧ d = s.seen x ∧ p < 96 ∧ d.arriving p frag = some (id, f) ∧ f.len ≤ d.get (E.MaxFrameBytes p) + (parse (d.get E.ExtraTpid) f.bytes).tagBytes) ∧
    (∃ (s : State) (x : Nat) (p : Nat) (d : Dev), s.Runs ∧ d = s.seen x ∧ p < 96 ∧ d.arriving p false = none) ∧
    (∃ (s : State) (x : Nat) (p : Nat) (d : Dev), s.Runs ∧ d = s.seen x ∧ p < 96 ∧ d.arriving p true = none) :=
  ⟨⟨s154, 5000, 95, s154.seen 5000, List.replicate 60 7, rfl, rfl, by decide +kernel⟩,
   ⟨s154, 5000, 95, s154.seen 5000, List.replicate 59 7, rfl, rfl, by decide +kernel⟩,
   ⟨s18, 5000, 95, s18.seen 5000, rfl, rfl, by decide +kernel⟩,
   ⟨s154, 5000, 95, s154.seen 5000, List.replicate 12 7 ++ [0x88, 0x08] ++ List.replicate 46 0, rfl, rfl, by decide +kernel⟩,
   ⟨s155, 5000, 95, s155.seen 5000, 1, ({ port := 95, pl := 0, bytes := List.replicate 60 0, x := 0, time := 0, tick := 0, oport := 95, ox := 0, tail := 0 } : Frame), false, rfl, rfl, by decide +kernel⟩,
   ⟨s156, 5000, 95, s156.seen 5000, 1, ({ port := 95, pl := 0, bytes := List.replicate 60 0, x := 0, time := 0, tick := 0, oport := 95, ox := 0, tail := 0, frag := true } : Frame), true, rfl, rfl, by decide +kernel⟩,
   ⟨s157, 5000, 95, s157.seen 5000, 1, ({ port := 95, pl := 0, bytes := List.replicate 60 0, x := 0, time := 0, tick := 0, oport := 95, ox := 0, tail := 0, prp := some 4 } : Frame), false, rfl, rfl, by decide +kernel⟩,
   ⟨s154, 5000, 95, s154.seen 5000, rfl, rfl, by decide +kernel⟩,
   ⟨s154, 5000, 95, s154.seen 5000, rfl, rfl, by decide +kernel⟩⟩

theorem witness_FramesLeave :
    (∃ (s : State) (x : Nat) (p : Nat) (q : Nat) (d : Dev) (pl : _) (c : Copy) (f : Frame), s.Runs ∧ d = s.seen x ∧ p < 96 ∧ q < 16 ∧ d.net.copies.getD pl [] = [c] ∧ c.port = p ∧ c.queue = q ∧ d.frame? c.entry.frame = some f ∧ f.tail ≠ 2 ∧ d.downForAdmission p = false ∧ d.entryLen p c.entry ≤ d.get (E.MaxFrameBytes p) + (parse (d.get E.ExtraTpid) (d.entryBytes p c.entry)).tagBytes ∧ (d.asOf f.x).isDhop p q = false ∧ d.net.residue = [] ∧ c.entry.target = none ∧ d.getB (E.CutThrough p) = false ∧ d.admitsTo (p * 16 + q) c.entry.colour = true) ∧
    (∃ (s : State) (x : Nat) (p : Nat) (q : Nat) (d : Dev) (pl : _) (c : Copy) (f : Frame), s.Runs ∧ d = s.seen x ∧ p < 96 ∧ q < 16 ∧ d.net.copies.getD pl [] = [c] ∧ c.port = p ∧ c.queue = q ∧ d.frame? c.entry.frame = some f ∧ f.tail ≠ 2 ∧ d.downForAdmission p = true) ∧
    (∃ (s : State) (x : Nat) (p : Nat) (q : Nat) (d : Dev) (e : QEntry) (f : Frame), s.Runs ∧ d = s.seen x ∧ p < 96 ∧ q < 16 ∧ q < 8 ∧ d.canSend p = true ∧ d.net.tx.get? p = none ∧ ((∀ k, k < 16 → k ≠ q → d.queue (p * 16 + k) = [])) ∧ d.queue (p * 16 + q) = [e] ∧ e.dhop = none ∧ e.target = none ∧ e.rest = none ∧ d.frame? e.frame = some f ∧ f.tail = 1 ∧ d.offers p q 4 = true) ∧
    (∃ (s : State) (x : Nat) (p : Nat) (q : Nat) (d : Dev) (e : QEntry) (f : Frame), s.Runs ∧ d = s.seen x ∧ p < 96 ∧ q < 16 ∧ q < 8 ∧ d.canSend p = true ∧ d.net.tx.get? p = none ∧ ((∀ k, k < 16 → k ≠ q → d.queue (p * 16 + k) = [])) ∧ d.queue (p * 16 + q) = [e] ∧ e.dhop = none ∧ e.target = none ∧ e.rest = none ∧ d.frame? e.frame = some f ∧ f.tail = 1 ∧ d.offers p q 4 = true) ∧
    (∃ (s : State) (x : Nat) (p : Nat) (q : Nat) (d : Dev), s.Runs ∧ d = s.seen x ∧ p < 96 ∧ q < 16 ∧ d.canSend p = false) ∧
    (∃ (s : State) (x : Nat) (p : Nat) (q : Nat) (d : Dev) (k : Tx) (f : Frame), s.Runs ∧ d = s.seen x ∧ p < 96 ∧ q < 16 ∧ d.net.tx.get? p = some k ∧ k.total * 64000 ≤ (d.now - k.x) * d.portRate p ∧ d.frame? k.entry.frame = some f ∧ f.tail = 1) ∧
    (∃ (s : State) (x : Nat) (p : Nat) (q : Nat) (d : Dev) (k : Tx), s.Runs ∧ d = s.seen x ∧ p < 96 ∧ q < 16 ∧ d.net.tx.get? p = some k ∧ (d.now - k.x) * d.portRate p < k.total * 64000) ∧
    (∃ (s : State) (x : Nat) (p : Nat) (q : Nat) (d : Dev), s.Runs ∧ d = s.seen x ∧ p < 96 ∧ q < 16) ∧
    (∃ (s : State) (x : Nat) (p : Nat) (q : Nat) (d : Dev) (e : QEntry) (f : Frame), s.Runs ∧ d = s.seen x ∧ p < 96 ∧ q < 16 ∧ 12 ≤ q ∧ d.canSend p = true ∧ d.get (E.PortState p) ≠ 5 ∧ d.net.tx.get? p = none ∧ ((∀ k, k < 16 → k ≠ q → d.queue (p * 16 + k) = [])) ∧ d.queue (p * 16 + q) = [e] ∧ e.rest = none ∧ d.dhopNext p = some (p * 16 + q, 0, e) ∧ d.frame? e.frame = some f ∧ f.tail = 1 ∧ d.dhopIsLate p e = false) ∧
    (∃ (s : State) (x : Nat) (p : Nat) (q : Nat) (d : Dev) (e : QEntry) (f : Frame), s.Runs ∧ d = s.seen x ∧ p < 96 ∧ q < 16 ∧ 12 ≤ q ∧ d.canSend p = true ∧ d.get (E.PortState p) ≠ 5 ∧ d.net.tx.get? p = none ∧ ((∀ k, k < 16 → k ≠ q → d.queue (p * 16 + k) = [])) ∧ d.queue (p * 16 + q) = [e] ∧ e.rest = none ∧ d.dhopNext p = some (p * 16 + q, 0, e) ∧ d.frame? e.frame = some f ∧ f.tail = 1 ∧ d.dhopIsLate p e = true ∧ d.get (E.DhopLateAction p) = 0) ∧
    (∃ (s : State) (x : Nat) (p : Nat) (q : Nat) (d : Dev) (e : QEntry) (f : Frame) (v : Int), s.Runs ∧ d = s.seen x ∧ p < 96 ∧ q < 16 ∧ 12 ≤ q ∧ d.canSend p = true ∧ d.get (E.PortState p) ≠ 5 ∧ d.net.tx.get? p = none ∧ ((∀ k, k < 16 → k ≠ q → d.queue (p * 16 + k) = [])) ∧ d.queue (p * 16 + q) = [e] ∧ e.rest = none ∧ e.dhop = none ∧ e.target = some v ∧ 0 ≤ d.lateBy p e ∧ d.frame? e.frame = some f ∧ f.tail = 1 ∧ d.launchIsLate p (p * 16 + q) e = false ∧ d.offers p q 2 = true) :=
  ⟨⟨s158, 5000, 95, 15, s158.seen 5000, 7, ({ port := 95, queue := 15, entry := ({ frame := 1 } : QEntry) } : Copy), ({ port := 3, pl := 0, bytes := List.replicate 60 0, x := 0, time := 0, tick := 0, oport := 3, ox := 0, tail := 1 } : Frame), rfl, rfl, by decide +kernel⟩,
   ⟨s159, 5000, 95, 15, s159.seen 5000, 7, ({ port := 95, queue := 15, entry := ({ frame := 1 } : QEntry) } : Copy), ({ port := 3, pl := 0, bytes := List.replicate 60 0, x := 0, time := 0, tick := 0, oport := 3, ox := 0, tail := 1 } : Frame), rfl, rfl, by decide +kernel⟩,
   ⟨s160, 5000, 95, 7, s160.seen 5000, ({ frame := 1 } : QEntry), ({ port := 3, pl := 0, bytes := List.replicate 60 0, x := 0, time := 0, tick := 0, oport := 3, ox := 0, tail := 1 } : Frame), rfl, rfl, by decide +kernel⟩,
   ⟨s161, 5000, 95, 7, s161.seen 5000, ({ frame := 1 } : QEntry), ({ port := 3, pl := 0, bytes := List.replicate 1514 0, x := 0, time := 0, tick := 0, oport := 3, ox := 0, tail := 1 } : Frame), rfl, rfl, by decide +kernel⟩,
   ⟨s162, 5000, 95, 15, s162.seen 5000, rfl, rfl, by decide +kernel⟩,
   ⟨s163, 5000, 95, 15, s163.seen 5000, ({ row := 95 * 16, entry := ({ frame := 1 } : QEntry), x := 0, len := 64 } : Tx), ({ port := 3, pl := 0, bytes := List.replicate 60 0, x := 0, time := 0, tick := 0, oport := 3, ox := 0, tail := 1 } : Frame), rfl, rfl, by decide +kernel⟩,
   ⟨s163, 1, 95, 15, s163.seen 1, ({ row := 95 * 16, entry := ({ frame := 1 } : QEntry), x := 0, len := 64 } : Tx), rfl, rfl, by decide +kernel⟩,
   ⟨s164, 5000, 95, 15, s164.seen 5000, rfl, rfl, by decide +kernel⟩,
   ⟨s165, 5, 95, 12, s165.seen 5, ({ frame := 1, dhop := some 0 } : QEntry), ({ port := 3, pl := 0, bytes := List.replicate 60 0, x := 0, time := 0, tick := 0, oport := 3, ox := 0, tail := 1 } : Frame), rfl, rfl, by decide +kernel⟩,
   ⟨s166, 10000000, 95, 15, s166.seen 10000000, ({ frame := 1, dhop := some 0 } : QEntry), ({ port := 3, pl := 0, bytes := List.replicate 60 0, x := 0, time := 0, tick := 0, oport := 3, ox := 0, tail := 1 } : Frame), rfl, rfl, by decide +kernel⟩,
   ⟨s167, 5, 95, 15, s167.seen 5, ({ frame := 1, target := some 0 } : QEntry), ({ port := 3, pl := 0, bytes := List.replicate 60 0, x := 0, time := 0, tick := 0, oport := 3, ox := 0, tail := 1 } : Frame), (0 : Int), rfl, rfl, by decide +kernel⟩⟩

theorem witness_FramesTakeSideWays :
    (∃ (s : State) (x : Nat) (r : Nat) (d : Dev) (i : _) (e : QEntry) (f : Frame), s.Runs ∧ d = s.seen x ∧ d.hbmUp = true ∧ firstPart 1 (d.queue r) = some (i, e) ∧ d.frame? e.frame = some f ∧ f.tail ≠ 0 ∧ d.spillFits r (cdiv f.len 256) = true) ∧
    (∃ (s : State) (x : Nat) (r : Nat) (d : Dev) (i : _) (e : QEntry) (f : _), s.Runs ∧ d = s.seen x ∧ d.hbmUp = true ∧ firstPart 1 (d.queue r) = some (i, e) ∧ d.frame? e.frame = some f ∧ f.tail ≠ 0 ∧ e.counted = false ∧ d.spillFits r (cdiv f.len 256) = false) ∧
    (∃ (s : State) (x : Nat) (r : Nat) (d : Dev) (i : _) (e : QEntry), s.Runs ∧ d = s.seen x ∧ d.hbmUp = true ∧ d.headPart r < Row.QueueConfig.spillOn (d.row T.QueueConfig r) ∧ firstPart 2 (d.queue r) = some (i, e)) ∧
    (∃ (s : State) (x : Nat) (d : Dev), s.Runs ∧ d = s.seen x ∧ d.hbmUp = false) ∧
    (∃ (s : State) (x : Nat) (pl : Nat) (d : Dev) (id : _) (f : Frame), s.Runs ∧ d = s.seen x ∧ d.net.recirc = [id] ∧ d.frame? id = some f ∧ f.pl = pl) ∧
    (∃ (s : State) (x : Nat) (d : Dev), s.Runs ∧ d = s.seen x ∧ d.net.recirc = []) ∧
    (∃ (s : State) (x : Nat) (pl : Nat) (d : Dev) (k : _) (v : SamplePend), s.Runs ∧ d = s.seen x ∧ d.net.samples = [v] ∧ v.pl = pl ∧ v.sampler = k ∧ v.ready = true ∧ Row.Samplers.target (d.row T.Samplers k) = 1) ∧
    (∃ (s : State) (x : Nat) (pl : Nat) (d : Dev) (k : _) (v : SamplePend) (ring : _), s.Runs ∧ d = s.seen x ∧ d.net.samples = [v] ∧ v.pl = pl ∧ v.sampler = k ∧ v.ready = true ∧ Row.Samplers.target (d.row T.Samplers k) ≠ 1 ∧ Row.Samplers.ringFromSpread (d.row T.Samplers k) ≠ 1 ∧ ring = Row.Samplers.ring (d.row T.Samplers k) ∧ (d.ring ring).enable = false ∧ k < 16) ∧
    (∃ (s : State) (x : Nat) (pl : Nat) (d : Dev) (id : _) (f : Frame), s.Runs ∧ d = s.seen x ∧ d.net.reentry = [id] ∧ d.frame? id = some f ∧ f.pl = pl ∧ f.tail = 1) ∧
    (∃ (s : State) (x : Nat) (pl : Nat) (d : Dev) (id : _) (f : Frame), s.Runs ∧ d = s.seen x ∧ d.net.reentry = [id] ∧ d.frame? id = some f ∧ f.pl = pl ∧ f.tail = 2) :=
  ⟨⟨s168, 5, 1599, s168.seen 5, 1, ({ frame := 1, part := 1 } : QEntry), ({ port := 3, pl := 0, bytes := List.replicate 60 0, x := 0, time := 0, tick := 0, oport := 3, ox := 0, tail := 1 } : Frame), rfl, rfl, by decide +kernel⟩,
   (frameOfLen (2 ^ 40)).elim fun f h => ⟨spillState f, 5, 1599, (spillState f).seen 5, 1, { frame := 1, part := 1 }, f, rfl, rfl, rfl, rfl, rfl, by simp [h.1], rfl, noRoom f h.2⟩,
   ⟨s169, 5, 1599, s169.seen 5, 0, ({ frame := 1, part := 2 } : QEntry), rfl, rfl, by decide +kernel⟩,
   ⟨s18, 5, s18.seen 5, rfl, rfl, by decide +kernel⟩,
   ⟨s170, 5, 7, s170.seen 5, 1, ({ port := 3, pl := 7, bytes := List.replicate 60 0, x := 0, time := 0, tick := 0, oport := 3, ox := 0, tail := 1 } : Frame), rfl, rfl, by decide +kernel⟩,
   ⟨s18, 5, s18.seen 5, rfl, rfl, by decide +kernel⟩,
   ⟨s171, 5, 7, s171.seen 5, 15, ({ sampler := 15, pl := 7, frame := 1, seq := 3, offered := 9, ready := true, bytes := List.replicate 64 5 } : SamplePend), rfl, rfl, by decide +kernel⟩,
   ⟨s172, 5, 7, s172.seen 5, 15, ({ sampler := 15, pl := 7, frame := 1, seq := 3, offered := 9, ready := true, bytes := List.replicate 64 5 } : SamplePend), 7, rfl, rfl, by decide +kernel⟩,
   ⟨s173, 5, 7, s173.seen 5, 1, ({ port := 3, pl := 7, bytes := List.replicate 60 0, x := 0, time := 0, tick := 0, oport := 3, ox := 0, tail := 1 } : Frame), rfl, rfl, by decide +kernel⟩,
   ⟨s174, 5, 7, s174.seen 5, 1, ({ port := 3, pl := 7, bytes := List.replicate 60 0, x := 0, time := 0, tick := 0, oport := 3, ox := 0, tail := 2 } : Frame), rfl, rfl, by decide +kernel⟩⟩

theorem witness_ActionWordsOnTheContext :
    (∃ (s : State) (pl : Nat) (w : BitVec 26) (n : Nat) (st : Stage) (f : Frame) (d : Dev) (k : _), s.Runs ∧ d = s.seen s.dev.now ∧ pl < 8 ∧ n = w.toNat ∧ d.stageAt pl = some st ∧ d.frame? st.frame = some f ∧ st.ended = false ∧ st.pc + 1 < st.len ∧ st.skip = k + 1) ∧
    (∃ (s : State) (pl : Nat) (w : BitVec 26) (n : Nat) (st : Stage) (f : Frame) (d : Dev), s.Runs ∧ d = s.seen s.dev.now ∧ pl < 8 ∧ n = w.toNat ∧ d.stageAt pl = some st ∧ d.frame? st.frame = some f ∧ st.ended = false ∧ st.pc + 1 < st.len ∧ st.skip = 0) ∧
    (∃ (s : State) (pl : Nat) (w : BitVec 26) (n : Nat) (st : Stage) (f : Frame) (d : Dev), s.Runs ∧ d = s.seen s.dev.now ∧ pl < 8 ∧ n = w.toNat ∧ d.stageAt pl = some st ∧ d.frame? st.frame = some f ∧ st.ended = false ∧ st.pc + 1 < st.len ∧ st.skip = 0) ∧
    (∃ (s : State) (pl : Nat) (w : BitVec 26) (n : Nat) (st : Stage) (f : Frame) (d : Dev), s.Runs ∧ d = s.seen s.dev.now ∧ pl < 8 ∧ n = w.toNat ∧ d.stageAt pl = some st ∧ d.frame? st.frame = some f ∧ st.ended = false ∧ st.pc + 1 < st.len ∧ st.skip = 0 ∧ fld n 25 24 = 2) ∧
    (∃ (s : State) (pl : Nat) (w : BitVec 26) (n : Nat) (st : Stage) (f : Frame) (d : Dev), s.Runs ∧ d = s.seen s.dev.now ∧ pl < 8 ∧ n = w.toNat ∧ d.stageAt pl = some st ∧ d.frame? st.frame = some f ∧ st.ended = false ∧ st.pc + 1 < st.len ∧ st.skip = 0 ∧ fld n 25 24 = 0) ∧
    (∃ (s : State) (pl : Nat) (w : BitVec 26) (n : Nat) (st : Stage) (f : Frame) (d : Dev), s.Runs ∧ d = s.seen s.dev.now ∧ pl < 8 ∧ n = w.toNat ∧ d.stageAt pl = some st ∧ d.frame? st.frame = some f ∧ st.ended = false ∧ st.pc + 1 < st.len ∧ st.skip = 0 ∧ fld n 25 24 = 0) ∧
    (∃ (s : State) (pl : Nat) (w : BitVec 26) (n : Nat) (st : Stage) (f : Frame) (d : Dev), s.Runs ∧ d = s.seen s.dev.now ∧ pl < 8 ∧ n = w.toNat ∧ d.stageAt pl = some st ∧ d.frame? st.frame = some f ∧ st.ended = false ∧ st.pc + 1 < st.len ∧ st.skip = 0 ∧ fld n 25 24 = 1 ∧ f.ctx.nh = none) ∧
    (∃ (s : State) (pl : Nat) (w : BitVec 26) (n : Nat) (st : Stage) (f : Frame) (d : Dev) (k : _), s.Runs ∧ d = s.seen s.dev.now ∧ pl < 8 ∧ n = w.toNat ∧ d.stageAt pl = some st ∧ d.frame? st.frame = some f ∧ st.ended = false ∧ st.pc + 1 < st.len ∧ st.skip = 0 ∧ k = (if skipCond f (fld n 24 21) (fld n 15 0) != bit n 25 then fld n 20 17 else 0)) ∧
    (∃ (s : State) (pl : Nat) (w : BitVec 26) (n : Nat) (st : Stage) (f : Frame) (d : Dev) (k : _), s.Runs ∧ d = s.seen s.dev.now ∧ pl < 8 ∧ n = w.toNat ∧ d.stageAt pl = some st ∧ d.frame? st.frame = some f ∧ st.ended = false ∧ st.pc + 1 < st.len ∧ st.skip = 0 ∧ k = (if skipCond f (fld n 24 21) (fld n 15 0) != bit n 25 then fld n 20 17 else 0)) ∧
    (∃ (s : State) (pl : Nat) (w : BitVec 26) (n : Nat) (st : Stage) (f : Frame) (d : Dev), s.Runs ∧ d = s.seen s.dev.now ∧ pl < 8 ∧ n = w.toNat ∧ d.stageAt pl = some st ∧ d.frame? st.frame = some f ∧ st.ended = false ∧ st.pc + 1 < st.len ∧ st.skip = 0) ∧
    (∃ (s : State) (pl : Nat) (w : BitVec 26) (n : Nat) (st : Stage) (f : Frame) (d : Dev) (r : _) (v : _), s.Runs ∧ d = s.seen s.dev.now ∧ pl < 8 ∧ n = w.toNat ∧ d.stageAt pl = some st ∧ d.frame? st.frame = some f ∧ st.ended = false ∧ st.pc + 1 < st.len ∧ st.skip = 0 ∧ r = d.row T.MirrorSessions (fld n 3 0) ∧ Row.MirrorSessions.valid r = 1 ∧ Row.MirrorSessions.truncEn r = 0 ∧ Row.MirrorSessions.tagEn r = 0 ∧ v = Row.MirrorSessions.dest r ∧ destKind v = 0 ∧ d.isTether (destOf v) = false) :=
  ⟨⟨s175, 7, 0x0#26, 0x0, ({ frame := 1, base := 0, len := 3, arg := 9, skip := 1 } : Stage), ({ port := 3, pl := 7, bytes := ([2, 0, 0, 0, 0, 1, 2, 0, 0, 0, 0, 2, 18, 52] ++ List.replicate 46 0 : Bytes), x := 0, time := 0, tick := 0, oport := 3, ox := 0, tail := 1 } : Frame), s175.seen s175.dev.now, 0, rfl, rfl, by decide +kernel⟩,
   ⟨s176, 7, 0x0#26, 0x0, ({ frame := 1, base := 0, len := 3, arg := 9 } : Stage), ({ port := 3, pl := 7, bytes := ([2, 0, 0, 0, 0, 1, 2, 0, 0, 0, 0, 2, 18, 52] ++ List.replicate 46 0 : Bytes), x := 0, time := 0, tick := 0, oport := 3, ox := 0, tail := 1 } : Frame), s176.seen s176.dev.now, rfl, rfl, by decide +kernel⟩,
   ⟨s176, 7, 0x3f7c000#26, 0x3f7c000, ({ frame := 1, base := 0, len := 3, arg := 9 } : Stage), ({ port := 3, pl := 7, bytes := ([2, 0, 0, 0, 0, 1, 2, 0, 0, 0, 0, 2, 18, 52] ++ List.replicate 46 0 : Bytes), x := 0, time := 0, tick := 0, oport := 3, ox := 0, tail := 1 } : Frame), s176.seen s176.dev.now, rfl, rfl, by decide +kernel⟩,
   ⟨s176, 7, 0x200ffff#26, 0x200ffff, ({ frame := 1, base := 0, len := 3, arg := 9 } : Stage), ({ port := 3, pl := 7, bytes := ([2, 0, 0, 0, 0, 1, 2, 0, 0, 0, 0, 2, 18, 52] ++ List.replicate 46 0 : Bytes), x := 0, time := 0, tick := 0, oport := 3, ox := 0, tail := 1 } : Frame), s176.seen s176.dev.now, rfl, rfl, by decide +kernel⟩,
   ⟨s176, 7, 0xffff#26, 0xffff, ({ frame := 1, base := 0, len := 3, arg := 9 } : Stage), ({ port := 3, pl := 7, bytes := ([2, 0, 0, 0, 0, 1, 2, 0, 0, 0, 0, 2, 18, 52] ++ List.replicate 46 0 : Bytes), x := 0, time := 0, tick := 0, oport := 3, ox := 0, tail := 1 } : Frame), s176.seen s176.dev.now, rfl, rfl, by decide +kernel⟩,
   ⟨s177, 7, 0x0#26, 0x0, ({ frame := 1, base := 0, len := 3, arg := 9 } : Stage), ({ port := 3, pl := 7, bytes := ([2, 0, 0, 0, 0, 1, 2, 0, 0, 0, 0, 2, 18, 52] ++ List.replicate 46 0 : Bytes), x := 0, time := 0, tick := 0, oport := 3, ox := 0, tail := 1, ctx := { bridged := some 3, dest := some 9 } } : Frame), s177.seen s177.dev.now, rfl, rfl, by decide +kernel⟩,
   ⟨s176, 7, 0x1000000#26, 0x1000000, ({ frame := 1, base := 0, len := 3, arg := 9 } : Stage), ({ port := 3, pl := 7, bytes := ([2, 0, 0, 0, 0, 1, 2, 0, 0, 0, 0, 2, 18, 52] ++ List.replicate 46 0 : Bytes), x := 0, time := 0, tick := 0, oport := 3, ox := 0, tail := 1 } : Frame), s176.seen s176.dev.now, rfl, rfl, by decide +kernel⟩,
   ⟨s176, 7, 0x25e0000#26, 0x25e0000, ({ frame := 1, base := 0, len := 3, arg := 9 } : Stage), ({ port := 3, pl := 7, bytes := ([2, 0, 0, 0, 0, 1, 2, 0, 0, 0, 0, 2, 18, 52] ++ List.replicate 46 0 : Bytes), x := 0, time := 0, tick := 0, oport := 3, ox := 0, tail := 1 } : Frame), s176.seen s176.dev.now, 15, rfl, rfl, by decide +kernel⟩,
   ⟨s176, 7, 0x5e0000#26, 0x5e0000, ({ frame := 1, base := 0, len := 3, arg := 9 } : Stage), ({ port := 3, pl := 7, bytes := ([2, 0, 0, 0, 0, 1, 2, 0, 0, 0, 0, 2, 18, 52] ++ List.replicate 46 0 : Bytes), x := 0, time := 0, tick := 0, oport := 3, ox := 0, tail := 1 } : Frame), s176.seen s176.dev.now, 0, rfl, rfl, by decide +kernel⟩,
   ⟨s176, 7, 0xffff#26, 0xffff, ({ frame := 1, base := 0, len := 3, arg := 9 } : Stage), ({ port := 3, pl := 7, bytes := ([2, 0, 0, 0, 0, 1, 2, 0, 0, 0, 0, 2, 18, 52] ++ List.replicate 46 0 : Bytes), x := 0, time := 0, tick := 0, oport := 3, ox := 0, tail := 1 } : Frame), s176.seen s176.dev.now, rfl, rfl, by decide +kernel⟩,
   ⟨s178, 7, 0xf#26, 0xf, ({ frame := 1, base := 0, len := 3, arg := 9 } : Stage), ({ port := 3, pl := 7, bytes := ([2, 0, 0, 0, 0, 1, 2, 0, 0, 0, 0, 2, 18, 52] ++ List.replicate 46 0 : Bytes), x := 0, time := 0, tick := 0, oport := 3, ox := 0, tail := 1 } : Frame), s178.seen s178.dev.now, 0x80000003802f8000, 95, rfl, rfl, by decide +kernel⟩⟩

theorem witness_ActionWordsOnTheContext_2 :
    (∃ (s : State) (pl : Nat) (w : BitVec 26) (n : Nat) (st : Stage) (f : Frame) (d : Dev) (r : _), s.Runs ∧ d = s.seen s.dev.now ∧ pl < 8 ∧ n = w.toNat ∧ d.stageAt pl = some st ∧ d.frame? st.frame = some f ∧ st.ended = false ∧ st.pc + 1 < st.len ∧ st.skip = 0 ∧ r = d.row T.MirrorSessions (fld n 3 0) ∧ Row.MirrorSessions.valid r = 0) ∧
    (∃ (s : State) (pl : Nat) (w : BitVec 26) (n : Nat) (st : Stage) (f : Frame) (d : Dev) (r : _) (c : _), s.Runs ∧ d = s.seen s.dev.now ∧ pl < 8 ∧ n = w.toNat ∧ d.stageAt pl = some st ∧ d.frame? st.frame = some f ∧ st.ended = false ∧ st.pc + 1 < st.len ∧ st.skip = 0 ∧ r = d.row T.Samplers (fld n 3 0) ∧ Row.Samplers.valid r = 1 ∧ c = d.net.offers.getD (fld n 3 0 * 8 + pl) 0 + 1 ∧ Row.Samplers.n r ≤ c) ∧
    (∃ (s : State) (pl : Nat) (w : BitVec 26) (n : Nat) (st : Stage) (f : Frame) (d : Dev) (r : _) (c : _), s.Runs ∧ d = s.seen s.dev.now ∧ pl < 8 ∧ n = w.toNat ∧ d.stageAt pl = some st ∧ d.frame? st.frame = some f ∧ st.ended = false ∧ st.pc + 1 < st.len ∧ st.skip = 0 ∧ r = d.row T.Samplers (fld n 3 0) ∧ Row.Samplers.valid r = 1 ∧ c = d.net.offers.getD (fld n 3 0 * 8 + pl) 0 + 1 ∧ c < Row.Samplers.n r) ∧
    (∃ (s : State) (pl : Nat) (w : BitVec 26) (n : Nat) (st : Stage) (f : Frame) (d : Dev), s.Runs ∧ d = s.seen s.dev.now ∧ pl < 8 ∧ n = w.toNat ∧ d.stageAt pl = some st ∧ d.frame? st.frame = some f ∧ st.ended = false ∧ st.pc + 1 < st.len ∧ st.skip = 0 ∧ fld n 25 24 = 0 ∧ bit n 23 = true ∧ bit n 22 = false) ∧
    (∃ (s : State) (pl : Nat) (w : BitVec 26) (n : Nat) (st : Stage) (f : Frame) (d : Dev), s.Runs ∧ d = s.seen s.dev.now ∧ pl < 8 ∧ n = w.toNat ∧ d.stageAt pl = some st ∧ d.frame? st.frame = some f ∧ st.ended = false ∧ st.pc + 1 < st.len ∧ st.skip = 0 ∧ fld n 25 24 ≠ 2 ∧ bit n 23 = false) ∧
    (∃ (s : State) (pl : Nat) (w : BitVec 26) (n : Nat) (st : Stage) (f : Frame) (d : Dev), s.Runs ∧ d = s.seen s.dev.now ∧ pl < 8 ∧ n = w.toNat ∧ d.stageAt pl = some st ∧ d.frame? st.frame = some f ∧ st.ended = false ∧ st.pc + 1 < st.len ∧ st.skip = 0 ∧ fld n 25 24 ≠ 2 ∧ bit n 23 = false) ∧
    (∃ (s : State) (pl : Nat) (w : BitVec 26) (n : Nat) (st : Stage) (f : Frame) (d : Dev), s.Runs ∧ d = s.seen s.dev.now ∧ pl < 8 ∧ n = w.toNat ∧ d.stageAt pl = some st ∧ d.frame? st.frame = some f ∧ st.ended = false ∧ st.pc + 1 < st.len ∧ st.skip = 0 ∧ fld n 25 24 ≠ 2 ∧ bit n 23 = false) ∧
    (∃ (s : State) (pl : Nat) (w : BitVec 26) (n : Nat) (st : Stage) (f : Frame) (d : Dev), s.Runs ∧ d = s.seen s.dev.now ∧ pl < 8 ∧ n = w.toNat ∧ d.stageAt pl = some st ∧ d.frame? st.frame = some f ∧ st.ended = false ∧ st.pc + 1 < st.len ∧ st.skip = 0 ∧ fld n 25 24 = 0) ∧
    (∃ (s : State) (pl : Nat) (w : BitVec 26) (n : Nat) (st : Stage) (f : Frame) (d : Dev), s.Runs ∧ d = s.seen s.dev.now ∧ pl < 8 ∧ n = w.toNat ∧ d.stageAt pl = some st ∧ d.frame? st.frame = some f ∧ st.ended = false ∧ st.pc + 1 < st.len ∧ st.skip = 0 ∧ fld n 24 23 = 0) ∧
    (∃ (s : State) (pl : Nat) (w : BitVec 26) (n : Nat) (st : Stage) (f : Frame) (d : Dev), s.Runs ∧ d = s.seen s.dev.now ∧ pl < 8 ∧ n = w.toNat ∧ d.stageAt pl = some st ∧ d.frame? st.frame = some f ∧ st.ended = false ∧ st.pc + 1 < st.len ∧ st.skip = 0 ∧ fld n 24 23 = 0) :=
  ⟨⟨s179, 7, 0xf#26, 0xf, ({ frame := 1, base := 0, len := 3, arg := 9 } : Stage), ({ port := 3, pl := 7, bytes := ([2, 0, 0, 0, 0, 1, 2, 0, 0, 0, 0, 2, 18, 52] ++ List.replicate 46 0 : Bytes), x := 0, time := 0, tick := 0, oport := 3, ox := 0, tail := 1 } : Frame), s179.seen s179.dev.now, 0, rfl, rfl, by decide +kernel⟩,
   ⟨s180, 7, 0xf#26, 0xf, ({ frame := 1, base := 0, len := 3, arg := 9 } : Stage), ({ port := 3, pl := 7, bytes := ([2, 0, 0, 0, 0, 1, 2, 0, 0, 0, 0, 2, 18, 52] ++ List.replicate 46 0 : Bytes), x := 0, time := 0, tick := 0, oport := 3, ox := 0, tail := 1 } : Frame), s180.seen s180.dev.now, 0x8000000001000000, 1, rfl, rfl, by decide +kernel⟩,
   ⟨s181, 7, 0xf#26, 0xf, ({ frame := 1, base := 0, len := 3, arg := 9 } : Stage), ({ port := 3, pl := 7, bytes := ([2, 0, 0, 0, 0, 1, 2, 0, 0, 0, 0, 2, 18, 52] ++ List.replicate 46 0 : Bytes), x := 0, time := 0, tick := 0, oport := 3, ox := 0, tail := 1 } : Frame), s181.seen s181.dev.now, 0x8000000002000000, 1, rfl, rfl, by decide +kernel⟩,
   ⟨s176, 7, 0xb8ffff#26, 0xb8ffff, ({ frame := 1, base := 0, len := 3, arg := 9 } : Stage), ({ port := 3, pl := 7, bytes := ([2, 0, 0, 0, 0, 1, 2, 0, 0, 0, 0, 2, 18, 52] ++ List.replicate 46 0 : Bytes), x := 0, time := 0, tick := 0, oport := 3, ox := 0, tail := 1 } : Frame), s176.seen s176.dev.now, rfl, rfl, by decide +kernel⟩,
   ⟨s176, 7, 0x380000#26, 0x380000, ({ frame := 1, base := 0, len := 3, arg := 9 } : Stage), ({ port := 3, pl := 7, bytes := ([2, 0, 0, 0, 0, 1, 2, 0, 0, 0, 0, 2, 18, 52] ++ List.replicate 46 0 : Bytes), x := 0, time := 0, tick := 0, oport := 3, ox := 0, tail := 1 } : Frame), s176.seen s176.dev.now, rfl, rfl, by decide +kernel⟩,
   ⟨s176, 7, 0x1000000#26, 0x1000000, ({ frame := 1, base := 0, len := 3, arg := 9 } : Stage), ({ port := 3, pl := 7, bytes := ([2, 0, 0, 0, 0, 1, 2, 0, 0, 0, 0, 2, 18, 52] ++ List.replicate 46 0 : Bytes), x := 0, time := 0, tick := 0, oport := 3, ox := 0, tail := 1 } : Frame), s176.seen s176.dev.now, rfl, rfl, by decide +kernel⟩,
   ⟨s176, 7, 0x3000000#26, 0x3000000, ({ frame := 1, base := 0, len := 3, arg := 9 } : Stage), ({ port := 3, pl := 7, bytes := ([2, 0, 0, 0, 0, 1, 2, 0, 0, 0, 0, 2, 18, 52] ++ List.replicate 46 0 : Bytes), x := 0, time := 0, tick := 0, oport := 3, ox := 0, tail := 1 } : Frame), s176.seen s176.dev.now, rfl, rfl, by decide +kernel⟩,
   ⟨s182, 7, 0xfff000#26, 0xfff000, ({ frame := 1, base := 0, len := 3, arg := 9 } : Stage), ({ port := 3, pl := 7, bytes := ([2, 0, 0, 0, 0, 1, 2, 0, 0, 0, 0, 2, 18, 52] ++ List.replicate 46 0 : Bytes), x := 0, time := 0, tick := 3, oport := 3, ox := 0, tail := 1 } : Frame), s182.seen s182.dev.now, rfl, rfl, by decide +kernel⟩,
   ⟨s176, 7, 0x7f80ff#26, 0x7f80ff, ({ frame := 1, base := 0, len := 3, arg := 9 } : Stage), ({ port := 3, pl := 7, bytes := ([2, 0, 0, 0, 0, 1, 2, 0, 0, 0, 0, 2, 18, 52] ++ List.replicate 46 0 : Bytes), x := 0, time := 0, tick := 0, oport := 3, ox := 0, tail := 1 } : Frame), s176.seen s176.dev.now, rfl, rfl, by decide +kernel⟩,
   ⟨s176, 7, 0x20000ff#26, 0x20000ff, ({ frame := 1, base := 0, len := 3, arg := 9 } : Stage), ({ port := 3, pl := 7, bytes := ([2, 0, 0, 0, 0, 1, 2, 0, 0, 0, 0, 2, 18, 52] ++ List.replicate 46 0 : Bytes), x := 0, time := 0, tick := 0, oport := 3, ox := 0, tail := 1 } : Frame), s176.seen s176.dev.now, rfl, rfl, by decide +kernel⟩⟩

theorem witness_ActionWordsEditTheFrame :
    (∃ (s : State) (pl : Nat) (w : BitVec 26) (n : Nat) (st : Stage) (f : Frame) (q : Parsed) (b : Bytes) (d : Dev) (v : _), s.Runs ∧ d = s.seen s.dev.now ∧ pl < 8 ∧ n = w.toNat ∧ d.stageAt pl = some st ∧ d.frame? st.frame = some f ∧ st.ended = false ∧ st.skip = 0 ∧ st.pc + 1 < st.len ∧ d.head st f = (q, b) ∧ st.edits.length < 8 ∧ fld n 25 24 = 0 ∧ q.vlans.length < 3 ∧ bit n 21 = false ∧ vidOf f.ctx (fld n 23 22) (fld n 11 0) = some v) ∧
    (∃ (s : State) (pl : Nat) (w : BitVec 26) (n : Nat) (st : Stage) (f : Frame) (q : Parsed) (b : Bytes) (d : Dev) (v : _), s.Runs ∧ d = s.seen s.dev.now ∧ pl < 8 ∧ n = w.toNat ∧ d.stageAt pl = some st ∧ d.frame? st.frame = some f ∧ st.ended = false ∧ st.skip = 0 ∧ st.pc + 1 < st.len ∧ d.head st f = (q, b) ∧ st.edits.length < 8 ∧ fld n 25 24 = 0 ∧ q.vlans.length < 3 ∧ bit n 21 = false ∧ vidOf f.ctx (fld n 23 22) (fld n 11 0) = some v) ∧
    (∃ (s : State) (pl : Nat) (w : BitVec 26) (n : Nat) (st : Stage) (f : Frame) (q : Parsed) (b : Bytes) (d : Dev), s.Runs ∧ d = s.seen s.dev.now ∧ pl < 8 ∧ n = w.toNat ∧ d.stageAt pl = some st ∧ d.frame? st.frame = some f ∧ st.ended = false ∧ st.skip = 0 ∧ st.pc + 1 < st.len ∧ d.head st f = (q, b) ∧ 3 ≤ q.vlans.length) ∧
    (∃ (s : State) (pl : Nat) (w : BitVec 26) (n : Nat) (st : Stage) (f : Frame) (q : Parsed) (b : Bytes) (d : Dev), s.Runs ∧ d = s.seen s.dev.now ∧ pl < 8 ∧ n = w.toNat ∧ d.stageAt pl = some st ∧ d.frame? st.frame = some f ∧ st.ended = false ∧ st.skip = 0 ∧ st.pc + 1 < st.len ∧ d.head st f = (q, b) ∧ st.edits.length < 8 ∧ fld n 25 24 ≤ q.vlans.length) ∧
    (∃ (s : State) (pl : Nat) (w : BitVec 26) (n : Nat) (st : Stage) (f : Frame) (q : Parsed) (b : Bytes) (d : Dev), s.Runs ∧ d = s.seen s.dev.now ∧ pl < 8 ∧ n = w.toNat ∧ d.stageAt pl = some st ∧ d.frame? st.frame = some f ∧ st.ended = false ∧ st.skip = 0 ∧ st.pc + 1 < st.len ∧ d.head st f = (q, b) ∧ st.edits.length < 8 ∧ fld n 25 24 ≤ q.vlans.length) ∧
    (∃ (s : State) (pl : Nat) (w : BitVec 26) (n : Nat) (st : Stage) (f : Frame) (q : Parsed) (b : Bytes) (d : Dev), s.Runs ∧ d = s.seen s.dev.now ∧ pl < 8 ∧ n = w.toNat ∧ d.stageAt pl = some st ∧ d.frame? st.frame = some f ∧ st.ended = false ∧ st.skip = 0 ∧ st.pc + 1 < st.len ∧ d.head st f = (q, b) ∧ st.edits.length < 8 ∧ fld n 25 24 ≤ q.vlans.length) ∧
    (∃ (s : State) (pl : Nat) (w : BitVec 26) (n : Nat) (st : Stage) (f : Frame) (q : Parsed) (b : Bytes) (d : Dev), s.Runs ∧ d = s.seen s.dev.now ∧ pl < 8 ∧ n = w.toNat ∧ d.stageAt pl = some st ∧ d.frame? st.frame = some f ∧ st.ended = false ∧ st.skip = 0 ∧ st.pc + 1 < st.len ∧ d.head st f = (q, b) ∧ 8 ≤ st.edits.length) ∧
    (∃ (s : State) (pl : Nat) (w : BitVec 26) (n : Nat) (st : Stage) (f : Frame) (q : Parsed) (b : Bytes) (d : Dev), s.Runs ∧ d = s.seen s.dev.now ∧ pl < 8 ∧ n = w.toNat ∧ d.stageAt pl = some st ∧ d.frame? st.frame = some f ∧ st.ended = false ∧ st.skip = 0 ∧ st.pc + 1 < st.len ∧ d.head st f = (q, b) ∧ st.edits.length < 8 ∧ q.vlans ≠ [] ∧ bit n 25 = true ∧ bit n 24 = false ∧ bit n 23 = false ∧ bit n 20 = true ∧ fld n 22 21 = 0) ∧
    (∃ (s : State) (pl : Nat) (w : BitVec 26) (n : Nat) (st : Stage) (f : Frame) (q : Parsed) (b : Bytes) (d : Dev), s.Runs ∧ d = s.seen s.dev.now ∧ pl < 8 ∧ n = w.toNat ∧ d.stageAt pl = some st ∧ d.frame? st.frame = some f ∧ st.ended = false ∧ st.skip = 0 ∧ st.pc + 1 < st.len ∧ d.head st f = (q, b) ∧ st.edits.length < 8 ∧ fld n 25 24 = 2 ∧ fld n 23 22 = 2) ∧
    (∃ (s : State) (pl : Nat) (w : BitVec 26) (n : Nat) (st : Stage) (f : Frame) (q : Parsed) (b : Bytes) (d : Dev), s.Runs ∧ d = s.seen s.dev.now ∧ pl < 8 ∧ n = w.toNat ∧ d.stageAt pl = some st ∧ d.frame? st.frame = some f ∧ st.ended = false ∧ st.skip = 0 ∧ st.pc + 1 < st.len ∧ d.head st f = (q, b) ∧ st.edits.length < 8 ∧ q.l3Ok b = true ∧ 2 ≤ beAt b (q.l3 + if q.kind = 1 then 8 else 7) 1) :=
  ⟨⟨s183, 7, 0x1e0ffe#26, 0x1e0ffe, ({ frame := 1, base := 0, len := 3, arg := 9, edits := List.replicate 7 .ttl } : Stage), ({ port := 3, pl := 7, bytes := ([2, 0, 0, 0, 0, 1, 2, 0, 0, 0, 0, 2, 18, 52] ++ List.replicate 46 0 : Bytes), x := 0, time := 0, tick := 0, oport := 3, ox := 0, tail := 1 } : Frame), (((s183).seen (s183).dev.now).head (({ frame := 1, base := 0, len := 3, arg := 9, edits := List.replicate 7 .ttl } : Stage)) (({ port := 3, pl := 7, bytes := ([2, 0, 0, 0, 0, 1, 2, 0, 0, 0, 0, 2, 18, 52] ++ List.replicate 46 0 : Bytes), x := 0, time := 0, tick := 0, oport := 3, ox := 0, tail := 1 } : Frame))).1, (((s183).seen (s183).dev.now).head (({ frame := 1, base := 0, len := 3, arg := 9, edits := List.replicate 7 .ttl } : Stage)) (({ port := 3, pl := 7, bytes := ([2, 0, 0, 0, 0, 1, 2, 0, 0, 0, 0, 2, 18, 52] ++ List.replicate 46 0 : Bytes), x := 0, time := 0, tick := 0, oport := 3, ox := 0, tail := 1 } : Frame))).2, s183.seen s183.dev.now, 4094, rfl, rfl, by decide +kernel⟩,
   ⟨s184, 7, 0xc00000#26, 0xc00000, ({ frame := 1, base := 0, len := 3, arg := 9 } : Stage), ({ port := 3, pl := 7, bytes := ([2, 0, 0, 0, 0, 1, 2, 0, 0, 0, 0, 2, 18, 52] ++ List.replicate 46 0 : Bytes), x := 0, time := 0, tick := 0, oport := 3, ox := 0, tail := 1, ctx := { tag := 4097 } } : Frame), (((s184).seen (s184).dev.now).head (({ frame := 1, base := 0, len := 3, arg := 9 } : Stage)) (({ port := 3, pl := 7, bytes := ([2, 0, 0, 0, 0, 1, 2, 0, 0, 0, 0, 2, 18, 52] ++ List.replicate 46 0 : Bytes), x := 0, time := 0, tick := 0, oport := 3, ox := 0, tail := 1, ctx := { tag := 4097 } } : Frame))).1, (((s184).seen (s184).dev.now).head (({ frame := 1, base := 0, len := 3, arg := 9 } : Stage)) (({ port := 3, pl := 7, bytes := ([2, 0, 0, 0, 0, 1, 2, 0, 0, 0, 0, 2, 18, 52] ++ List.replicate 46 0 : Bytes), x := 0, time := 0, tick := 0, oport := 3, ox := 0, tail := 1, ctx := { tag := 4097 } } : Frame))).2, s184.seen s184.dev.now, 1, rfl, rfl, by decide +kernel⟩,
   ⟨s185, 7, 0x0#26, 0x0, ({ frame := 1, base := 0, len := 3, arg := 9 } : Stage), ({ port := 3, pl := 7, bytes := ([2, 0, 0, 0, 0, 1, 2, 0, 0, 0, 0, 2, 129, 0, 0, 5, 129, 0, 0, 5, 129, 0, 0, 5, 18, 52] ++ List.replicate 34 0 : Bytes), x := 0, time := 0, tick := 0, oport := 3, ox := 0, tail := 1 } : Frame), (((s185).seen (s185).dev.now).head (({ frame := 1, base := 0, len := 3, arg := 9 } : Stage)) (({ port := 3, pl := 7, bytes := ([2, 0, 0, 0, 0, 1, 2, 0, 0, 0, 0, 2, 129, 0, 0, 5, 129, 0, 0, 5, 129, 0, 0, 5, 18, 52] ++ List.replicate 34 0 : Bytes), x := 0, time := 0, tick := 0, oport := 3, ox := 0, tail := 1 } : Frame))).1, (((s185).seen (s185).dev.now).head (({ frame := 1, base := 0, len := 3, arg := 9 } : Stage)) (({ port := 3, pl := 7, bytes := ([2, 0, 0, 0, 0, 1, 2, 0, 0, 0, 0, 2, 129, 0, 0, 5, 129, 0, 0, 5, 129, 0, 0, 5, 18, 52] ++ List.replicate 34 0 : Bytes), x := 0, time := 0, tick := 0, oport := 3, ox := 0, tail := 1 } : Frame))).2, s185.seen s185.dev.now, rfl, rfl, by decide +kernel⟩,
   ⟨s185, 7, 0x3000000#26, 0x3000000, ({ frame := 1, base := 0, len := 3, arg := 9 } : Stage), ({ port := 3, pl := 7, bytes := ([2, 0, 0, 0, 0, 1, 2, 0, 0, 0, 0, 2, 129, 0, 0, 5, 129, 0, 0, 5, 129, 0, 0, 5, 18, 52] ++ List.replicate 34 0 : Bytes), x := 0, time := 0, tick := 0, oport := 3, ox := 0, tail := 1 } : Frame), (((s185).seen (s185).dev.now).head (({ frame := 1, base := 0, len := 3, arg := 9 } : Stage)) (({ port := 3, pl := 7, bytes := ([2, 0, 0, 0, 0, 1, 2, 0, 0, 0, 0, 2, 129, 0, 0, 5, 129, 0, 0, 5, 129, 0, 0, 5, 18, 52] ++ List.replicate 34 0 : Bytes), x := 0, time := 0, tick := 0, oport := 3, ox := 0, tail := 1 } : Frame))).1, (((s185).seen (s185).dev.now).head (({ frame := 1, base := 0, len := 3, arg := 9 } : Stage)) (({ port := 3, pl := 7, bytes := ([2, 0, 0, 0, 0, 1, 2, 0, 0, 0, 0, 2, 129, 0, 0, 5, 129, 0, 0, 5, 129, 0, 0, 5, 18, 52] ++ List.replicate 34 0 : Bytes), x := 0, time := 0, tick := 0, oport := 3, ox := 0, tail := 1 } : Frame))).2, s185.seen s185.dev.now, rfl, rfl, by decide +kernel⟩,
   ⟨s186, 7, 0x1000000#26, 0x1000000, ({ frame := 1, base := 0, len := 3, arg := 9 } : Stage), ({ port := 3, pl := 7, bytes := ([2, 0, 0, 0, 0, 1, 2, 0, 0, 0, 0, 2, 129, 0, 0, 5, 8, 0, 69, 0, 0, 46, 0, 0, 0, 0, 64, 253, 101, 209, 10, 0, 0, 1, 10, 0, 0, 2] ++ List.replicate 26 0 : Bytes), x := 0, time := 0, tick := 0, oport := 3, ox := 0, tail := 1 } : Frame), (((s186).seen (s186).dev.now).head (({ frame := 1, base := 0, len := 3, arg := 9 } : Stage)) (({ port := 3, pl := 7, bytes := ([2, 0, 0, 0, 0, 1, 2, 0, 0, 0, 0, 2, 129, 0, 0, 5, 8, 0, 69, 0, 0, 46, 0, 0, 0, 0, 64, 253, 101, 209, 10, 0, 0, 1, 10, 0, 0, 2] ++ List.replicate 26 0 : Bytes), x := 0, time := 0, tick := 0, oport := 3, ox := 0, tail := 1 } : Frame))).1, (((s186).seen (s186).dev.now).head (({ frame := 1, base := 0, len := 3, arg := 9 } : Stage)) (({ port := 3, pl := 7, bytes := ([2, 0, 0, 0, 0, 1, 2, 0, 0, 0, 0, 2, 129, 0, 0, 5, 8, 0, 69, 0, 0, 46, 0, 0, 0, 0, 64, 253, 101, 209, 10, 0, 0, 1, 10, 0, 0, 2] ++ List.replicate 26 0 : Bytes), x := 0, time := 0, tick := 0, oport := 3, ox := 0, tail := 1 } : Frame))).2, s186.seen s186.dev.now, rfl, rfl, by decide +kernel⟩,
   ⟨s186, 7, 0x0#26, 0x0, ({ frame := 1, base := 0, len := 3, arg := 9 } : Stage), ({ port := 3, pl := 7, bytes := ([2, 0, 0, 0, 0, 1, 2, 0, 0, 0, 0, 2, 129, 0, 0, 5, 8, 0, 69, 0, 0, 46, 0, 0, 0, 0, 64, 253, 101, 209, 10, 0, 0, 1, 10, 0, 0, 2] ++ List.replicate 26 0 : Bytes), x := 0, time := 0, tick := 0, oport := 3, ox := 0, tail := 1 } : Frame), (((s186).seen (s186).dev.now).head (({ frame := 1, base := 0, len := 3, arg := 9 } : Stage)) (({ port := 3, pl := 7, bytes := ([2, 0, 0, 0, 0, 1, 2, 0, 0, 0, 0, 2, 129, 0, 0, 5, 8, 0, 69, 0, 0, 46, 0, 0, 0, 0, 64, 253, 101, 209, 10, 0, 0, 1, 10, 0, 0, 2] ++ List.replicate 26 0 : Bytes), x := 0, time := 0, tick := 0, oport := 3, ox := 0, tail := 1 } : Frame))).1, (((s186).seen (s186).dev.now).head (({ frame := 1, base := 0, len := 3, arg := 9 } : Stage)) (({ port := 3, pl := 7, bytes := ([2, 0, 0, 0, 0, 1, 2, 0, 0, 0, 0, 2, 129, 0, 0, 5, 8, 0, 69, 0, 0, 46, 0, 0, 0, 0, 64, 253, 101, 209, 10, 0, 0, 1, 10, 0, 0, 2] ++ List.replicate 26 0 : Bytes), x := 0, time := 0, tick := 0, oport := 3, ox := 0, tail := 1 } : Frame))).2, s186.seen s186.dev.now, rfl, rfl, by decide +kernel⟩,
   ⟨s187, 7, 0x1000000#26, 0x1000000, ({ frame := 1, base := 0, len := 3, arg := 9, edits := List.replicate 8 .ttl } : Stage), ({ port := 3, pl := 7, bytes := ([2, 0, 0, 0, 0, 1, 2, 0, 0, 0, 0, 2, 129, 0, 0, 5, 8, 0, 69, 0, 0, 46, 0, 0, 0, 0, 64, 253, 101, 209, 10, 0, 0, 1, 10, 0, 0, 2] ++ List.replicate 26 0 : Bytes), x := 0, time := 0, tick := 0, oport := 3, ox := 0, tail := 1 } : Frame), (((s187).seen (s187).dev.now).head (({ frame := 1, base := 0, len := 3, arg := 9, edits := List.replicate 8 .ttl } : Stage)) (({ port := 3, pl := 7, bytes := ([2, 0, 0, 0, 0, 1, 2, 0, 0, 0, 0, 2, 129, 0, 0, 5, 8, 0, 69, 0, 0, 46, 0, 0, 0, 0, 64, 253, 101, 209, 10, 0, 0, 1, 10, 0, 0, 2] ++ List.replicate 26 0 : Bytes), x := 0, time := 0, tick := 0, oport := 3, ox := 0, tail := 1 } : Frame))).1, (((s187).seen (s187).dev.now).head (({ frame := 1, base := 0, len := 3, arg := 9, edits := List.replicate 8 .ttl } : Stage)) (({ port := 3, pl := 7, bytes := ([2, 0, 0, 0, 0, 1, 2, 0, 0, 0, 0, 2, 129, 0, 0, 5, 8, 0, 69, 0, 0, 46, 0, 0, 0, 0, 64, 253, 101, 209, 10, 0, 0, 1, 10, 0, 0, 2] ++ List.replicate 26 0 : Bytes), x := 0, time := 0, tick := 0, oport := 3, ox := 0, tail := 1 } : Frame))).2, s187.seen s187.dev.now, rfl, rfl, by decide +kernel⟩,
   ⟨s188, 7, 0x2110fff#26, 0x2110fff, ({ frame := 1, base := 0, len := 3, arg := 9, edits := List.replicate 7 .ttl } : Stage), ({ port := 3, pl := 7, bytes := ([2, 0, 0, 0, 0, 1, 2, 0, 0, 0, 0, 2, 129, 0, 0, 5, 8, 0, 69, 0, 0, 46, 0, 0, 0, 0, 64, 253, 101, 209, 10, 0, 0, 1, 10, 0, 0, 2] ++ List.replicate 26 0 : Bytes), x := 0, time := 0, tick := 0, oport := 3, ox := 0, tail := 1, ctx := { tc := 7 } } : Frame), (((s188).seen (s188).dev.now).head (({ frame := 1, base := 0, len := 3, arg := 9, edits := List.replicate 7 .ttl } : Stage)) (({ port := 3, pl := 7, bytes := ([2, 0, 0, 0, 0, 1, 2, 0, 0, 0, 0, 2, 129, 0, 0, 5, 8, 0, 69, 0, 0, 46, 0, 0, 0, 0, 64, 253, 101, 209, 10, 0, 0, 1, 10, 0, 0, 2] ++ List.replicate 26 0 : Bytes), x := 0, time := 0, tick := 0, oport := 3, ox := 0, tail := 1, ctx := { tc := 7 } } : Frame))).1, (((s188).seen (s188).dev.now).head (({ frame := 1, base := 0, len := 3, arg := 9, edits := List.replicate 7 .ttl } : Stage)) (({ port := 3, pl := 7, bytes := ([2, 0, 0, 0, 0, 1, 2, 0, 0, 0, 0, 2, 129, 0, 0, 5, 8, 0, 69, 0, 0, 46, 0, 0, 0, 0, 64, 253, 101, 209, 10, 0, 0, 1, 10, 0, 0, 2] ++ List.replicate 26 0 : Bytes), x := 0, time := 0, tick := 0, oport := 3, ox := 0, tail := 1, ctx := { tc := 7 } } : Frame))).2, s188.seen s188.dev.now, rfl, rfl, by decide +kernel⟩,
   ⟨s176, 7, 0x280fffe#26, 0x280fffe, ({ frame := 1, base := 0, len := 3, arg := 9 } : Stage), ({ port := 3, pl := 7, bytes := ([2, 0, 0, 0, 0, 1, 2, 0, 0, 0, 0, 2, 18, 52] ++ List.replicate 46 0 : Bytes), x := 0, time := 0, tick := 0, oport := 3, ox := 0, tail := 1 } : Frame), (((s176).seen (s176).dev.now).head (({ frame := 1, base := 0, len := 3, arg := 9 } : Stage)) (({ port := 3, pl := 7, bytes := ([2, 0, 0, 0, 0, 1, 2, 0, 0, 0, 0, 2, 18, 52] ++ List.replicate 46 0 : Bytes), x := 0, time := 0, tick := 0, oport := 3, ox := 0, tail := 1 } : Frame))).1, (((s176).seen (s176).dev.now).head (({ frame := 1, base := 0, len := 3, arg := 9 } : Stage)) (({ port := 3, pl := 7, bytes := ([2, 0, 0, 0, 0, 1, 2, 0, 0, 0, 0, 2, 18, 52] ++ List.replicate 46 0 : Bytes), x := 0, time := 0, tick := 0, oport := 3, ox := 0, tail := 1 } : Frame))).2, s176.seen s176.dev.now, rfl, rfl, by decide +kernel⟩,
   ⟨s189, 7, 0x0#26, 0x0, ({ frame := 1, base := 0, len := 3, arg := 9 } : Stage), ({ port := 3, pl := 7, bytes := ([2, 0, 0, 0, 0, 1, 2, 0, 0, 0, 0, 2, 8, 0, 69, 0, 0, 46, 0, 0, 0, 0, 2, 253, 163, 209, 10, 0, 0, 1, 10, 0, 0, 2] ++ List.replicate 26 0 : Bytes), x := 0, time := 0, tick := 0, oport := 3, ox := 0, tail := 1 } : Frame), (((s189).seen (s189).dev.now).head (({ frame := 1, base := 0, len := 3, arg := 9 } : Stage)) (({ port := 3, pl := 7, bytes := ([2, 0, 0, 0, 0, 1, 2, 0, 0, 0, 0, 2, 8, 0, 69, 0, 0, 46, 0, 0, 0, 0, 2, 253, 163, 209, 10, 0, 0, 1, 10, 0, 0, 2] ++ List.replicate 26 0 : Bytes), x := 0, time := 0, tick := 0, oport := 3, ox := 0, tail := 1 } : Frame))).1, (((s189).seen (s189).dev.now).head (({ frame := 1, base := 0, len := 3, arg := 9 } : Stage)) (({ port := 3, pl := 7, bytes := ([2, 0, 0, 0, 0, 1, 2, 0, 0, 0, 0, 2, 8, 0, 69, 0, 0, 46, 0, 0, 0, 0, 2, 253, 163, 209, 10, 0, 0, 1, 10, 0, 0, 2] ++ List.replicate 26 0 : Bytes), x := 0, time := 0, tick := 0, oport := 3, ox := 0, tail := 1 } : Frame))).2, s189.seen s189.dev.now, rfl, rfl, by decide +kernel⟩⟩

theorem witness_ActionWordsEditTheFrame_2 :
    (∃ (s : State) (pl : Nat) (w : BitVec 26) (n : Nat) (st : Stage) (f : Frame) (q : Parsed) (b : Bytes) (d : Dev), s.Runs ∧ d = s.seen s.dev.now ∧ pl < 8 ∧ n = w.toNat ∧ d.stageAt pl = some st ∧ d.frame? st.frame = some f ∧ st.ended = false ∧ st.skip = 0 ∧ st.pc + 1 < st.len ∧ d.head st f = (q, b) ∧ st.edits.length < 8 ∧ q.l3Ok b = true ∧ beAt b (q.l3 + if q.kind = 1 then 8 else 7) 1 ≤ 1 ∧ fld n 25 24 = 0) ∧
    (∃ (s : State) (pl : Nat) (w : BitVec 26) (n : Nat) (st : Stage) (f : Frame) (q : Parsed) (b : Bytes) (d : Dev), s.Runs ∧ d = s.seen s.dev.now ∧ pl < 8 ∧ n = w.toNat ∧ d.stageAt pl = some st ∧ d.frame? st.frame = some f ∧ st.ended = false ∧ st.skip = 0 ∧ st.pc + 1 < st.len ∧ d.head st f = (q, b) ∧ st.edits.length < 8 ∧ q.l3Ok b = true ∧ bit n 25 = false) ∧
    (∃ (s : State) (pl : Nat) (w : BitVec 26) (n : Nat) (st : Stage) (f : Frame) (q : Parsed) (b : Bytes) (d : Dev) (r : _), s.Runs ∧ d = s.seen s.dev.now ∧ pl < 8 ∧ n = w.toNat ∧ d.stageAt pl = some st ∧ d.frame? st.frame = some f ∧ st.ended = false ∧ st.skip = 0 ∧ st.pc + 1 < st.len ∧ d.head st f = (q, b) ∧ st.edits.length < 8 ∧ q.tagAt 1 = none ∧ r = d.row T.SeqGen (fld n 11 0) ∧ Row.SeqGen.valid r = 1) ∧
    (∃ (s : State) (pl : Nat) (w : BitVec 26) (n : Nat) (st : Stage) (f : Frame) (q : Parsed) (b : Bytes) (d : Dev) (r : _), s.Runs ∧ d = s.seen s.dev.now ∧ pl < 8 ∧ n = w.toNat ∧ d.stageAt pl = some st ∧ d.frame? st.frame = some f ∧ st.ended = false ∧ st.skip = 0 ∧ st.pc + 1 < st.len ∧ d.head st f = (q, b) ∧ r = d.row T.SeqGen (fld n 11 0) ∧ Row.SeqGen.valid r = 0) ∧
    (∃ (s : State) (pl : Nat) (w : BitVec 26) (n : Nat) (st : Stage) (f : Frame) (q : Parsed) (b : Bytes) (d : Dev), s.Runs ∧ d = s.seen s.dev.now ∧ pl < 8 ∧ n = w.toNat ∧ d.stageAt pl = some st ∧ d.frame? st.frame = some f ∧ st.ended = false ∧ st.skip = 0 ∧ st.pc + 1 < st.len ∧ d.head st f = (q, b) ∧ st.edits.length < 8 ∧ (q.tagAt 1).isSome = true) ∧
    (∃ (s : State) (pl : Nat) (w : BitVec 26) (n : Nat) (st : Stage) (f : Frame) (q : Parsed) (b : Bytes) (d : Dev) (r : _), s.Runs ∧ d = s.seen s.dev.now ∧ pl < 8 ∧ n = w.toNat ∧ d.stageAt pl = some st ∧ d.frame? st.frame = some f ∧ st.ended = false ∧ st.skip = 0 ∧ st.pc + 1 < st.len ∧ d.head st f = (q, b) ∧ st.edits.length < 8 ∧ q.tagAt 2 = none ∧ r = d.row T.SeqGen (fld n 11 0) ∧ Row.SeqGen.valid r = 1) ∧
    (∃ (s : State) (pl : Nat) (w : BitVec 26) (n : Nat) (st : Stage) (f : Frame) (q : Parsed) (b : Bytes) (d : Dev), s.Runs ∧ d = s.seen s.dev.now ∧ pl < 8 ∧ n = w.toNat ∧ d.stageAt pl = some st ∧ d.frame? st.frame = some f ∧ st.ended = false ∧ st.skip = 0 ∧ st.pc + 1 < st.len ∧ d.head st f = (q, b) ∧ st.edits.length < 8 ∧ (q.tagAt 2).isSome = true) ∧
    (∃ (s : State) (pl : Nat) (w : BitVec 26) (n : Nat) (st : Stage) (f : Frame) (q : Parsed) (b : Bytes) (d : Dev) (r : _), s.Runs ∧ d = s.seen s.dev.now ∧ pl < 8 ∧ n = w.toNat ∧ d.stageAt pl = some st ∧ d.frame? st.frame = some f ∧ st.ended = false ∧ st.skip = 0 ∧ st.pc + 1 < st.len ∧ d.head st f = (q, b) ∧ st.edits.length < 8 ∧ r = d.row T.SeqGen (fld n 11 0) ∧ Row.SeqGen.valid r = 1) ∧
    (∃ (s : State) (pl : Nat) (w : BitVec 26) (n : Nat) (st : Stage) (f : Frame) (q : Parsed) (b : Bytes) (d : Dev), s.Runs ∧ d = s.seen s.dev.now ∧ pl < 8 ∧ n = w.toNat ∧ d.stageAt pl = some st ∧ d.frame? st.frame = some f ∧ st.ended = false ∧ st.skip = 0 ∧ st.pc + 1 < st.len ∧ d.head st f = (q, b) ∧ st.edits.length < 8 ∧ (prpSeq b).isSome = true) ∧
    (∃ (s : State) (pl : Nat) (w : BitVec 26) (n : Nat) (st : Stage) (f : Frame) (q : Parsed) (b : Bytes) (d : Dev), s.Runs ∧ d = s.seen s.dev.now ∧ pl < 8 ∧ n = w.toNat ∧ d.stageAt pl = some st ∧ d.frame? st.frame = some f ∧ st.ended = false ∧ st.skip = 0 ∧ st.pc + 1 < st.len ∧ d.head st f = (q, b) ∧ prpSeq b = none) :=
  ⟨⟨s190, 7, 0x0#26, 0x0, ({ frame := 1, base := 0, len := 3, arg := 9 } : Stage), ({ port := 3, pl := 7, bytes := ([2, 0, 0, 0, 0, 1, 2, 0, 0, 0, 0, 2, 8, 0, 69, 0, 0, 46, 0, 0, 0, 0, 1, 253, 164, 209, 10, 0, 0, 1, 10, 0, 0, 2] ++ List.replicate 26 0 : Bytes), x := 0, time := 0, tick := 0, oport := 3, ox := 0, tail := 1 } : Frame), (((s190).seen (s190).dev.now).head (({ frame := 1, base := 0, len := 3, arg := 9 } : Stage)) (({ port := 3, pl := 7, bytes := ([2, 0, 0, 0, 0, 1, 2, 0, 0, 0, 0, 2, 8, 0, 69, 0, 0, 46, 0, 0, 0, 0, 1, 253, 164, 209, 10, 0, 0, 1, 10, 0, 0, 2] ++ List.replicate 26 0 : Bytes), x := 0, time := 0, tick := 0, oport := 3, ox := 0, tail := 1 } : Frame))).1, (((s190).seen (s190).dev.now).head (({ frame := 1, base := 0, len := 3, arg := 9 } : Stage)) (({ port := 3, pl := 7, bytes := ([2, 0, 0, 0, 0, 1, 2, 0, 0, 0, 0, 2, 8, 0, 69, 0, 0, 46, 0, 0, 0, 0, 1, 253, 164, 209, 10, 0, 0, 1, 10, 0, 0, 2] ++ List.replicate 26 0 : Bytes), x := 0, time := 0, tick := 0, oport := 3, ox := 0, tail := 1 } : Frame))).2, s190.seen s190.dev.now, rfl, rfl, by decide +kernel⟩,
   ⟨s189, 7, 0x3f#26, 0x3f, ({ frame := 1, base := 0, len := 3, arg := 9 } : Stage), ({ port := 3, pl := 7, bytes := ([2, 0, 0, 0, 0, 1, 2, 0, 0, 0, 0, 2, 8, 0, 69, 0, 0, 46, 0, 0, 0, 0, 2, 253, 163, 209, 10, 0, 0, 1, 10, 0, 0, 2] ++ List.replicate 26 0 : Bytes), x := 0, time := 0, tick := 0, oport := 3, ox := 0, tail := 1 } : Frame), (((s189).seen (s189).dev.now).head (({ frame := 1, base := 0, len := 3, arg := 9 } : Stage)) (({ port := 3, pl := 7, bytes := ([2, 0, 0, 0, 0, 1, 2, 0, 0, 0, 0, 2, 8, 0, 69, 0, 0, 46, 0, 0, 0, 0, 2, 253, 163, 209, 10, 0, 0, 1, 10, 0, 0, 2] ++ List.replicate 26 0 : Bytes), x := 0, time := 0, tick := 0, oport := 3, ox := 0, tail := 1 } : Frame))).1, (((s189).seen (s189).dev.now).head (({ frame := 1, base := 0, len := 3, arg := 9 } : Stage)) (({ port := 3, pl := 7, bytes := ([2, 0, 0, 0, 0, 1, 2, 0, 0, 0, 0, 2, 8, 0, 69, 0, 0, 46, 0, 0, 0, 0, 2, 253, 163, 209, 10, 0, 0, 1, 10, 0, 0, 2] ++ List.replicate 26 0 : Bytes), x := 0, time := 0, tick := 0, oport := 3, ox := 0, tail := 1 } : Frame))).2, s189.seen s189.dev.now, rfl, rfl, by decide +kernel⟩,
   ⟨s191, 7, 0xfff#26, 0xfff, ({ frame := 1, base := 0, len := 3, arg := 9 } : Stage), ({ port := 3, pl := 7, bytes := ([2, 0, 0, 0, 0, 1, 2, 0, 0, 0, 0, 2, 18, 52] ++ List.replicate 46 0 : Bytes), x := 0, time := 0, tick := 0, oport := 3, ox := 0, tail := 1 } : Frame), (((s191).seen (s191).dev.now).head (({ frame := 1, base := 0, len := 3, arg := 9 } : Stage)) (({ port := 3, pl := 7, bytes := ([2, 0, 0, 0, 0, 1, 2, 0, 0, 0, 0, 2, 18, 52] ++ List.replicate 46 0 : Bytes), x := 0, time := 0, tick := 0, oport := 3, ox := 0, tail := 1 } : Frame))).1, (((s191).seen (s191).dev.now).head (({ frame := 1, base := 0, len := 3, arg := 9 } : Stage)) (({ port := 3, pl := 7, bytes := ([2, 0, 0, 0, 0, 1, 2, 0, 0, 0, 0, 2, 18, 52] ++ List.replicate 46 0 : Bytes), x := 0, time := 0, tick := 0, oport := 3, ox := 0, tail := 1 } : Frame))).2, s191.seen s191.dev.now, 0x8000ffff, rfl, rfl, by decide +kernel⟩,
   ⟨s176, 7, 0xfff#26, 0xfff, ({ frame := 1, base := 0, len := 3, arg := 9 } : Stage), ({ port := 3, pl := 7, bytes := ([2, 0, 0, 0, 0, 1, 2, 0, 0, 0, 0, 2, 18, 52] ++ List.replicate 46 0 : Bytes), x := 0, time := 0, tick := 0, oport := 3, ox := 0, tail := 1 } : Frame), (((s176).seen (s176).dev.now).head (({ frame := 1, base := 0, len := 3, arg := 9 } : Stage)) (({ port := 3, pl := 7, bytes := ([2, 0, 0, 0, 0, 1, 2, 0, 0, 0, 0, 2, 18, 52] ++ List.replicate 46 0 : Bytes), x := 0, time := 0, tick := 0, oport := 3, ox := 0, tail := 1 } : Frame))).1, (((s176).seen (s176).dev.now).head (({ frame := 1, base := 0, len := 3, arg := 9 } : Stage)) (({ port := 3, pl := 7, bytes := ([2, 0, 0, 0, 0, 1, 2, 0, 0, 0, 0, 2, 18, 52] ++ List.replicate 46 0 : Bytes), x := 0, time := 0, tick := 0, oport := 3, ox := 0, tail := 1 } : Frame))).2, s176.seen s176.dev.now, 0, rfl, rfl, by decide +kernel⟩,
   ⟨s192, 7, 0x0#26, 0x0, ({ frame := 1, base := 0, len := 3, arg := 9 } : Stage), ({ port := 3, pl := 7, bytes := ([2, 0, 0, 0, 0, 1, 2, 0, 0, 0, 0, 2, 241, 193, 0, 0, 0, 9, 18, 52] ++ List.replicate 40 0 : Bytes), x := 0, time := 0, tick := 0, oport := 3, ox := 0, tail := 1 } : Frame), (((s192).seen (s192).dev.now).head (({ frame := 1, base := 0, len := 3, arg := 9 } : Stage)) (({ port := 3, pl := 7, bytes := ([2, 0, 0, 0, 0, 1, 2, 0, 0, 0, 0, 2, 241, 193, 0, 0, 0, 9, 18, 52] ++ List.replicate 40 0 : Bytes), x := 0, time := 0, tick := 0, oport := 3, ox := 0, tail := 1 } : Frame))).1, (((s192).seen (s192).dev.now).head (({ frame := 1, base := 0, len := 3, arg := 9 } : Stage)) (({ port := 3, pl := 7, bytes := ([2, 0, 0, 0, 0, 1, 2, 0, 0, 0, 0, 2, 241, 193, 0, 0, 0, 9, 18, 52] ++ List.replicate 40 0 : Bytes), x := 0, time := 0, tick := 0, oport := 3, ox := 0, tail := 1 } : Frame))).2, s192.seen s192.dev.now, rfl, rfl, by decide +kernel⟩,
   ⟨s191, 7, 0xf0fff#26, 0xf0fff, ({ frame := 1, base := 0, len := 3, arg := 9 } : Stage), ({ port := 3, pl := 7, bytes := ([2, 0, 0, 0, 0, 1, 2, 0, 0, 0, 0, 2, 18, 52] ++ List.replicate 46 0 : Bytes), x := 0, time := 0, tick := 0, oport := 3, ox := 0, tail := 1 } : Frame), (((s191).seen (s191).dev.now).head (({ frame := 1, base := 0, len := 3, arg := 9 } : Stage)) (({ port := 3, pl := 7, bytes := ([2, 0, 0, 0, 0, 1, 2, 0, 0, 0, 0, 2, 18, 52] ++ List.replicate 46 0 : Bytes), x := 0, time := 0, tick := 0, oport := 3, ox := 0, tail := 1 } : Frame))).1, (((s191).seen (s191).dev.now).head (({ frame := 1, base := 0, len := 3, arg := 9 } : Stage)) (({ port := 3, pl := 7, bytes := ([2, 0, 0, 0, 0, 1, 2, 0, 0, 0, 0, 2, 18, 52] ++ List.replicate 46 0 : Bytes), x := 0, time := 0, tick := 0, oport := 3, ox := 0, tail := 1 } : Frame))).2, s191.seen s191.dev.now, 0x8000ffff, rfl, rfl, by decide +kernel⟩,
   ⟨s193, 7, 0x0#26, 0x0, ({ frame := 1, base := 0, len := 3, arg := 9 } : Stage), ({ port := 3, pl := 7, bytes := ([2, 0, 0, 0, 0, 1, 2, 0, 0, 0, 0, 2, 137, 47, 0, 52, 0, 9, 18, 52] ++ List.replicate 40 0 : Bytes), x := 0, time := 0, tick := 0, oport := 3, ox := 0, tail := 1 } : Frame), (((s193).seen (s193).dev.now).head (({ frame := 1, base := 0, len := 3, arg := 9 } : Stage)) (({ port := 3, pl := 7, bytes := ([2, 0, 0, 0, 0, 1, 2, 0, 0, 0, 0, 2, 137, 47, 0, 52, 0, 9, 18, 52] ++ List.replicate 40 0 : Bytes), x := 0, time := 0, tick := 0, oport := 3, ox := 0, tail := 1 } : Frame))).1, (((s193).seen (s193).dev.now).head (({ frame := 1, base := 0, len := 3, arg := 9 } : Stage)) (({ port := 3, pl := 7, bytes := ([2, 0, 0, 0, 0, 1, 2, 0, 0, 0, 0, 2, 137, 47, 0, 52, 0, 9, 18, 52] ++ List.replicate 40 0 : Bytes), x := 0, time := 0, tick := 0, oport := 3, ox := 0, tail := 1 } : Frame))).2, s193.seen s193.dev.now, rfl, rfl, by decide +kernel⟩,
   ⟨s191, 7, 0x20fff#26, 0x20fff, ({ frame := 1, base := 0, len := 3, arg := 9 } : Stage), ({ port := 3, pl := 7, bytes := ([2, 0, 0, 0, 0, 1, 2, 0, 0, 0, 0, 2, 18, 52] ++ List.replicate 46 0 : Bytes), x := 0, time := 0, tick := 0, oport := 3, ox := 0, tail := 1 } : Frame), (((s191).seen (s191).dev.now).head (({ frame := 1, base := 0, len := 3, arg := 9 } : Stage)) (({ port := 3, pl := 7, bytes := ([2, 0, 0, 0, 0, 1, 2, 0, 0, 0, 0, 2, 18, 52] ++ List.replicate 46 0 : Bytes), x := 0, time := 0, tick := 0, oport := 3, ox := 0, tail := 1 } : Frame))).1, (((s191).seen (s191).dev.now).head (({ frame := 1, base := 0, len := 3, arg := 9 } : Stage)) (({ port := 3, pl := 7, bytes := ([2, 0, 0, 0, 0, 1, 2, 0, 0, 0, 0, 2, 18, 52] ++ List.replicate 46 0 : Bytes), x := 0, time := 0, tick := 0, oport := 3, ox := 0, tail := 1 } : Frame))).2, s191.seen s191.dev.now, 0x8000ffff, rfl, rfl, by decide +kernel⟩,
   ⟨s194, 7, 0x0#26, 0x0, ({ frame := 1, base := 0, len := 3, arg := 9 } : Stage), ({ port := 3, pl := 7, bytes := ([2, 0, 0, 0, 0, 1, 2, 0, 0, 0, 0, 2, 18, 52] ++ List.replicate 41 0 ++ [9, 160, 52, 136, 251] : Bytes), x := 0, time := 0, tick := 0, oport := 3, ox := 0, tail := 1 } : Frame), (((s194).seen (s194).dev.now).head (({ frame := 1, base := 0, len := 3, arg := 9 } : Stage)) (({ port := 3, pl := 7, bytes := ([2, 0, 0, 0, 0, 1, 2, 0, 0, 0, 0, 2, 18, 52] ++ List.replicate 41 0 ++ [9, 160, 52, 136, 251] : Bytes), x := 0, time := 0, tick := 0, oport := 3, ox := 0, tail := 1 } : Frame))).1, (((s194).seen (s194).dev.now).head (({ frame := 1, base := 0, len := 3, arg := 9 } : Stage)) (({ port := 3, pl := 7, bytes := ([2, 0, 0, 0, 0, 1, 2, 0, 0, 0, 0, 2, 18, 52] ++ List.replicate 41 0 ++ [9, 160, 52, 136, 251] : Bytes), x := 0, time := 0, tick := 0, oport := 3, ox := 0, tail := 1 } : Frame))).2, s194.seen s194.dev.now, rfl, rfl, by decide +kernel⟩,
   ⟨s176, 7, 0x0#26, 0x0, ({ frame := 1, base := 0, len := 3, arg := 9 } : Stage), ({ port := 3, pl := 7, bytes := ([2, 0, 0, 0, 0, 1, 2, 0, 0, 0, 0, 2, 18, 52] ++ List.replicate 46 0 : Bytes), x := 0, time := 0, tick := 0, oport := 3, ox := 0, tail := 1 } : Frame), (((s176).seen (s176).dev.now).head (({ frame := 1, base := 0, len := 3, arg := 9 } : Stage)) (({ port := 3, pl := 7, bytes := ([2, 0, 0, 0, 0, 1, 2, 0, 0, 0, 0, 2, 18, 52] ++ List.replicate 46 0 : Bytes), x := 0, time := 0, tick := 0, oport := 3, ox := 0, tail := 1 } : Frame))).1, (((s176).seen (s176).dev.now).head (({ frame := 1, base := 0, len := 3, arg := 9 } : Stage)) (({ port := 3, pl := 7, bytes := ([2, 0, 0, 0, 0, 1, 2, 0, 0, 0, 0, 2, 18, 52] ++ List.replicate 46 0 : Bytes), x := 0, time := 0, tick := 0, oport := 3, ox := 0, tail := 1 } : Frame))).2, s176.seen s176.dev.now, rfl, rfl, by decide +kernel⟩⟩

theorem witness_TimeMessages :
    (∃ (s : State) (x : Nat) (p : Nat) (i : Nat) (b : Bytes) (m : PtpHead) (d : Dev), s.Runs ∧ d = s.seen x ∧ p < 96 ∧ i < 2 ∧ d.portUp p = true ∧ d.ptpHead b = some m ∧ m.kind = 0 ∧ d.ptpDomains m = [i] ∧ (d.ptpRole p i = 3 ∨ d.ptpRole p i = 4) ∧ m.twoStep = false) ∧
    (∃ (s : State) (x : Nat) (p : Nat) (i : Nat) (b : Bytes) (m : PtpHead) (d : Dev), s.Runs ∧ d = s.seen x ∧ p < 96 ∧ i < 2 ∧ d.portUp p = true ∧ d.ptpHead b = some m ∧ m.kind = 0 ∧ d.ptpDomains m = [i] ∧ (d.ptpRole p i = 3 ∨ d.ptpRole p i = 4) ∧ m.twoStep = false) ∧
    (∃ (s : State) (x : Nat) (p : Nat) (i : Nat) (b : Bytes) (m : PtpHead) (d : Dev), s.Runs ∧ d = s.seen x ∧ p < 96 ∧ i < 2 ∧ d.portUp p = true ∧ d.ptpHead b = some m ∧ m.kind = 0 ∧ d.ptpDomains m = [i] ∧ (d.ptpRole p i = 3 ∨ d.ptpRole p i = 4) ∧ m.twoStep = false) ∧
    (∃ (s : State) (x : Nat) (p : Nat) (i : Nat) (b : Bytes) (m : PtpHead) (d : Dev), s.Runs ∧ d = s.seen x ∧ p < 96 ∧ i < 2 ∧ d.portUp p = true ∧ d.ptpHead b = some m ∧ m.kind = 0 ∧ d.ptpDomains m = [i] ∧ (d.ptpRole p i = 3 ∨ d.ptpRole p i = 4) ∧ m.twoStep = true) ∧
    (∃ (s : State) (x : Nat) (p : Nat) (i : Nat) (b : Bytes) (m : PtpHead) (d : Dev), s.Runs ∧ d = s.seen x ∧ p < 96 ∧ i < 2 ∧ d.portUp p = true ∧ d.ptpHead b = some m ∧ m.kind = 0 ∧ d.ptpDomains m = [i] ∧ (d.ptpRole p i = 3 ∨ d.ptpRole p i = 4) ∧ m.twoStep = true) ∧
    (∃ (s : State) (x : Nat) (p : Nat) (i : Nat) (b : Bytes) (m : PtpHead) (d : Dev), s.Runs ∧ d = s.seen x ∧ p < 96 ∧ i < 2 ∧ d.portUp p = true ∧ d.ptpHead b = some m ∧ m.kind = 0 ∧ d.ptpDomains m = [0, 1] ∧ ((∀ j, j < 2 → d.ptpRole p j = 3 ∨ d.ptpRole p j = 4)) ∧ m.twoStep = false) ∧
    (∃ (s : State) (x : Nat) (p : Nat) (i : Nat) (b : Bytes) (m : PtpHead) (d : Dev), s.Runs ∧ d = s.seen x ∧ p < 96 ∧ i < 2 ∧ d.portUp p = true ∧ d.ptpHead b = some m ∧ m.kind = 2 ∧ (d.ptpDomains m).contains 0 = true ∧ d.ptpTakes p m = false ∧ 60 ≤ b.length) ∧
    (∃ (s : State) (x : Nat) (p : Nat) (i : Nat) (b : Bytes) (m : PtpHead) (d : Dev), s.Runs ∧ d = s.seen x ∧ p < 96 ∧ i < 2 ∧ d.portUp p = true ∧ d.ptpHead b = some m ∧ m.kind = 0 ∧ d.ptpTakes p m = false ∧ 60 ≤ b.length) ∧
    (∃ (s : State) (x : Nat) (p : Nat) (i : Nat) (b : Bytes) (m : PtpHead) (d : Dev) (e : SyncWait), s.Runs ∧ d = s.seen x ∧ p < 96 ∧ i < 2 ∧ d.portUp p = true ∧ d.ptpHead b = some m ∧ m.kind = 8 ∧ d.ptpDomains m = [i] ∧ (d.ptpRole p i = 3 ∨ d.ptpRole p i = 4) ∧ d.time.syncs = [e] ∧ e.port = p ∧ e.domain = i ∧ e.clockId = m.clockId ∧ e.portNum = m.portNum ∧ e.seq = m.seq) ∧
    (∃ (s : State) (x : Nat) (p : Nat) (i : Nat) (b : Bytes) (m : PtpHead) (d : Dev) (e : TwoStep), s.Runs ∧ d = s.seen x ∧ p < 96 ∧ i < 2 ∧ d.portUp p = true ∧ d.ptpHead b = some m ∧ d.time.twoStep = [e] ∧ e.egress = p ∧ e.domain = i ∧ e.tick + 4 * d.get (E.SyncIntervalTicks i) ≤ d.net.bounds) :=
  ⟨⟨s195, 5000, 95, 0, ([1, 27, 25, 0, 0, 0, 2, 0, 0, 0, 0, 2, 136, 247, 0, 2, 0, 44] ++ List.replicate 23 0 ++ [5, 0, 2, 0, 7] ++ List.replicate 14 0 : Bytes), ((((s195).seen 5000).ptpHead (([1, 27, 25, 0, 0, 0, 2, 0, 0, 0, 0, 2, 136, 247, 0, 2, 0, 44] ++ List.replicate 23 0 ++ [5, 0, 2, 0, 7] ++ List.replicate 14 0 : Bytes))).getD ⟨0, 0, 0, 0, 0, 0, false, 0, 0, 0, 0, none⟩), s195.seen 5000, rfl, rfl, by decide +kernel⟩,
   ⟨s196, 5000, 95, 0, ([1, 27, 25, 0, 0, 0, 2, 0, 0, 0, 0, 2, 136, 247, 0, 2, 0, 44] ++ List.replicate 23 0 ++ [5, 0, 2, 0, 7] ++ List.replicate 14 0 : Bytes), ((((s196).seen 5000).ptpHead (([1, 27, 25, 0, 0, 0, 2, 0, 0, 0, 0, 2, 136, 247, 0, 2, 0, 44] ++ List.replicate 23 0 ++ [5, 0, 2, 0, 7] ++ List.replicate 14 0 : Bytes))).getD ⟨0, 0, 0, 0, 0, 0, false, 0, 0, 0, 0, none⟩), s196.seen 5000, rfl, rfl, by decide +kernel⟩,
   ⟨s197, 5000, 95, 1, ([1, 27, 25, 0, 0, 0, 2, 0, 0, 0, 0, 2, 136, 247, 0, 2, 0, 44, 9] ++ List.replicate 22 0 ++ [5, 0, 2, 0, 7] ++ List.replicate 14 0 : Bytes), ((((s197).seen 5000).ptpHead (([1, 27, 25, 0, 0, 0, 2, 0, 0, 0, 0, 2, 136, 247, 0, 2, 0, 44, 9] ++ List.replicate 22 0 ++ [5, 0, 2, 0, 7] ++ List.replicate 14 0 : Bytes))).getD ⟨0, 0, 0, 0, 0, 0, false, 0, 0, 0, 0, none⟩), s197.seen 5000, rfl, rfl, by decide +kernel⟩,
   ⟨s195, 5000, 95, 0, ([1, 27, 25, 0, 0, 0, 2, 0, 0, 0, 0, 2, 136, 247, 0, 2, 0, 44, 0, 0, 2] ++ List.replicate 20 0 ++ [5, 0, 2, 0, 7] ++ List.replicate 14 0 : Bytes), ((((s195).seen 5000).ptpHead (([1, 27, 25, 0, 0, 0, 2, 0, 0, 0, 0, 2, 136, 247, 0, 2, 0, 44, 0, 0, 2] ++ List.replicate 20 0 ++ [5, 0, 2, 0, 7] ++ List.replicate 14 0 : Bytes))).getD ⟨0, 0, 0, 0, 0, 0, false, 0, 0, 0, 0, none⟩), s195.seen 5000, rfl, rfl, by decide +kernel⟩,
   ⟨s195, 5000, 95, 0, ([1, 27, 25, 0, 0, 0, 2, 0, 0, 0, 0, 2, 136, 247, 0, 2, 0, 44, 0, 0, 2, 0] ++ List.replicate 8 255 ++ List.replicate 11 0 ++ [5, 0, 2, 0, 7] ++ List.replicate 14 0 : Bytes), ((((s195).seen 5000).ptpHead (([1, 27, 25, 0, 0, 0, 2, 0, 0, 0, 0, 2, 136, 247, 0, 2, 0, 44, 0, 0, 2, 0] ++ List.replicate 8 255 ++ List.replicate 11 0 ++ [5, 0, 2, 0, 7] ++ List.replicate 14 0 : Bytes))).getD ⟨0, 0, 0, 0, 0, 0, false, 0, 0, 0, 0, none⟩), s195.seen 5000, rfl, rfl, by decide +kernel⟩,
   ⟨s198, 5000, 95, 0, ([1, 27, 25, 0, 0, 0, 2, 0, 0, 0, 0, 2, 136, 247, 0, 2, 0, 44] ++ List.replicate 23 0 ++ [5, 0, 2, 0, 7] ++ List.replicate 14 0 : Bytes), ((((s198).seen 5000).ptpHead (([1, 27, 25, 0, 0, 0, 2, 0, 0, 0, 0, 2, 136, 247, 0, 2, 0, 44] ++ List.replicate 23 0 ++ [5, 0, 2, 0, 7] ++ List.replicate 14 0 : Bytes))).getD ⟨0, 0, 0, 0, 0, 0, false, 0, 0, 0, 0, none⟩), s198.seen 5000, rfl, rfl, by decide +kernel⟩,
   ⟨s199, 5000, 95, 0, ([1, 27, 25, 0, 0, 0, 2, 0, 0, 0, 0, 2, 136, 247, 2, 2, 0, 44] ++ List.replicate 23 0 ++ [5, 0, 2, 0, 7] ++ List.replicate 14 0 : Bytes), ((((s199).seen 5000).ptpHead (([1, 27, 25, 0, 0, 0, 2, 0, 0, 0, 0, 2, 136, 247, 2, 2, 0, 44] ++ List.replicate 23 0 ++ [5, 0, 2, 0, 7] ++ List.replicate 14 0 : Bytes))).getD ⟨0, 0, 0, 0, 0, 0, false, 0, 0, 0, 0, none⟩), s199.seen 5000, rfl, rfl, by decide +kernel⟩,
   ⟨s199, 5000, 95, 0, ([1, 27, 25, 0, 0, 0, 2, 0, 0, 0, 0, 2, 136, 247, 0, 2, 0, 44] ++ List.replicate 23 0 ++ [5, 0, 2, 0, 7] ++ List.replicate 14 0 : Bytes), ((((s199).seen 5000).ptpHead (([1, 27, 25, 0, 0, 0, 2, 0, 0, 0, 0, 2, 136, 247, 0, 2, 0, 44] ++ List.replicate 23 0 ++ [5, 0, 2, 0, 7] ++ List.replicate 14 0 : Bytes))).getD ⟨0, 0, 0, 0, 0, 0, false, 0, 0, 0, 0, none⟩), s199.seen 5000, rfl, rfl, by decide +kernel⟩,
   ⟨s200, 5000, 95, 0, ([1, 27, 25, 0, 0, 0, 2, 0, 0, 0, 0, 2, 136, 247, 8, 2, 0, 44] ++ List.replicate 23 0 ++ [5, 0, 2, 0, 7] ++ List.replicate 14 0 : Bytes), ((((s200).seen 5000).ptpHead (([1, 27, 25, 0, 0, 0, 2, 0, 0, 0, 0, 2, 136, 247, 8, 2, 0, 44] ++ List.replicate 23 0 ++ [5, 0, 2, 0, 7] ++ List.replicate 14 0 : Bytes))).getD ⟨0, 0, 0, 0, 0, 0, false, 0, 0, 0, 0, none⟩), s200.seen 5000, (⟨95, 0, 5, 2, 7, 100, 0⟩ : SyncWait), rfl, rfl, by decide +kernel⟩,
   ⟨s201, 5000, 95, 0, ([1, 27, 25, 0, 0, 0, 2, 0, 0, 0, 0, 2, 136, 247, 8, 2, 0, 44] ++ List.replicate 23 0 ++ [5, 0, 2, 0, 7] ++ List.replicate 14 0 : Bytes), ((((s201).seen 5000).ptpHead (([1, 27, 25, 0, 0, 0, 2, 0, 0, 0, 0, 2, 136, 247, 8, 2, 0, 44] ++ List.replicate 23 0 ++ [5, 0, 2, 0, 7] ++ List.replicate 14 0 : Bytes))).getD ⟨0, 0, 0, 0, 0, 0, false, 0, 0, 0, 0, none⟩), s201.seen 5000, (⟨95, 0, 5, 2, 7, 100, 0⟩ : TwoStep), rfl, rfl, by decide +kernel⟩⟩

theorem witness_TimeMessages_2 :
    (∃ (s : State) (x : Nat) (p : Nat) (i : Nat) (b : Bytes) (m : PtpHead) (d : Dev), s.Runs ∧ d = s.seen x ∧ p < 96 ∧ i < 2 ∧ d.portUp p = true ∧ d.ptpHead b = some m ∧ m.kind = 1 ∧ d.ptpDomains m = [i] ∧ d.ptpRole p i = 2) ∧
    (∃ (s : State) (x : Nat) (p : Nat) (i : Nat) (b : Bytes) (m : PtpHead) (d : Dev) (x0 : _), s.Runs ∧ d = s.seen x ∧ p < 96 ∧ i < 2 ∧ d.portUp p = true ∧ d.ptpHead b = some m ∧ m.kind = 9 ∧ d.ptpDomains m = [i] ∧ d.ptpRole p i = 3 ∧ (d.ptp p).dreq.get? i = some (m.seq, some x0) ∧ d.ptpToMe p m b = true) ∧
    (∃ (s : State) (x : Nat) (p : Nat) (i : Nat) (b : Bytes) (m : PtpHead) (d : Dev), s.Runs ∧ d = s.seen x ∧ p < 96 ∧ i < 2 ∧ d.portUp p = true ∧ d.ptpHead b = some m ∧ m.kind = 2 ∧ (d.ptpDomains m).contains 0 = true ∧ d.ptpTakes p m = true) ∧
    (∃ (s : State) (x : Nat) (p : Nat) (i : Nat) (b : Bytes) (m : PtpHead) (d : Dev), s.Runs ∧ d = s.seen x ∧ p < 96 ∧ i < 2 ∧ d.portUp p = true ∧ d.ptpHead b = some m ∧ m.kind = 2 ∧ (d.ptpDomains m).contains 0 = true ∧ d.ptpTakes p m = true) ∧
    (∃ (s : State) (x : Nat) (p : Nat) (i : Nat) (b : Bytes) (m : PtpHead) (d : Dev) (x1 : _) (q : _), s.Runs ∧ d = s.seen x ∧ p < 96 ∧ i < 2 ∧ d.portUp p = true ∧ d.ptpHead b = some m ∧ m.kind = 3 ∧ (d.ptpDomains m).contains 0 = true ∧ d.ptpTakes p m = true ∧ (d.ptp p).pdReq = some { seq := m.seq, t1 := some x1, resp := q } ∧ d.ptpToMe p m b = true ∧ m.twoStep = false) ∧
    (∃ (s : State) (x : Nat) (p : Nat) (i : Nat) (b : Bytes) (m : PtpHead) (d : Dev) (x1 : _) (q : _), s.Runs ∧ d = s.seen x ∧ p < 96 ∧ i < 2 ∧ d.portUp p = true ∧ d.ptpHead b = some m ∧ m.kind = 3 ∧ (d.ptpDomains m).contains 0 = true ∧ d.ptpTakes p m = true ∧ (d.ptp p).pdReq = some { seq := m.seq, t1 := some x1, resp := q } ∧ d.ptpToMe p m b = true ∧ m.twoStep = true) ∧
    (∃ (s : State) (x : Nat) (p : Nat) (i : Nat) (b : Bytes) (m : PtpHead) (d : Dev) (q : PdReq), s.Runs ∧ d = s.seen x ∧ p < 96 ∧ i < 2 ∧ d.portUp p = true ∧ d.ptpHead b = some m ∧ d.pdelayDue p = true ∧ (d.ptp p).pdReq = some q ∧ (d.ptp p).pdLost = 2) ∧
    (∃ (s : State) (x : Nat) (p : Nat) (i : Nat) (b : Bytes) (m : PtpHead) (d : Dev) (q : PdReq), s.Runs ∧ d = s.seen x ∧ p < 96 ∧ i < 2 ∧ d.portUp p = true ∧ d.ptpHead b = some m ∧ d.pdelayDue p = true ∧ (d.ptp p).pdReq = some q ∧ (d.ptp p).pdLost < 2) ∧
    (∃ (s : State) (x : Nat) (p : Nat) (i : Nat) (b : Bytes) (m : PtpHead) (d : Dev), s.Runs ∧ d = s.seen x ∧ p < 96 ∧ i < 2 ∧ d.portUp p = true ∧ d.ptpHead b = some m ∧ m.kind = 11 ∧ d.ptpTakes p m = true ∧ d.get E.FirmwareState ≠ 2) ∧
    (∃ (s : State) (x : Nat) (p : Nat) (i : Nat) (b : Bytes) (m : PtpHead) (d : Dev), s.Runs ∧ d = s.seen x ∧ p < 96 ∧ i < 2 ∧ d.portUp p = true ∧ d.ptpHead b = some m ∧ m.kind = 11 ∧ d.ptpTakes p m = true ∧ d.get E.FirmwareState = 2) :=
  ⟨⟨s202, 5000, 95, 0, ([1, 27, 25, 0, 0, 0, 2, 0, 0, 0, 0, 2, 136, 247, 1, 2, 0, 44] ++ List.replicate 23 0 ++ [5, 0, 2, 0, 7] ++ List.replicate 14 0 : Bytes), ((((s202).seen 5000).ptpHead (([1, 27, 25, 0, 0, 0, 2, 0, 0, 0, 0, 2, 136, 247, 1, 2, 0, 44] ++ List.replicate 23 0 ++ [5, 0, 2, 0, 7] ++ List.replicate 14 0 : Bytes))).getD ⟨0, 0, 0, 0, 0, 0, false, 0, 0, 0, 0, none⟩), s202.seen 5000, rfl, rfl, by decide +kernel⟩,
   ⟨s203, 5000, 95, 0, ([1, 27, 25, 0, 0, 0, 2, 0, 0, 0, 0, 2, 136, 247, 9, 2, 0, 44] ++ List.replicate 23 0 ++ [5, 0, 2, 0, 7] ++ List.replicate 12 0 ++ [17, 34, 51, 68, 85, 102, 119, 136, 0, 96] : Bytes), ((((s203).seen 5000).ptpHead (([1, 27, 25, 0, 0, 0, 2, 0, 0, 0, 0, 2, 136, 247, 9, 2, 0, 44] ++ List.replicate 23 0 ++ [5, 0, 2, 0, 7] ++ List.replicate 12 0 ++ [17, 34, 51, 68, 85, 102, 119, 136, 0, 96] : Bytes))).getD ⟨0, 0, 0, 0, 0, 0, false, 0, 0, 0, 0, none⟩), s203.seen 5000, 100, rfl, rfl, by decide +kernel⟩,
   ⟨s202, 5000, 95, 0, ([1, 27, 25, 0, 0, 0, 2, 0, 0, 0, 0, 2, 136, 247, 2, 2, 0, 44] ++ List.replicate 23 0 ++ [5, 0, 2, 0, 7] ++ List.replicate 14 0 : Bytes), ((((s202).seen 5000).ptpHead (([1, 27, 25, 0, 0, 0, 2, 0, 0, 0, 0, 2, 136, 247, 2, 2, 0, 44] ++ List.replicate 23 0 ++ [5, 0, 2, 0, 7] ++ List.replicate 14 0 : Bytes))).getD ⟨0, 0, 0, 0, 0, 0, false, 0, 0, 0, 0, none⟩), s202.seen 5000, rfl, rfl, by decide +kernel⟩,
   ⟨s204, 5000, 95, 0, ([1, 27, 25, 0, 0, 0, 2, 0, 0, 0, 0, 2, 136, 247, 2, 2, 0, 44] ++ List.replicate 23 0 ++ [5, 0, 2, 0, 7] ++ List.replicate 14 0 : Bytes), ((((s204).seen 5000).ptpHead (([1, 27, 25, 0, 0, 0, 2, 0, 0, 0, 0, 2, 136, 247, 2, 2, 0, 44] ++ List.replicate 23 0 ++ [5, 0, 2, 0, 7] ++ List.replicate 14 0 : Bytes))).getD ⟨0, 0, 0, 0, 0, 0, false, 0, 0, 0, 0, none⟩), s204.seen 5000, rfl, rfl, by decide +kernel⟩,
   ⟨s205, 5000, 95, 0, ([1, 27, 25, 0, 0, 0, 2, 0, 0, 0, 0, 2, 136, 247, 3, 2, 0, 44] ++ List.replicate 23 0 ++ [5, 0, 2, 0, 7] ++ List.replicate 12 0 ++ [17, 34, 51, 68, 85, 102, 119, 136, 0, 96] : Bytes), ((((s205).seen 5000).ptpHead (([1, 27, 25, 0, 0, 0, 2, 0, 0, 0, 0, 2, 136, 247, 3, 2, 0, 44] ++ List.replicate 23 0 ++ [5, 0, 2, 0, 7] ++ List.replicate 12 0 ++ [17, 34, 51, 68, 85, 102, 119, 136, 0, 96] : Bytes))).getD ⟨0, 0, 0, 0, 0, 0, false, 0, 0, 0, 0, none⟩), s205.seen 5000, 100, (none : Option (Int × Int)), rfl, rfl, by decide +kernel⟩,
   ⟨s205, 5000, 95, 0, ([1, 27, 25, 0, 0, 0, 2, 0, 0, 0, 0, 2, 136, 247, 3, 2, 0, 44, 0, 0, 2] ++ List.replicate 20 0 ++ [5, 0, 2, 0, 7] ++ List.replicate 12 0 ++ [17, 34, 51, 68, 85, 102, 119, 136, 0, 96] : Bytes), ((((s205).seen 5000).ptpHead (([1, 27, 25, 0, 0, 0, 2, 0, 0, 0, 0, 2, 136, 247, 3, 2, 0, 44, 0, 0, 2] ++ List.replicate 20 0 ++ [5, 0, 2, 0, 7] ++ List.replicate 12 0 ++ [17, 34, 51, 68, 85, 102, 119, 136, 0, 96] : Bytes))).getD ⟨0, 0, 0, 0, 0, 0, false, 0, 0, 0, 0, none⟩), s205.seen 5000, 100, (none : Option (Int × Int)), rfl, rfl, by decide +kernel⟩,
   ⟨s206, 5000, 95, 0, ([1, 27, 25, 0, 0, 0, 2, 0, 0, 0, 0, 2, 136, 247, 3, 2, 0, 44] ++ List.replicate 23 0 ++ [5, 0, 2, 0, 7] ++ List.replicate 14 0 : Bytes), ((((s206).seen 5000).ptpHead (([1, 27, 25, 0, 0, 0, 2, 0, 0, 0, 0, 2, 136, 247, 3, 2, 0, 44] ++ List.replicate 23 0 ++ [5, 0, 2, 0, 7] ++ List.replicate 14 0 : Bytes))).getD ⟨0, 0, 0, 0, 0, 0, false, 0, 0, 0, 0, none⟩), s206.seen 5000, ({ seq := 7, t1 := some 100 } : PdReq), rfl, rfl, by decide +kernel⟩,
   ⟨s207, 5000, 95, 0, ([1, 27, 25, 0, 0, 0, 2, 0, 0, 0, 0, 2, 136, 247, 3, 2, 0, 44] ++ List.replicate 23 0 ++ [5, 0, 2, 0, 7] ++ List.replicate 14 0 : Bytes), ((((s207).seen 5000).ptpHead (([1, 27, 25, 0, 0, 0, 2, 0, 0, 0, 0, 2, 136, 247, 3, 2, 0, 44] ++ List.replicate 23 0 ++ [5, 0, 2, 0, 7] ++ List.replicate 14 0 : Bytes))).getD ⟨0, 0, 0, 0, 0, 0, false, 0, 0, 0, 0, none⟩), s207.seen 5000, ({ seq := 7, t1 := some 100 } : PdReq), rfl, rfl, by decide +kernel⟩,
   ⟨s195, 5000, 95, 0, ([1, 27, 25, 0, 0, 0, 2, 0, 0, 0, 0, 2, 136, 247, 11, 2, 0, 44] ++ List.replicate 23 0 ++ [5, 0, 2, 0, 7] ++ List.replicate 14 0 : Bytes), ((((s195).seen 5000).ptpHead (([1, 27, 25, 0, 0, 0, 2, 0, 0, 0, 0, 2, 136, 247, 11, 2, 0, 44] ++ List.replicate 23 0 ++ [5, 0, 2, 0, 7] ++ List.replicate 14 0 : Bytes))).getD ⟨0, 0, 0, 0, 0, 0, false, 0, 0, 0, 0, none⟩), s195.seen 5000, rfl, rfl, by decide +kernel⟩,
   ⟨s208, 5000, 95, 0, ([1, 27, 25, 0, 0, 0, 2, 0, 0, 0, 0, 2, 136, 247, 11, 2, 0, 44] ++ List.replicate 23 0 ++ [5, 0, 2, 0, 7] ++ List.replicate 14 0 : Bytes), ((((s208).seen 5000).ptpHead (([1, 27, 25, 0, 0, 0, 2, 0, 0, 0, 0, 2, 136, 247, 11, 2, 0, 44] ++ List.replicate 23 0 ++ [5, 0, 2, 0, 7] ++ List.replicate 14 0 : Bytes))).getD ⟨0, 0, 0, 0, 0, 0, false, 0, 0, 0, 0, none⟩), s208.seen 5000, rfl, rfl, by decide +kernel⟩⟩

theorem witness_TimeMessages_3 :
    (∃ (s : State) (x : Nat) (p : Nat) (i : Nat) (d : Dev), s.Runs ∧ d = s.seen x ∧ p < 96 ∧ i < 2 ∧ d.portUp p = true ∧ d.ptpRole p i = 2 ∧ d.get (E.MasterMode i) = 0 ∧ (d.ptp p).nextSync.getD i 0 ≤ d.net.bounds) ∧
    (∃ (s : State) (x : Nat) (p : Nat) (i : Nat) (d : Dev), s.Runs ∧ d = s.seen x ∧ p < 96 ∧ i < 2 ∧ d.portUp p = true ∧ d.ptpRole p i = 2 ∧ d.get (E.MasterMode i) = 0 ∧ (d.ptp p).nextSync.getD i 0 ≤ d.net.bounds) ∧
    (∃ (s : State) (x : Nat) (p : Nat) (i : Nat) (d : Dev), s.Runs ∧ d = s.seen x ∧ p < 96 ∧ i < 2 ∧ d.portUp p = true ∧ d.net.bounds < (d.ptp p).nextSync.getD i 0) ∧
    (∃ (s : State) (x : Nat) (p : Nat) (i : Nat) (d : Dev), s.Runs ∧ d = s.seen x ∧ p < 96 ∧ i < 2 ∧ d.portUp p = true ∧ d.ptpRole p i = 3 ∧ d.get (E.DelayMechanism i) = 1 ∧ d.get (E.DelayReqIntervalTicks i) ≠ 0 ∧ (d.ptp p).nextDreq.getD i 0 ≤ d.net.bounds) ∧
    (∃ (s : State) (x : Nat) (p : Nat) (i : Nat) (d : Dev), s.Runs ∧ d = s.seen x ∧ p < 96 ∧ i < 2 ∧ d.portUp p = true ∧ d.get (E.DelayMechanism i) ≠ 1) ∧
    (∃ (s : State) (x : Nat) (p : Nat) (i : Nat) (d : Dev), s.Runs ∧ d = s.seen x ∧ p < 96 ∧ i < 2 ∧ d.portUp p = true ∧ d.pdelayDue p = true ∧ (d.ptp p).pdReq = none) ∧
    (∃ (s : State) (x : Nat) (p : Nat) (i : Nat) (d : Dev), s.Runs ∧ d = s.seen x ∧ p < 96 ∧ i < 2 ∧ d.portUp p = true ∧ d.pdelayDue p = false) ∧
    (∃ (s : State) (x : Nat) (p : Nat) (i : Nat) (d : Dev), s.Runs ∧ d = s.seen x ∧ p < 96 ∧ i < 2 ∧ d.portUp p = true ∧ d.pdelayDue p = false) :=
  ⟨⟨s202, 5000, 95, 0, s202.seen 5000, rfl, rfl, by decide +kernel⟩,
   ⟨s209, 5000, 95, 1, s209.seen 5000, rfl, rfl, by decide +kernel⟩,
   ⟨s210, 5000, 95, 0, s210.seen 5000, rfl, rfl, by decide +kernel⟩,
   ⟨s211, 5000, 95, 0, s211.seen 5000, rfl, rfl, by decide +kernel⟩,
   ⟨s212, 5000, 95, 0, s212.seen 5000, rfl, rfl, by decide +kernel⟩,
   ⟨s213, 5000, 95, 0, s213.seen 5000, rfl, rfl, by decide +kernel⟩,
   ⟨s214, 5000, 95, 0, s214.seen 5000, rfl, rfl, by decide +kernel⟩,
   ⟨s215, 5000, 95, 0, s215.seen 5000, rfl, rfl, by decide +kernel⟩⟩

theorem witness_FirmwareStartsAndSwaps :
    (∃ (s : State) (x : Nat) (d : Dev) (b : Bytes), s.Runs ∧ d = s.seen x ∧ d.get E.BootSource ≠ 3 ∧ d.get E.FirmwareState = 0 ∧ d.power.loaded = true ∧ d.get E.FlashBytes ≠ 0 ∧ b ≠ []) ∧
    (∃ (s : State) (x : Nat) (d : Dev), s.Runs ∧ d = s.seen x ∧ d.get E.SwapState = 1 ∧ d.get E.ActiveBank = 0) ∧
    (∃ (s : State) (x : Nat) (d : Dev), s.Runs ∧ d = s.seen x ∧ d.get E.SwapState = 3 ∧ d.fw.asked = false ∧ d.fw.swapTick ≤ d.tickNow + 1) ∧
    (∃ (s : State) (x : Nat) (d : Dev) (h : BankHdr), s.Runs ∧ d = s.seen x ∧ d.get E.SwapState = 3 ∧ d.fw.swapTick ≤ d.tickNow ∧ d.fw.ready = true ∧ d.fw.standby = some h ∧ d.get E.ActiveBank = 0) ∧
    (∃ (s : State) (x : Nat) (d : Dev), s.Runs ∧ d = s.seen x ∧ d.get E.SwapState = 3 ∧ d.fw.swapTick ≤ d.tickNow ∧ d.fw.ready = false ∧ d.fwRunning = true) :=
  ⟨⟨s216, 5, s216.seen 5, ([1] : Bytes), rfl, rfl, by decide +kernel⟩,
   ⟨s217, 5, s217.seen 5, rfl, rfl, by decide +kernel⟩,
   ⟨s218, 5, s218.seen 5, rfl, rfl, by decide +kernel⟩,
   ⟨s219, 5, s219.seen 5, (⟨1, 2, 3, 4⟩ : BankHdr), rfl, rfl, by decide +kernel⟩,
   ⟨s220, 5, s220.seen 5, rfl, rfl, by decide +kernel⟩⟩

theorem witness_TelemetryFollowsBoundaries :
    (∃ (s : State) (x : Nat) (q : Nat) (d : Dev) (k : Snap), s.Runs ∧ d = s.seen x ∧ q < 8 ∧ d.tele.snap = some k ∧ d.tele.swept ≠ d.net.bounds ∧ d.tele.dumps = [] ∧ d.sweepTarget q = true ∧ ((∀ i, i < 8 → (sweepDueAt (({ d with dict := k.dict }).row T.SweepSets i) k.tick && d.sweepValid i && d.get (E.SweepState i) != 2) = (i == q))) ∧ d.sweepFits q (({ d with dict := k.dict }).recordWords q) = true) ∧
    (∃ (s : State) (x : Nat) (q : Nat) (d : Dev) (k : Snap), s.Runs ∧ d = s.seen x ∧ q < 8 ∧ d.tele.snap = some k ∧ d.tele.swept ≠ d.net.bounds ∧ d.tele.dumps = [] ∧ d.sweepTarget q = true ∧ ((∀ i, i < 8 → (sweepDueAt (({ d with dict := k.dict }).row T.SweepSets i) k.tick && d.sweepValid i && d.get (E.SweepState i) != 2) = (i == q))) ∧ d.sweepFits q (({ d with dict := k.dict }).recordWords q) = false) ∧
    (∃ (s : State) (x : Nat) (q : Nat) (d : Dev) (u : Dump), s.Runs ∧ d = s.seen x ∧ q < 8 ∧ d.tele.dumps = [u] ∧ u.set = q ∧ Row.SweepSets.target (d.row T.SweepSets q) = 1) ∧
    (∃ (s : State) (x : Nat) (q : Nat) (d : Dev) (u : Dump), s.Runs ∧ d = s.seen x ∧ q < 8 ∧ d.tele.dumps = [u] ∧ u.set = q ∧ d.sweepTarget q = true) ∧
    (∃ (s : State) (x : Nat) (q : Nat) (d : Dev) (k : Snap), s.Runs ∧ d = s.seen x ∧ q < 8 ∧ d.tele.snap = some k ∧ d.tele.bwDone ≠ d.net.bounds ∧ k.tick % max 1 (d.get E.BwWindowTicks) = 0) ∧
    (∃ (s : State) (x : Nat) (q : Nat) (d : Dev), s.Runs ∧ d = s.seen x ∧ q < 8 ∧ d.get E.TickIrqDivider ≠ 0 ∧ d.time.tickRun = true ∧ d.time.tick % d.get E.TickIrqDivider = 0 ∧ d.tele.irqDone ≠ d.net.bounds) :=
  ⟨⟨s221, 5, 7, s221.seen 5, ({ dict := (s221).dev.dict, tick := 0, time := 0, raw := 0, acq := false } : Snap), rfl, rfl, by decide +kernel⟩,
   ⟨s222, 5, 7, s222.seen 5, ({ dict := (s222).dev.dict, tick := 0, time := 0, raw := 0, acq := false } : Snap), rfl, rfl, by decide +kernel⟩,
   ⟨s223, 5, 7, s223.seen 5, ({ set := 7, bank := 0, words := [1, 2] } : Dump), rfl, rfl, by decide +kernel⟩,
   ⟨s224, 5, 7, s224.seen 5, ({ set := 7, bank := 0, words := [1, 2] } : Dump), rfl, rfl, by decide +kernel⟩,
   ⟨s225, 5, 7, s225.seen 5, ({ dict := (s225).dev.dict, tick := 0, time := 0, raw := 0, acq := false } : Snap), rfl, rfl, by decide +kernel⟩,
   ⟨s226, 5, 7, s226.seen 5, rfl, rfl, by decide +kernel⟩⟩

theorem witness_DictionaryReads :
    (∃ (s : State) (x : Nat) (idx : Nat) (sub : Nat) (r : Requester) (d : Dev) (e : _) (o : Op), s.Runs ∧ d = s.seen x ∧ idx < 65536 ∧ sub < 256 ∧ o = { opcode := 1, idx, sub : Op } ∧ d.finds r o (.entry e) = true ∧ e.acc ≠ .wo ∧ e.acc ≠ .rc ∧ e.ty.bytes ≠ 0) ∧
    (∃ (s : State) (x : Nat) (idx : Nat) (sub : Nat) (r : Requester) (d : Dev) (e : _) (o : Op), s.Runs ∧ d = s.seen x ∧ idx < 65536 ∧ sub < 256 ∧ o = { opcode := 1, idx, sub : Op } ∧ d.finds r o (.entry e) = true ∧ e.acc ≠ .wo ∧ e.acc ≠ .rc ∧ e.ty.bytes ≠ 0) ∧
    (∃ (s : State) (x : Nat) (idx : Nat) (sub : Nat) (r : Requester) (d : Dev) (e : _) (o : Op), s.Runs ∧ d = s.seen x ∧ idx < 65536 ∧ sub < 256 ∧ o = { opcode := 1, idx, sub : Op } ∧ d.finds r o (.entry e) = true ∧ e.acc = .rc ∧ e.ty.bytes ≠ 0 ∧ entryKey idx sub ≠ E.EventTraceCount ∧ entryKey idx sub ≠ E.FreeCellsLow) ∧
    (∃ (s : State) (x : Nat) (idx : Nat) (sub : Nat) (r : Requester) (d : Dev) (e : _) (o : Op), s.Runs ∧ d = s.seen x ∧ idx < 65536 ∧ sub < 256 ∧ o = { opcode := 3, idx, sub : Op } ∧ d.finds r o (.entry e) = true ∧ e.acc = .rwt ∧ e.ty.bytes ≠ 0) ∧
    (∃ (s : State) (x : Nat) (idx : Nat) (sub : Nat) (r : Requester) (d : Dev) (e : _) (t' : _) (row : _) (q : _) (o : Op), s.Runs ∧ d = s.seen x ∧ idx < 65536 ∧ sub < 256 ∧ o = { opcode := 4, idx, sub, ty := 0x0F, data := toBE 4 row ++ toBE 2 1 : Op } ∧ d.finds r o (.table e t') = true ∧ row < t'.cap ∧ row < 2 ^ 32 ∧ t'.bits ≤ 8192 ∧ (rowsOf idx row).head? = some q ∧ (d.posed r o).rowsBad idx row 1 = false) ∧
    (∃ (s : State) (x : Nat) (idx : Nat) (sub : Nat) (r : Requester) (d : Dev) (e : _) (off : _) (len : _) (o : Op), s.Runs ∧ d = s.seen x ∧ idx < 65536 ∧ sub < 256 ∧ o = { opcode := 6, idx, sub, data := toBE 4 off ++ toBE 2 len : Op } ∧ d.finds r o (.entry e) = true ∧ e.acc ≠ .wo ∧ e.ty = .domain ∧ entryKey idx sub ≠ E.DeepQueryResult ∧ (d.posed r o).entryBad (entryKey idx sub) = false ∧ off < 2 ^ 32 ∧ len ≤ 1452 ∧ off ≤ ((d.posed r o).domNow (entryKey idx sub) r.master).length) :=
  ⟨⟨s18, 5, 0x200, 4, m0, s18.seen 5, sp (0x200) (4), ({ opcode := 1, idx := (0x200), sub := (4) } : Op), rfl, rfl, by decide +kernel⟩,
   ⟨s18, 5, 0x100, 5, m0, s18.seen 5, sp (0x100) (5), ({ opcode := 1, idx := (0x100), sub := (5) } : Op), rfl, rfl, by decide +kernel⟩,
   ⟨s227, 5, 0x200, 5, m0, s227.seen 5, sp (0x200) (5), ({ opcode := 1, idx := (0x200), sub := (5) } : Op), rfl, rfl, by decide +kernel⟩,
   ⟨s18, 5, E.TickPhase / 256, E.TickPhase % 256, m0, s18.seen 5, sp (E.TickPhase / 256) (E.TickPhase % 256), ({ opcode := 3, idx := (E.TickPhase / 256), sub := (E.TickPhase % 256) } : Op), rfl, rfl, by decide +kernel⟩,
   ⟨s18, 5, T.EventFilters, 0, m0, s18.seen 5, sp T.EventFilters 0, tb T.EventFilters, 7, (T.EventFilters, 7), ({ opcode := 4, idx := (T.EventFilters), sub := (0), ty := 0x0F, data := toBE 4 7 ++ toBE 2 1 } : Op), rfl, rfl, by decide +kernel⟩,
   ⟨s18, 5, 0x3412, 1, m0, s18.seen 5, sp (0x3412) (1), 0, 1452, ({ opcode := 6, idx := (0x3412), sub := (1), data := toBE 4 0 ++ toBE 2 1452 } : Op), rfl, rfl, by decide +kernel⟩⟩

theorem witness_DictionaryWrites :
    (∃ (s : State) (x : Nat) (idx : Nat) (sub : Nat) (r : Requester) (d : Dev) (v : _) (data : Bytes) (ty : _), s.Runs ∧ d = s.seen x ∧ idx < 65536 ∧ sub < 256 ∧ d.takes r { opcode := 2, idx, sub, ty, data } [.scal (entryKey idx sub) v] ∧ entryKey idx sub ∈ [E.NodeId, E.DefaultHopLimit, E.ProstaQueue, E.SessionIdleTimeout, E.TickIrqDivider, E.HostWdTicks]) ∧
    (∃ (s : State) (x : Nat) (idx : Nat) (sub : Nat) (r : Requester) (d : Dev) (v : _) (data : Bytes) (ty : _), s.Runs ∧ d = s.seen x ∧ idx < 65536 ∧ sub < 256 ∧ d.takes r { opcode := 2, idx, sub, ty, data } [.scal (entryKey idx sub) v] ∧ entryKey idx sub ∈ [E.NodeId, E.DefaultHopLimit, E.ProstaQueue, E.SessionIdleTimeout, E.TickIrqDivider, E.HostWdTicks]) ∧
    (∃ (s : State) (x : Nat) (idx : Nat) (sub : Nat) (r : Requester) (d : Dev) (v : _) (data : Bytes) (ty : _), s.Runs ∧ d = s.seen x ∧ idx < 65536 ∧ sub < 256 ∧ d.takes r { opcode := 2, idx, sub, ty, data } [.scal (entryKey idx sub) v] ∧ (Put.scal (entryKey idx sub) v).stages = true) ∧
    (∃ (s : State) (x : Nat) (idx : Nat) (sub : Nat) (r : Requester) (d : Dev) (st : _) (data : Bytes) (ty : _), s.Runs ∧ d = s.seen x ∧ idx < 65536 ∧ sub < 256 ∧ d.refuses r { opcode := 2, idx, sub, ty, data } st = true ∧ st ≠ Status.ok) ∧
    (∃ (s : State) (x : Nat) (idx : Nat) (sub : Nat) (r : Requester) (d : Dev) (st : _) (data : Bytes) (ty : _), s.Runs ∧ d = s.seen x ∧ idx < 65536 ∧ sub < 256 ∧ d.refuses r { opcode := 2, idx, sub, ty, data } st = true ∧ st ≠ Status.ok) ∧
    (∃ (s : State) (x : Nat) (idx : Nat) (sub : Nat) (r : Requester) (d : Dev) (row : _) (v : _) (data : Bytes), s.Runs ∧ d = s.seen x ∧ idx < 65536 ∧ sub < 256 ∧ d.takes r { opcode := 5, idx, sub, ty := 0x0F, data := toBE 4 row ++ toBE 2 1 ++ data } [.row idx row v] ∧ row < 2 ^ 20 ∧ (idx = T.EventFilters ∨ idx = T.ProstaRoutes)) ∧
    (∃ (s : State) (x : Nat) (idx : Nat) (sub : Nat) (r : Requester) (d : Dev) (e : _) (total : _) (data : Bytes) (o : Op), s.Runs ∧ d = s.seen x ∧ idx < 65536 ∧ sub < 256 ∧ o = { opcode := 7, idx, sub, data := toBE 4 0 ++ toBE 4 total ++ data : Op } ∧ d.finds r o (.entry e) = true ∧ e.writable false (entryKey idx sub) = true ∧ e.ty = .domain ∧ d.access.bulks = [] ∧ totalOk (.entry e) total = Status.ok ∧ total < 2 ^ 32 ∧ data.length < total ∧ entryKey idx sub ≠ E.FirmwareBank 0 ∧ entryKey idx sub ≠ E.FirmwareBank 1) ∧
    (∃ (s : State) (x : Nat) (idx : Nat) (sub : Nat) (r : Requester) (d : Dev) (e : _) (bank : _) (data : Bytes) (o : Op), s.Runs ∧ d = s.seen x ∧ idx < 65536 ∧ sub < 256 ∧ bank < 2 ∧ o = { opcode := 7, idx := E.FirmwareBank 0 / 256, sub := bank + 1, data := toBE 4 0 ++ toBE 4 data.length ++ data : Op } ∧ d.finds r o (.entry e) = true ∧ e.writable false o.key = true ∧ e.ty = .domain ∧ d.access.bulks = [] ∧ totalOk (.entry e) data.length = Status.ok ∧ data.length < 2 ^ 32 ∧ isFirmware r.master = false ∧ d.get E.ActiveBank ≠ bank ∧ putValid (.dom o.key data) = true ∧ ((d.posed r o).recordRel r false [.dom o.key data]).status = Status.ok) ∧
    (∃ (s : State) (x : Nat) (idx : Nat) (sub : Nat) (d : Dev) (b : Bulk) (m : _), s.Runs ∧ d = s.seen x ∧ idx < 65536 ∧ sub < 256 ∧ d.access.bulks = [b] ∧ b.who.master = m ∧ b.key = entryKey idx sub ∧ b.last + 8000000000 < d.now) :=
  ⟨⟨s18, 5, E.NodeId / 256, E.NodeId % 256, m0, s18.seen 5, 0x3FFE, toBE (sp (E.NodeId / 256) (E.NodeId % 256)).ty.bytes 0x3FFE, (sp (E.NodeId / 256) (E.NodeId % 256)).ty.code, rfl, rfl, by decide +kernel, by decide +kernel, takesB_sound (by decide +kernel), by decide +kernel⟩,
   ⟨s18, 5, E.HostWdTicks / 256, E.HostWdTicks % 256, (⟨0x10, 0⟩ : Requester), s18.seen 5, 9, toBE (sp (E.HostWdTicks / 256) (E.HostWdTicks % 256)).ty.bytes 9, (sp (E.HostWdTicks / 256) (E.HostWdTicks % 256)).ty.code, rfl, rfl, by decide +kernel, by decide +kernel, takesB_sound (by decide +kernel), by decide +kernel⟩,
   ⟨s18, 5, E.TickPhase / 256, E.TickPhase % 256, m0, s18.seen 5, 9, toBE (sp (E.TickPhase / 256) (E.TickPhase % 256)).ty.bytes 9, (sp (E.TickPhase / 256) (E.TickPhase % 256)).ty.code, rfl, rfl, by decide +kernel, by decide +kernel, takesB_sound (by decide +kernel), by decide +kernel⟩,
   ⟨s18, 5, 0x100, 5, m0, s18.seen 5, Status.accessDenied, toBE 8 1, 5, rfl, rfl, by decide +kernel⟩,
   ⟨s18, 5, 0x0FFF, 5, m0, s18.seen 5, Status.noEntry, toBE 8 1, 5, rfl, rfl, by decide +kernel⟩,
   ⟨s18, 5, T.EventFilters, 0, m0, s18.seen 5, 7, 1024, toBE (cdiv (tb T.EventFilters).bits 8) 1024, rfl, rfl, by decide +kernel, by decide +kernel, takesB_sound (by decide +kernel), by decide +kernel⟩,
   ⟨s18, 5, 0x3412, 1, m0, s18.seen 5, sp (0x3412) (1), 8, ([1, 2] : Bytes), ({ opcode := 7, idx := (0x3412), sub := (1), data := toBE 4 0 ++ toBE 4 8 ++ ([1, 2] : Bytes) } : Op), rfl, rfl, by decide +kernel⟩,
   ⟨s18, 5, 0, 0, (⟨0x10, 0⟩ : Requester), s18.seen 5, sp (E.FirmwareBank 0 / 256) 2, 1, List.replicate 512 (1 : BitVec 8), ({ opcode := 7, idx := E.FirmwareBank 0 / 256, sub := 1 + 1, data := toBE 4 0 ++ toBE 4 512 ++ List.replicate 512 (1 : BitVec 8) } : Op), rfl, rfl, by decide +kernel⟩,
   ⟨s228, 8000000001, 0x3412, 1, s228.seen 8000000001, ({ who := m0, key := entryKey 0x3412 1, total := 8, got := [1], last := 0 } : Bulk), 1, rfl, rfl, by decide +kernel⟩⟩

theorem witness_OtherOperations :
    (∃ (s : State) (x : Nat) (idx : Nat) (sub : Nat) (r : Requester) (d : Dev) (o : Op), s.Runs ∧ d = s.seen x ∧ idx < 65536 ∧ sub < 256 ∧ o = { opcode := 8, idx, sub : Op } ∧ d.clear r o = true ∧ (d.posed r o).subCheck r o = Status.ok ∧ subscribes r = true ∧ d.access.subs.length < 64) ∧
    (∃ (s : State) (x : Nat) (idx : Nat) (sub : Nat) (r : Requester) (d : Dev) (o : Op), s.Runs ∧ d = s.seen x ∧ idx < 65536 ∧ sub < 256 ∧ o = { opcode := 8, idx, sub : Op } ∧ d.clear r o = true ∧ (d.posed r o).subCheck r o = Status.ok ∧ subscribes r = true ∧ d.access.subs.length < 64) ∧
    (∃ (s : State) (x : Nat) (idx : Nat) (sub : Nat) (r : Requester) (d : Dev) (o : Op), s.Runs ∧ d = s.seen x ∧ idx < 65536 ∧ sub < 256 ∧ o = { opcode := 9, idx, sub : Op } ∧ d.clear r o = true ∧ (d.posed r o).subCheck r o = Status.ok ∧ subscribes r = true) ∧
    (∃ (s : State) (x : Nat) (idx : Nat) (sub : Nat) (r : Requester) (d : Dev), s.Runs ∧ d = s.seen x ∧ idx < 65536 ∧ sub < 256 ∧ d.clear r { opcode := 0x0B, idx := 0, sub := 0 } = true ∧ r.master = 0x20 ∧ r.session ≠ 0 ∧ (d.session? r.session).isSome = true) ∧
    (∃ (s : State) (x : Nat) (idx : Nat) (sub : Nat) (r : Requester) (d : Dev) (data : Bytes), s.Runs ∧ d = s.seen x ∧ idx < 65536 ∧ sub < 256 ∧ d.clear r { opcode := 0x0D, idx := 0, sub := 0, data } = true ∧ d.mayOperate r 0x0D = true ∧ data.length ≤ 64) ∧
    (∃ (s : State) (x : Nat) (idx : Nat) (sub : Nat) (r : Requester) (d : Dev) (id : _) (tick : _) (q : _), s.Runs ∧ d = s.seen x ∧ idx < 65536 ∧ sub < 256 ∧ q = d.posed r (commitRecord 1 0 id tick) ∧ d.clear r (commitRecord 1 0 id tick) = true ∧ d.mayOperate r 0x0C = true ∧ id ≠ 0 ∧ id < 0xFFFF ∧ tick < 2 ^ 64 ∧ tick < d.tickNow + 2 ^ 31 ∧ d.commit.batches = [] ∧ d.tooLate (d.time.out.at d.arriveX) tick = false ∧ Dev.contentOk q.staged d.commit.stage tick false q = true) ∧
    (∃ (s : State) (x : Nat) (idx : Nat) (sub : Nat) (r : Requester) (d : Dev), s.Runs ∧ d = s.seen x ∧ idx < 65536 ∧ sub < 256 ∧ d.clear r (commitRecord 2 0 0xFFFF 0) = true ∧ d.mayOperate r 0x0C = true) ∧
    (∃ (s : State) (x : Nat) (idx : Nat) (sub : Nat) (d : Dev), s.Runs ∧ d = s.seen x ∧ idx < 65536 ∧ sub < 256) ∧
    (∃ (s : State) (x : Nat) (idx : Nat) (sub : Nat) (d : Dev), s.Runs ∧ d = s.seen x ∧ idx < 65536 ∧ sub < 256) :=
  ⟨⟨s18, 5, 0x200, 4, (⟨0x10, 0⟩ : Requester), s18.seen 5, ({ opcode := 8, idx := (0x200), sub := (4) } : Op), rfl, rfl, by decide +kernel⟩,
   ⟨s18, 5, 0x200, 0xFF, (⟨0x10, 0⟩ : Requester), s18.seen 5, ({ opcode := 8, idx := (0x200), sub := (0xFF) } : Op), rfl, rfl, by decide +kernel⟩,
   ⟨s18, 5, 0x200, 4, (⟨0x10, 0⟩ : Requester), s18.seen 5, ({ opcode := 9, idx := (0x200), sub := (4) } : Op), rfl, rfl, by decide +kernel⟩,
   ⟨s229, 5, 0x200, 4, (⟨0x20, 9⟩ : Requester), s229.seen 5, rfl, rfl, by decide +kernel⟩,
   ⟨s18, 5, 0x200, 4, (⟨0x10, 0⟩ : Requester), s18.seen 5, List.replicate 64 (3 : BitVec 8), rfl, rfl, by decide +kernel⟩,
   ⟨s230, 5, 0x200, 4, (⟨0x10, 0⟩ : Requester), s230.seen 5, 0xFFFE, 500, ((s230).seen (5)).posed ((⟨0x10, 0⟩ : Requester)) (commitRecord 1 0 (0xFFFE) (500)), rfl, rfl, by decide +kernel⟩,
   ⟨s230, 5, 0x200, 4, (⟨0x10, 0⟩ : Requester), s230.seen 5, rfl, rfl, by decide +kernel⟩,
   ⟨s231, 5, 0x200, 4, s231.seen 5, rfl, rfl, by decide +kernel⟩,
   ⟨s232, 40000, 0x200, 4, s232.seen 40000, rfl, rfl, by decide +kernel⟩⟩

theorem witness_ProstaFramesAndSessions :
    (∃ (s : State) (x : Nat) (d : Dev) (p : _) (b : Bytes) (m : _), s.Runs ∧ d = s.seen x ∧ p < 96 ∧ d.power.forwarding = true ∧ d.isTether p = false ∧ d.isProsta p b = true ∧ m = (pduIn (d.get E.ExtraTpid) b).pdu ∧ (pduOk b.length m = false ∨ 64 ≤ d.agentHeld)) ∧
    (∃ (s : State) (x : Nat) (d : Dev) (p : _) (b : Bytes) (m : _), s.Runs ∧ d = s.seen x ∧ p < 96 ∧ d.power.forwarding = true ∧ d.isTether p = false ∧ d.isProsta p b = true ∧ m = (pduIn (d.get E.ExtraTpid) b).pdu ∧ (pduOk b.length m = false ∨ 64 ≤ d.agentHeld)) ∧
    (∃ (s : State) (x : Nat) (d : Dev) (p : _) (b : Bytes) (m : _), s.Runs ∧ d = s.seen x ∧ p < 96 ∧ d.power.forwarding = true ∧ d.isTether p = false ∧ d.isProsta p b = true ∧ m = (pduIn (d.get E.ExtraTpid) b).pdu ∧ pduOk b.length m = true ∧ d.agentHeld < 64 ∧ Pdu.dest m ∉ [0, d.get E.NodeId, d.get E.AssumedNodeId] ∧ Pdu.request m = false ∧ Pdu.hop m ≤ 1) ∧
    (∃ (s : State) (x : Nat) (d : Dev) (p : _) (b : Bytes) (q : _) (m : _), s.Runs ∧ d = s.seen x ∧ p < 96 ∧ d.power.forwarding = true ∧ d.isTether p = false ∧ d.isProsta p b = true ∧ m = (pduIn (d.get E.ExtraTpid) b).pdu ∧ pduOk b.length m = true ∧ d.agentHeld < 64 ∧ Pdu.dest m ∉ [0, d.get E.NodeId, d.get E.AssumedNodeId] ∧ 1 < Pdu.hop m ∧ d.prostaRoute (Pdu.dest m) = some q) ∧
    (∃ (s : State) (x : Nat) (d : Dev) (slot : _), s.Runs ∧ d = s.seen x ∧ slot < 8 ∧ d.getB (E.KeySlotEnable slot) = true ∧ d.access.sessions.length < 16) ∧
    (∃ (s : State) (x : Nat) (d : Dev) (slot : _), s.Runs ∧ d = s.seen x ∧ slot < 8) ∧
    (∃ (s : State) (x : Nat) (d : Dev) (sid : _) (q : Session), s.Runs ∧ d = s.seen x ∧ d.session? sid = some q ∧ q.last + 8000000000 * d.get E.SessionIdleTimeout ≤ d.now) :=
  ⟨⟨s233, 5, s233.seen 5, 95, (([2, 0, 0, 0, 0, 1, 2, 0, 0, 0, 0, 2, BitVec.ofNat 8 (State.reset.dev.get E.ProstaEtherType / 256), BitVec.ofNat 8 (State.reset.dev.get E.ProstaEtherType % 256), 17, 0, 0, 5, 0, 9, 2, 1, 0, 0, 0, 0, 0, 0, 0, 0, 0, 0, 0, 0, 0, 1, 0, 8, 13, 0, 0, 8, 0, 0, 0, 0, 0, 0, 0, 0, 0, 0, 0, 0, 0, 0, 0, 0, 0, 0]) : Bytes), (pduIn (((s233).seen 5).get E.ExtraTpid) ((([2, 0, 0, 0, 0, 1, 2, 0, 0, 0, 0, 2, BitVec.ofNat 8 (State.reset.dev.get E.ProstaEtherType / 256), BitVec.ofNat 8 (State.reset.dev.get E.ProstaEtherType % 256), 17, 0, 0, 5, 0, 9, 2, 1, 0, 0, 0, 0, 0, 0, 0, 0, 0, 0, 0, 0, 0, 1, 0, 8, 13, 0, 0, 8, 0, 0, 0, 0, 0, 0, 0, 0, 0, 0, 0, 0, 0, 0, 0, 0, 0, 0]) : Bytes))).pdu, rfl, rfl, by decide +kernel⟩,
   ⟨s234, 5, s234.seen 5, 95, (([2, 0, 0, 0, 0, 1, 2, 0, 0, 0, 0, 2, BitVec.ofNat 8 (State.reset.dev.get E.ProstaEtherType / 256), BitVec.ofNat 8 (State.reset.dev.get E.ProstaEtherType % 256), 16, 0, 0, 5, 0, 9, 2, 1, 0, 0, 0, 0, 0, 0, 0, 0, 0, 0, 0, 0, 0, 1, 0, 8, 13, 0, 0, 8, 0, 0, 0, 0, 0, 0, 0, 0, 0, 0, 0, 0, 0, 0, 0, 0, 0, 0]) : Bytes), (pduIn (((s234).seen 5).get E.ExtraTpid) ((([2, 0, 0, 0, 0, 1, 2, 0, 0, 0, 0, 2, BitVec.ofNat 8 (State.reset.dev.get E.ProstaEtherType / 256), BitVec.ofNat 8 (State.reset.dev.get E.ProstaEtherType % 256), 16, 0, 0, 5, 0, 9, 2, 1, 0, 0, 0, 0, 0, 0, 0, 0, 0, 0, 0, 0, 0, 1, 0, 8, 13, 0, 0, 8, 0, 0, 0, 0, 0, 0, 0, 0, 0, 0, 0, 0, 0, 0, 0, 0, 0, 0]) : Bytes))).pdu, rfl, rfl, by decide +kernel⟩,
   ⟨s233, 5, s233.seen 5, 95, (([2, 0, 0, 0, 0, 1, 2, 0, 0, 0, 0, 2, BitVec.ofNat 8 (State.reset.dev.get E.ProstaEtherType / 256), BitVec.ofNat 8 (State.reset.dev.get E.ProstaEtherType % 256), 16, 128, 0, 5, 0, 9, 1, 1, 0, 0, 0, 0, 0, 0, 0, 0, 0, 0, 0, 0, 0, 1, 0, 8, 13, 0, 0, 8, 0, 0, 0, 0, 0, 0, 0, 0, 0, 0, 0, 0, 0, 0, 0, 0, 0, 0]) : Bytes), (pduIn (((s233).seen 5).get E.ExtraTpid) ((([2, 0, 0, 0, 0, 1, 2, 0, 0, 0, 0, 2, BitVec.ofNat 8 (State.reset.dev.get E.ProstaEtherType / 256), BitVec.ofNat 8 (State.reset.dev.get E.ProstaEtherType % 256), 16, 128, 0, 5, 0, 9, 1, 1, 0, 0, 0, 0, 0, 0, 0, 0, 0, 0, 0, 0, 0, 1, 0, 8, 13, 0, 0, 8, 0, 0, 0, 0, 0, 0, 0, 0, 0, 0, 0, 0, 0, 0, 0, 0, 0, 0]) : Bytes))).pdu, rfl, rfl, by decide +kernel⟩,
   ⟨s235, 5, s235.seen 5, 95, (([2, 0, 0, 0, 0, 1, 2, 0, 0, 0, 0, 2, BitVec.ofNat 8 (State.reset.dev.get E.ProstaEtherType / 256), BitVec.ofNat 8 (State.reset.dev.get E.ProstaEtherType % 256), 16, 0, 0, 5, 0, 9, 2, 1, 0, 0, 0, 0, 0, 0, 0, 0, 0, 0, 0, 0, 0, 1, 0, 8, 13, 0, 0, 8, 0, 0, 0, 0, 0, 0, 0, 0, 0, 0, 0, 0, 0, 0, 0, 0, 0, 0]) : Bytes), (95, 7, (none : Option Nat)), (pduIn (((s235).seen 5).get E.ExtraTpid) ((([2, 0, 0, 0, 0, 1, 2, 0, 0, 0, 0, 2, BitVec.ofNat 8 (State.reset.dev.get E.ProstaEtherType / 256), BitVec.ofNat 8 (State.reset.dev.get E.ProstaEtherType % 256), 16, 0, 0, 5, 0, 9, 2, 1, 0, 0, 0, 0, 0, 0, 0, 0, 0, 0, 0, 0, 0, 1, 0, 8, 13, 0, 0, 8, 0, 0, 0, 0, 0, 0, 0, 0, 0, 0, 0, 0, 0, 0, 0, 0, 0, 0]) : Bytes))).pdu, rfl, rfl, by decide +kernel⟩,
   ⟨s236, 5, s236.seen 5, 7, rfl, rfl, by decide +kernel⟩,
   ⟨s233, 5, s233.seen 5, 7, rfl, rfl, by decide +kernel⟩,
   ⟨s237, 8000000000 * 60, s237.seen (8000000000 * 60), 9, ({ id := 9, slot := 7, key := [1], last := 0 } : Session), rfl, rfl, by decide +kernel⟩⟩

theorem witness_CanAgentsAndWindow :
    (∃ (s : State) (x : Nat) (a : Nat) (d : Dev) (seg : Bytes) (o : Op), s.Runs ∧ d = s.seen x ∧ a < 2 ∧ d.getB (E.CanEnable a) = true ∧ seg.length = 64 ∧ beAt seg 0 1 / 64 = 0 ∧ beAt seg 0 1 % 16 = 0 ∧ (d.can a).active = false ∧ requestOps (slice seg 1 (min 63 (beAt seg 3 2))) = some [o] ∧ o.opcode = 0x0D ∧ o.data.length ≤ 64 ∧ d.mayOperate ⟨0x21 + a, 0⟩ 0x0D = true ∧ d.clear ⟨0x21 + a, 0⟩ o = true) ∧
    (∃ (s : State) (x : Nat) (a : Nat) (d : Dev) (seg : Bytes), s.Runs ∧ d = s.seen x ∧ a < 2 ∧ d.getB (E.CanEnable a) = true ∧ seg.length = 64 ∧ beAt seg 0 1 / 64 = 1 ∧ beAt seg 0 1 % 16 = 0 ∧ (d.can a).active = false ∧ 61 < beAt seg 1 2 ∧ beAt seg 1 2 ≤ 4096) ∧
    (∃ (s : State) (x : Nat) (a : Nat) (d : Dev) (seg : Bytes), s.Runs ∧ d = s.seen x ∧ a < 2 ∧ d.getB (E.CanEnable a) = true ∧ seg.length = 64 ∧ beAt seg 0 1 / 64 = 1 ∧ beAt seg 0 1 % 16 = 0 ∧ (d.can a).active = false ∧ 61 < beAt seg 1 2 ∧ beAt seg 1 2 ≤ 4096) ∧
    (∃ (s : State) (x : Nat) (a : Nat) (d : Dev) (seg : Bytes), s.Runs ∧ d = s.seen x ∧ a < 2 ∧ d.getB (E.CanEnable a) = true ∧ seg.length = 64 ∧ beAt seg 0 1 / 64 = 2 ∧ (d.can a).active = true ∧ d.now ≤ (d.can a).last + 800000000 ∧ beAt seg 0 1 % 16 = ((d.can a).count + 1) % 16 ∧ beAt seg 0 1 / 16 % 4 = (d.can a).tag ∧ (d.can a).buf.length + 63 < (d.can a).len) ∧
    (∃ (s : State) (x : Nat) (a : Nat) (d : Dev) (seg : Bytes), s.Runs ∧ d = s.seen x ∧ a < 2 ∧ d.getB (E.CanEnable a) = true ∧ seg.length = 64 ∧ beAt seg 0 1 / 64 = 3) ∧
    (∃ (s : State) (x : Nat) (a : Nat) (d : Dev), s.Runs ∧ d = s.seen x ∧ a < 2 ∧ (d.can a).active = true ∧ (d.can a).last + 800000000 < d.now) ∧
    (∃ (s : State) (x : Nat) (a : Nat) (d : Dev) (tag : _) (b : Bytes), s.Runs ∧ d = s.seen x ∧ a < 2 ∧ (d.can a).resp = some (tag, b)) :=
  ⟨⟨s238, 5, 1, s238.seen 5, ([48, 13, 0, 0, 12, 0, 0, 0, 0, 1, 2, 3, 4] ++ List.replicate 51 0 : Bytes), ({ opcode := 0x0D, idx := 0, sub := 0, data := [1, 2, 3, 4] } : Op), rfl, rfl, by decide +kernel⟩,
   ⟨s239, 5, 1, s239.seen 5, ([112, 0, 62] ++ List.replicate 61 7 : Bytes), rfl, rfl, by decide +kernel⟩,
   ⟨s239, 5, 1, s239.seen 5, ([112, 16, 0] ++ List.replicate 61 7 : Bytes), rfl, rfl, by decide +kernel⟩,
   ⟨s240, 5, 1, s240.seen 5, ([177] ++ List.replicate 63 7 : Bytes), rfl, rfl, by decide +kernel⟩,
   ⟨s239, 5, 1, s239.seen 5, ([192] ++ List.replicate 63 0 : Bytes), rfl, rfl, by decide +kernel⟩,
   ⟨s241, 800000001, 1, s241.seen 800000001, rfl, rfl, by decide +kernel⟩,
   ⟨s242, 5, 1, s242.seen 5, 3, List.replicate 200 (1 : BitVec 8), rfl, rfl, by decide +kernel⟩⟩

theorem witness_CanAgentsAndWindow_2 :
    (∃ (s : State) (x : Nat) (a : Nat) (d : Dev) (e : Event) (l : List Event) (lost : List Nat), s.Runs ∧ d = s.seen x ∧ a < 2 ∧ (d.can a).resp = none ∧ d.access.queues = [⟨⟨0x21 + a, 0⟩, e :: l, lost⟩]) ∧
    (∃ (s : State) (x : Nat) (a : Nat) (d : Dev) (k : _), s.Runs ∧ d = s.seen x ∧ a < 2 ∧ k ≠ d.get (E.CanRequestId a)) ∧
    (∃ (s : State) (x : Nat) (a : Nat) (d : Dev) (k : _), s.Runs ∧ d = s.seen x ∧ a < 2 ∧ k = d.get (E.CanRequestId a) ∧ d.getB (E.CanEnable a) = true) ∧
    (∃ (s : State) (x : Nat) (a : Nat) (d : Dev) (len : _) (o : Op), s.Runs ∧ d = s.seen x ∧ a < 2 ∧ d.access.window.busy = false ∧ 8 ≤ len ∧ len ≤ 4096 ∧ requestOps (fitBytes len d.access.window.buf) = some [o] ∧ o.opcode = 0x0D ∧ o.data.length ≤ 64 ∧ d.mayOperate ⟨0x10, 0⟩ 0x0D = true ∧ d.clear ⟨0x10, 0⟩ o = true) ∧
    (∃ (s : State) (x : Nat) (a : Nat) (d : Dev), s.Runs ∧ d = s.seen x ∧ a < 2 ∧ d.access.window.busy = true) ∧
    (∃ (s : State) (x : Nat) (a : Nat) (d : Dev), s.Runs ∧ d = s.seen x ∧ a < 2 ∧ d.access.window.busy = true ∧ d.access.window.ready = true ∧ d.access.window.discard = false) :=
  ⟨⟨s243, 5, 1, s243.seen 5, ({ key := 5, seq := 0, time := 0, x := 0, acq := false, lost := false, v := 0, data := [] } : Event), ([] : List Event), ([7] : List Nat), rfl, rfl, by decide +kernel⟩,
   ⟨s239, 5, 1, s239.seen 5, 0x123, rfl, rfl, by decide +kernel⟩,
   ⟨s239, 5, 1, s239.seen 5, (s239.seen 5).get (E.CanRequestId 1), rfl, rfl, by decide +kernel⟩,
   ⟨s244, 5, 1, s244.seen 5, 12, ({ opcode := 0x0D, idx := 0, sub := 0, data := [1, 2, 3, 4] } : Op), rfl, rfl, by decide +kernel⟩,
   ⟨s245, 5, 1, s245.seen 5, rfl, rfl, by decide +kernel⟩,
   ⟨s246, 5, 1, s246.seen 5, rfl, rfl, by decide +kernel⟩⟩

theorem witness_PairAndOwnership :
    (∃ (s : State) (x : Nat) (d : Dev), s.Runs ∧ d = s.seen x ∧ d.get E.MateState = 1 ∧ d.get E.HbMissLimit ≤ d.pair.miss ∧ d.getB E.TakeoverArmed = false) ∧
    (∃ (s : State) (x : Nat) (d : Dev), s.Runs ∧ d = s.seen x ∧ d.get E.MateState = 1 ∧ d.get E.HbMissLimit ≤ d.pair.miss ∧ d.getB E.TakeoverArmed = true ∧ d.dom E.TakeoverPlan = List.replicate 24 0) ∧
    (∃ (s : State) (x : Nat) (d : Dev) (k : _), s.Runs ∧ d = s.seen x ∧ d.get E.MateState = 1 ∧ d.paths.contains k = true ∧ d.pair.flagged.contains k = false ∧ d.get E.HbMissLimit ≤ d.pair.silent.getD k 0) ∧
    (∃ (s : State) (x : Nat) (d : Dev) (k : _), s.Runs ∧ d = s.seen x ∧ d.get E.MateState = 1 ∧ d.paths.contains k = true ∧ d.pair.flagged.contains k = false ∧ d.get E.HbMissLimit ≤ d.pair.silent.getD k 0) ∧
    (∃ (s : State) (x : Nat) (d : Dev) (k : _), s.Runs ∧ d = s.seen x ∧ d.get E.MateState = 1 ∧ d.pair.silent.getD k 0 < d.get E.HbMissLimit) ∧
    (∃ (s : State) (x : Nat) (r : Requester) (d : Dev), s.Runs ∧ d = s.seen x ∧ d.accepts r E.TakeoverArm 1 ∧ d.getB E.PairEnable = true ∧ d.get E.MateState = 1) ∧
    (∃ (s : State) (x : Nat) (r : Requester) (d : Dev), s.Runs ∧ d = s.seen x ∧ d.accepts r E.TakeoverArm 0) ∧
    (∃ (s : State) (x : Nat) (r : Requester) (d : Dev), s.Runs ∧ d = s.seen x ∧ d.accepts r E.OwnClaim 1 ∧ d.get E.OwnState = 0 ∧ d.pair.ownGnt = false) :=
  ⟨⟨s247, 5, s247.seen 5, rfl, rfl, by decide +kernel⟩,
   ⟨s248, 5, s248.seen 5, rfl, rfl, by decide +kernel⟩,
   ⟨s249, 5, s249.seen 5, 0, rfl, rfl, by decide +kernel⟩,
   ⟨s250, 5, s250.seen 5, 2, rfl, rfl, by decide +kernel⟩,
   ⟨s251, 5, s251.seen 5, 2, rfl, rfl, by decide +kernel⟩,
   ⟨s252, 5, m0, s252.seen 5, rfl, rfl, takesB_sound (by decide +kernel), by decide +kernel⟩,
   ⟨s252, 5, m0, s252.seen 5, rfl, rfl, takesB_sound (by decide +kernel)⟩,
   ⟨s18, 5, m0, s18.seen 5, rfl, rfl, takesB_sound (by decide +kernel), by decide +kernel⟩⟩

theorem witness_PairAndOwnership_2 :
    (∃ (s : State) (x : Nat) (r : Requester) (d : Dev), s.Runs ∧ d = s.seen x ∧ d.accepts r E.OwnRelease 1) ∧
    (∃ (s : State) (x : Nat) (r : Requester) (d : Dev), s.Runs ∧ d = s.seen x ∧ d.accepts r E.OwnRelease 1) ∧
    (∃ (s : State) (x : Nat) (d : Dev), s.Runs ∧ d = s.seen x ∧ d.get E.OwnState = 0) ∧
    (∃ (s : State) (x : Nat) (d : Dev), s.Runs ∧ d = s.seen x ∧ d.get E.OwnState = 1 ∧ d.get E.PairRole = 2) ∧
    (∃ (s : State) (x : Nat) (d : Dev), s.Runs ∧ d = s.seen x) ∧
    (∃ (s : State) (x : Nat) (d : Dev), s.Runs ∧ d = s.seen x ∧ d.get E.OwnState = 1 ∧ d.pair.ownGnt = false ∧ d.pair.claimX + 8 * d.get E.OwnSettleNs ≤ d.now) ∧
    (∃ (s : State) (x : Nat) (d : Dev), s.Runs ∧ d = s.seen x ∧ d.get E.OwnState = 3 ∧ d.pair.yieldX + 1600 ≤ d.now) :=
  ⟨⟨s253, 5, m0, s253.seen 5, rfl, rfl, takesB_sound (by decide +kernel)⟩,
   ⟨s18, 5, m0, s18.seen 5, rfl, rfl, takesB_sound (by decide +kernel)⟩,
   ⟨s18, 5, s18.seen 5, rfl, rfl, by decide +kernel⟩,
   ⟨s254, 5, s254.seen 5, rfl, rfl, by decide +kernel⟩,
   ⟨s253, 5, s253.seen 5, rfl, rfl⟩,
   ⟨s255, 8000, s255.seen 8000, rfl, rfl, by decide +kernel⟩,
   ⟨s256, 1600, s256.seen 1600, rfl, rfl, by decide +kernel⟩⟩

theorem witness_TetherAndMirror :
    (∃ (s : State) (x : Nat) (d : Dev) (path : _) (pdu : Bytes) (l : _), s.Runs ∧ d = s.seen x ∧ d.getB E.PairEnable = true ∧ (path = 1 ∨ path = 2) ∧ d.paths.contains path = true ∧ tetherParse pdu = some l ∧ (∀ e ∈ l, 7 ≤ e.1) ∧ d.tseqNew (beAt pdu 4 4) = true ∧ d.pair.applied = none) ∧
    (∃ (s : State) (x : Nat) (d : Dev) (path : _) (pdu : Bytes) (l : _), s.Runs ∧ d = s.seen x ∧ d.getB E.PairEnable = true ∧ (path = 1 ∨ path = 2) ∧ d.paths.contains path = true ∧ tetherParse pdu = some l ∧ (∀ e ∈ l, 7 ≤ e.1) ∧ d.tseqNew (beAt pdu 4 4) = true ∧ d.pair.applied = none) ∧
    (∃ (s : State) (x : Nat) (d : Dev) (path : _) (pdu : Bytes), s.Runs ∧ d = s.seen x ∧ d.getB E.PairEnable = true ∧ (path = 1 ∨ path = 2) ∧ d.paths.contains path = true ∧ tetherParse pdu = none) ∧
    (∃ (s : State) (x : Nat) (d : Dev) (h : HeldPdu) (l : _), s.Runs ∧ d = s.seen x ∧ d.pair.held = [h] ∧ h.x + 16000 ≤ d.now ∧ tetherParse h.pdu = some l ∧ (∀ e ∈ l, 7 ≤ e.1) ∧ d.get E.MirrorState = 3) ∧
    (∃ (s : State) (x : Nat) (d : Dev) (path : _) (role : _) (body : Bytes), s.Runs ∧ d = s.seen x ∧ d.getB E.PairEnable = true ∧ recordOk (1, body) = true ∧ d.paths.contains path = true ∧ role ≠ d.get E.PairRole ∧ role + d.get E.PairRole = 3) ∧
    (∃ (s : State) (x : Nat) (d : Dev) (path : _) (role : _) (body : Bytes), s.Runs ∧ d = s.seen x ∧ d.getB E.PairEnable = true ∧ recordOk (1, body) = true ∧ d.paths.contains path = true ∧ role ≠ d.get E.PairRole ∧ role + d.get E.PairRole = 3) ∧
    (∃ (s : State) (x : Nat) (d : Dev) (path : _) (body : Bytes), s.Runs ∧ d = s.seen x ∧ d.getB E.PairEnable = true ∧ recordOk (1, body) = true ∧ d.paths.contains path = true ∧ d.pair.badRole = false) ∧
    (∃ (s : State) (x : Nat) (d : Dev) (body : Bytes) (i : _) (j : List Nat), s.Runs ∧ d = s.seen x ∧ d.getB E.PairEnable = true ∧ recordOk (2, body) = true ∧ d.l2Search (beAt body 0 1) (beAt body 2 2 % 2 ^ 12) (beAt body 4 6) = (some i, j) ∧ Row.L2Rows.static (d.row (T.L2Rows (beAt body 0 1)) i) = 0) ∧
    (∃ (s : State) (x : Nat) (d : Dev) (body : Bytes) (i : _) (j : List Nat), s.Runs ∧ d = s.seen x ∧ d.getB E.PairEnable = true ∧ recordOk (2, body) = true ∧ d.l2Search (beAt body 0 1) (beAt body 2 2 % 2 ^ 12) (beAt body 4 6) = (some i, j) ∧ Row.L2Rows.static (d.row (T.L2Rows (beAt body 0 1)) i) = 1) :=
  ⟨⟨s252, 5, s252.seen 5, 1, ([24, 1, 0, 20, 0, 0, 0, 7] ++ List.replicate 8 0 ++ [7, 0, 0, 4] : Bytes), ([(7, [])] : List (Nat × Bytes)), rfl, rfl, by decide +kernel⟩,
   ⟨s252, 5, s252.seen 5, 2, ([24, 1, 0, 20, 0, 0, 0, 7] ++ List.replicate 8 0 ++ [7, 0, 0, 4] : Bytes), ([(7, [])] : List (Nat × Bytes)), rfl, rfl, by decide +kernel⟩,
   ⟨s252, 5, s252.seen 5, 2, (List.replicate 20 32 : Bytes), rfl, rfl, by decide +kernel⟩,
   ⟨s257, 16000, s257.seen 16000, (⟨7, ([24, 1, 0, 20, 0, 0, 0, 7] ++ List.replicate 8 0 ++ [7, 0, 0, 4] : Bytes), 0⟩ : HeldPdu), ([(7, [])] : List (Nat × Bytes)), rfl, rfl, by decide +kernel⟩,
   ⟨s252, 5, s252.seen 5, 0, 2, ([0, 0, 18, 52, 1, 2, 3, 4, 5, 6, 7, 8] ++ List.replicate 16 0 : Bytes), rfl, rfl, by decide +kernel⟩,
   ⟨s252, 5, s252.seen 5, 2, 2, ([0, 0, 18, 52, 1, 2, 3, 4, 5, 6, 7, 8] ++ List.replicate 16 0 : Bytes), rfl, rfl, by decide +kernel⟩,
   ⟨s252, 5, s252.seen 5, 2, ([0, 0, 18, 52, 1, 2, 3, 4, 5, 6, 7, 8] ++ List.replicate 16 0 : Bytes), rfl, rfl, by decide +kernel⟩,
   ⟨s258, 5, s258.seen 5, ([7, 1, 0, 5, 0, 0, 0, 0, 0, 7, 0, 3, 0, 0, 0, 0] : Bytes), (l2Cands 5 7).headD 0, ([] : List Nat), rfl, rfl, by decide +kernel⟩,
   ⟨s259, 5, s259.seen 5, ([7, 1, 0, 5, 0, 0, 0, 0, 0, 7, 0, 3, 0, 0, 0, 0] : Bytes), (l2Cands 5 7).headD 0, ([] : List Nat), rfl, rfl, by decide +kernel⟩⟩

theorem witness_TetherAndMirror_2 :
    (∃ (s : State) (x : Nat) (d : Dev) (body : Bytes), s.Runs ∧ d = s.seen x ∧ d.getB E.PairEnable = true ∧ recordOk (3, body) = true) ∧
    (∃ (s : State) (x : Nat) (d : Dev) (body : Bytes), s.Runs ∧ d = s.seen x ∧ d.getB E.PairEnable = true ∧ recordOk (4, body) = true ∧ dictOps (body.drop 4) = none) ∧
    (∃ (s : State) (x : Nat) (d : Dev) (body : Bytes) (k : _) (v : _), s.Runs ∧ d = s.seen x ∧ d.getB E.PairEnable = true ∧ recordOk (4, body) = true ∧ bit (beAt body 1 1) 7 = false ∧ dictOps (body.drop 4) = some [putOp k v] ∧ k ∈ [E.NodeId, E.DefaultHopLimit, E.ProstaQueue, E.SessionIdleTimeout] ∧ d.accepts ⟨0x30, 0⟩ k v) ∧
    (∃ (s : State) (x : Nat) (d : Dev) (body : Bytes), s.Runs ∧ d = s.seen x ∧ d.getB E.PairEnable = true ∧ recordOk (5, body) = true) ∧
    (∃ (s : State) (x : Nat) (d : Dev) (body : Bytes), s.Runs ∧ d = s.seen x ∧ d.getB E.PairEnable = true ∧ recordOk (6, body) = true) ∧
    (∃ (s : State) (x : Nat) (d : Dev), s.Runs ∧ d = s.seen x) ∧
    (∃ (s : State) (x : Nat) (r : Requester) (d : Dev), s.Runs ∧ d = s.seen x ∧ d.accepts r E.MirrorResync 1 ∧ d.get E.MateState = 1 ∧ ((∀ pl, pl < 8 → d.l2Learned pl = [])) ∧ d.net.recs.filter (fun e => d.recMarked e.1) = []) ∧
    (∃ (s : State) (x : Nat) (r : Requester) (d : Dev), s.Runs ∧ d = s.seen x ∧ d.accepts r E.MirrorResync 1 ∧ d.get E.MateState ≠ 1) ∧
    (∃ (s : State) (x : Nat) (d : Dev), s.Runs ∧ d = s.seen x ∧ d.get E.MirrorState = 1 ∧ d.pair.sendQ = []) :=
  ⟨⟨s252, 5, s252.seen 5, ([63, 255, 128, 0, 255, 255, 0, 0] ++ List.replicate 16 170 : Bytes), rfl, rfl, by decide +kernel⟩,
   ⟨s252, 5, s252.seen 5, ([0, 0, 0, 0] ++ List.replicate 8 7 : Bytes), rfl, rfl, by decide +kernel⟩,
   ⟨s252, 5, s252.seen 5, (toBE 4 0 ++ ([2, 0, 0, 10, 2, 16, 3, 3, 0, 9] : Bytes)), E.NodeId, 9, rfl, rfl, by decide +kernel, by decide +kernel, by decide +kernel, by decide +kernel, by decide +kernel, takesB_sound (by decide +kernel)⟩,
   ⟨s252, 5, s252.seen 5, (([7, 0, 0, 0] : Bytes) ++ toBE 8 9 ++ List.replicate 768 0), rfl, rfl, by decide +kernel⟩,
   ⟨s252, 5, s252.seen 5, (List.replicate 48 (0 : BitVec 8)), rfl, rfl, by decide +kernel⟩,
   ⟨s252, 5, s252.seen 5, rfl, rfl⟩,
   ⟨s252, 5, m0, s252.seen 5, rfl, rfl, takesB_sound (by decide +kernel), by decide +kernel⟩,
   ⟨s260, 5, m0, s260.seen 5, rfl, rfl, takesB_sound (by decide +kernel), by decide +kernel⟩,
   ⟨s261, 5, s261.seen 5, rfl, rfl, by decide +kernel⟩⟩

theorem witness_TablesKeepThemselves :
    (∃ (s : State) (x : Nat) (pl : Nat) (i : Nat) (d : Dev) (q : LearnReq) (l : List LearnReq), s.Runs ∧ d = s.seen x ∧ pl < 8 ∧ i < 262144 ∧ d.net.learnQ.getD pl [] = q :: l ∧ q.old = none ∧ (d.l2Search pl q.fid q.mac).1 = none ∧ d.getB E.MirrorL2 = false ∧ (l2Cands q.fid q.mac).find? (fun j => Row.L2Rows.valid (d.row (T.L2Rows pl) j) == 0 && !d.isBad (T.L2Rows pl) j) = some i) ∧
    (∃ (s : State) (x : Nat) (pl : Nat) (i : Nat) (d : Dev) (q : LearnReq) (l : List LearnReq) (o : _), s.Runs ∧ d = s.seen x ∧ pl < 8 ∧ i < 262144 ∧ d.net.learnQ.getD pl [] = q :: l ∧ q.old = some o ∧ (d.l2Search pl q.fid q.mac).1 = some i ∧ d.getB E.MirrorL2 = false ∧ l2Dest (d.row (T.L2Rows pl) i) ≠ q.dest ∧ Row.L2Rows.static (d.row (T.L2Rows pl) i) = 0 ∧ d.heldOff pl q.fid q.mac = false) ∧
    (∃ (s : State) (x : Nat) (pl : Nat) (i : Nat) (d : Dev), s.Runs ∧ d = s.seen x ∧ pl < 8 ∧ i < 262144 ∧ d.getB E.L2AgeEnable = true ∧ Row.L2Rows.valid (d.row (T.L2Rows pl) i) ≠ 0 ∧ Row.L2Rows.static (d.row (T.L2Rows pl) i) = 0 ∧ d.isBad (T.L2Rows pl) i = false ∧ Row.L2Rows.hit (d.row (T.L2Rows pl) i) = 1 ∧ d.ageDue pl i = true) ∧
    (∃ (s : State) (x : Nat) (pl : Nat) (i : Nat) (d : Dev), s.Runs ∧ d = s.seen x ∧ pl < 8 ∧ i < 262144 ∧ d.getB E.L2AgeEnable = true ∧ Row.L2Rows.valid (d.row (T.L2Rows pl) i) ≠ 0 ∧ Row.L2Rows.static (d.row (T.L2Rows pl) i) = 0 ∧ d.isBad (T.L2Rows pl) i = false ∧ Row.L2Rows.hit (d.row (T.L2Rows pl) i) = 0 ∧ d.ageDue pl i = true) ∧
    (∃ (s : State) (x : Nat) (pl : Nat) (i : Nat) (d : Dev) (v : _), s.Runs ∧ d = s.seen x ∧ pl < 8 ∧ i < 262144 ∧ d.net.updates = [{ ticket := none, op := .row (T.TreeRules (pl / 2)) i v, left := [(pl, 1)] }]) ∧
    (∃ (s : State) (x : Nat) (pl : Nat) (i : Nat) (d : Dev) (v : _), s.Runs ∧ d = s.seen x ∧ pl < 8 ∧ i < 262144 ∧ i < 8192 ∧ d.net.updates = [{ ticket := none, op := .row T.AssocRowsAll i v, left := [(pl, 1)] }]) ∧
    (∃ (s : State) (x : Nat) (pl : Nat) (i : Nat) (d : Dev) (l : List EmStep) (j : _), s.Runs ∧ d = s.seen x ∧ pl < 8 ∧ i < 262144 ∧ j ≠ pl ∧ d.net.updates = [{ ticket := none, op := .em l, left := [(j, l.length), (pl, l.length)] }] ∧ 1 < l.length) ∧
    (∃ (s : State) (x : Nat) (pl : Nat) (i : Nat) (d : Dev) (n : _), s.Runs ∧ d = s.seen x ∧ pl < 8 ∧ i < 262144 ∧ d.hbmUp = true ∧ d.isBad n i = false ∧ d.net.repair.getD pl [] = []) ∧
    (∃ (s : State) (x : Nat) (pl : Nat) (i : Nat) (d : Dev) (n : _), s.Runs ∧ d = s.seen x ∧ pl < 8 ∧ i < 262144 ∧ d.isBad n i = false ∧ d.net.scrub.get? pl = none) ∧
    (∃ (s : State) (x : Nat) (pl : Nat) (i : Nat) (d : Dev) (n : _) (l : _), s.Runs ∧ d = s.seen x ∧ pl < 8 ∧ i < 262144 ∧ d.hbmUp = true ∧ d.net.repair.getD pl [] = (n, i) :: l ∧ l2Pl n = none) :=
  ⟨⟨s262, 5, 7, (l2Cands 5 7).headD 0, s262.seen 5, ({ fid := 5, mac := 7, dest := 9, old := none, port := 95, tc := 0 } : LearnReq), ([] : List LearnReq), rfl, rfl, by decide +kernel⟩,
   ⟨s263, 5, 7, (l2Cands 5 7).headD 0, s263.seen 5, ({ fid := 5, mac := 7, dest := 9, old := some 3, port := 95, tc := 0 } : LearnReq), ([] : List LearnReq), 3, rfl, rfl, by decide +kernel⟩,
   ⟨s264, 5, 7, (l2Cands 5 7).headD 0, s264.seen 5, rfl, rfl, by decide +kernel⟩,
   ⟨s265, 5, 7, (l2Cands 5 7).headD 0, s265.seen 5, rfl, rfl, by decide +kernel⟩,
   ⟨s266, 5, 7, (l2Cands 5 7).headD 0, s266.seen 5, 9, rfl, rfl, by decide +kernel⟩,
   ⟨s267, 5, 7, 8191, s267.seen 5, 5, rfl, rfl, by decide +kernel⟩,
   ⟨s268, 5, 7, (l2Cands 5 7).headD 0, s268.seen 5, ([.copy 3 4, .put 3 7] : List EmStep), 0, rfl, rfl, by decide +kernel⟩,
   ⟨s40, 5, 7, 262143, s40.seen 5, T.L2Rows 7, rfl, rfl, by decide +kernel⟩,
   ⟨s18, 5, 7, 262143, s18.seen 5, T.L2Rows 7, rfl, rfl, by decide +kernel⟩,
   ⟨s269, 5, 7, 5, s269.seen 5, T.NextHops, ([] : List (Nat × Nat)), rfl, rfl, by decide +kernel⟩⟩

theorem witness_TableEntries :
    (∃ (s : State) (x : Nat) (v : Nat) (r : Requester) (d : Dev), s.Runs ∧ d = s.seen x ∧ d.accepts r E.L2Flush v ∧ fld v 23 22 = 2 ∧ fld v 21 20 = 0 ∧ bit v 7 = false ∧ d.get E.L2FlushBusy = 0 ∧ maskPls (fld v 31 24) ≠ []) ∧
    (∃ (s : State) (x : Nat) (v : Nat) (r : Requester) (d : Dev), s.Runs ∧ d = s.seen x ∧ d.accepts r E.L2Flush v ∧ fld v 23 22 = 2 ∧ fld v 21 20 = 0 ∧ bit v 7 = false ∧ d.get E.L2FlushBusy = 1) ∧
    (∃ (s : State) (x : Nat) (d : Dev) (pl : _) (i : _), s.Runs ∧ d = s.seen x ∧ pl < 8 ∧ i < 262144 ∧ d.net.updates = [{ ticket := none, op := .flush 2 0 0, left := [(pl, 262144)] }] ∧ d.get E.L2FlushBusy = 1 ∧ d.l2Learned pl = [(i, d.row (T.L2Rows pl) i)]) ∧
    (∃ (s : State) (x : Nat) (v : Nat) (r : Requester) (d : Dev), s.Runs ∧ d = s.seen x ∧ d.accepts r E.StreamUnblock v ∧ v < 2 ^ 20 ∧ bit (d.row T.StreamBlocked v) 7 = true) ∧
    (∃ (s : State) (x : Nat) (v : Nat) (r : Requester) (d : Dev), s.Runs ∧ d = s.seen x ∧ d.accepts r E.GateUnlatch v ∧ v < 2 ^ 20 ∧ bit (d.row T.GateLatched v) 7 = true) ∧
    (∃ (s : State) (x : Nat) (v : Nat) (r : Requester) (d : Dev), s.Runs ∧ d = s.seen x ∧ d.accepts r E.HistogramClear v) ∧
    (∃ (s : State) (x : Nat) (v : Nat) (r : Requester) (d : Dev), s.Runs ∧ d = s.seen x ∧ d.accepts r E.QueueHighWaterClear v ∧ v ≠ 0xFFFF ∧ v < 2 ^ 20) :=
  ⟨⟨s18, 5, 0x81800500, m0, s18.seen 5, rfl, rfl, takesB_sound (by decide +kernel), by decide +kernel⟩,
   ⟨s270, 5, 0x81800500, m0, s270.seen 5, rfl, rfl, takesB_sound (by decide +kernel), by decide +kernel⟩,
   ⟨s271, 5, s271.seen 5, 7, (l2Cands 5 7).headD 0, rfl, rfl, by decide +kernel⟩,
   ⟨s272, 5, 0, m0, s272.seen 5, rfl, rfl, takesB_sound (by decide +kernel), by decide +kernel⟩,
   ⟨s273, 5, 255, m0, s273.seen 5, rfl, rfl, takesB_sound (by decide +kernel), by decide +kernel⟩,
   ⟨s18, 5, 3, m0, s18.seen 5, rfl, rfl, takesB_sound (by decide +kernel)⟩,
   ⟨s274, 5, 1599, m0, s274.seen 5, rfl, rfl, takesB_sound (by decide +kernel), by decide +kernel⟩⟩

theorem witness_TableOperationsWait :
    (∃ (s : State) (x : Nat) (data : Nat) (r : Requester) (d : Dev), s.Runs ∧ d = s.seen x ∧ d.net.updates = [] ∧ d.acceptsDom r E.L2Insert (toBE 14 data) ∧ data < 2 ^ 112 ∧ fld data 103 88 = 0 ∧ (data % 2 ^ 88 &&& ((tableOf (T.L2Rows 0)).map (·.resv)).getD 0) = 0 ∧ Row.L2Rows.valid (data % 2 ^ 88) = 1 ∧ Row.L2Rows.static (data % 2 ^ 88) = 1 ∧ destRefused (l2Dest (data % 2 ^ 88)) = false ∧ maskPls (fld data 111 104) ≠ [] ∧ (maskPls (fld data 111 104)).all (fun pl => (d.l2Place pl (Row.L2Rows.fid (data % 2 ^ 88)) (Row.L2Rows.mac (data % 2 ^ 88))).isSome) = true) ∧
    (∃ (s : State) (x : Nat) (data : Nat) (r : Requester) (d : Dev), s.Runs ∧ d = s.seen x ∧ d.net.updates = [] ∧ d.acceptsDom r E.L2Delete (toBE 9 data) ∧ beAt (toBE 9 data) 1 2 ≤ 4095 ∧ maskPls (beAt (toBE 9 data) 0 1) ≠ []) ∧
    (∃ (s : State) (x : Nat) (data : Nat) (r : Requester) (d : Dev) (l : List EmStep), s.Runs ∧ d = s.seen x ∧ d.net.updates = [] ∧ d.acceptsDom r E.EmInsert (toBE 30 data) ∧ data < 2 ^ 240 ∧ ((2 ^ 255 + data) &&& ((tableOf (T.EmRows 0)).map (·.resv)).getD 0) = 0 ∧ emKeyOk (Row.EmRows.key (2 ^ 255 + data)) = true ∧ (d.emAt 0 (Row.EmRows.key (2 ^ 255 + data))).isSome = false ∧ d.emPlan (2 ^ 255 + data) = some l) ∧
    (∃ (s : State) (x : Nat) (data : Nat) (r : Requester) (d : Dev) (i : _), s.Runs ∧ d = s.seen x ∧ d.net.updates = [] ∧ d.acceptsDom r E.EmDelete (toBE 20 data) ∧ data < 2 ^ 160 ∧ emKeyOk data = true ∧ d.emAt 0 data = some i) ∧
    (∃ (s : State) (x : Nat) (data : Nat) (r : Requester) (d : Dev), s.Runs ∧ d = s.seen x ∧ d.net.updates = [] ∧ d.acceptsDom r E.DeepInsert (toBE 31 data) ∧ data < 2 ^ 248 ∧ deepKeyOk (data / 2 ^ 80) = true ∧ deepResultOk (data / 2 ^ 80) (data % 2 ^ 80) = true ∧ d.hbmUp = true ∧ d.net.slots = [] ∧ d.net.waiting = [] ∧ 1 ≤ d.get E.SourceSlotLimit) ∧
    (∃ (s : State) (x : Nat) (data : Nat) (r : Requester) (d : Dev), s.Runs ∧ d = s.seen x ∧ d.net.updates = [] ∧ d.acceptsDom r E.DeepDelete (toBE 21 data) ∧ data < 2 ^ 168 ∧ deepKeyOk data = true ∧ d.hbmUp = true ∧ d.net.slots = [] ∧ d.net.waiting = [] ∧ 1 ≤ d.get E.SourceSlotLimit) ∧
    (∃ (s : State) (x : Nat) (data : Nat) (r : Requester) (d : Dev) (e : _), s.Runs ∧ d = s.seen x ∧ d.net.updates = [] ∧ d.acceptsDom r E.DeepQueryKey (toBE 21 data) ∧ data < 2 ^ 168 ∧ d.finds r (getOp E.DeepQueryResult) (.entry e) = true ∧ e.acc = .ro ∧ deepKeyOk data = true ∧ d.hbmUp = true ∧ d.net.slots = [] ∧ d.net.waiting = [] ∧ 1 ≤ d.get E.SourceSlotLimit) ∧
    (∃ (s : State) (x : Nat) (data : Nat) (r : Requester) (d : Dev) (e : Nat → EntrySpec), s.Runs ∧ d = s.seen x ∧ d.net.updates = [] ∧ d.acceptsDom r E.L2QueryKey (toBE 8 data) ∧ (List.range 8).all (fun i => d.finds r (getOp (E.L2QueryResult i)) (.entry (e i)) && (e i).acc == .ro && (e i).ty.bytes == 0) = true) ∧
    (∃ (s : State) (x : Nat) (data : Nat) (r : Requester) (d : Dev) (e : _), s.Runs ∧ d = s.seen x ∧ d.net.updates = [] ∧ d.acceptsDom r E.EmQueryKey (toBE 20 data) ∧ d.finds r (getOp E.EmQueryResult) (.entry e) = true ∧ e.acc ≠ .wo ∧ e.acc ≠ .rwt ∧ e.ty.bytes = 0) :=
  ⟨⟨s18, 5, (2 ^ 111 + 2 ^ 104 + l2Row true false false 5 7 3 - 2 ^ 85), m0, s18.seen 5, rfl, rfl, by decide +kernel, takesB_sound (by decide +kernel), by decide +kernel⟩,
   ⟨s18, 5, (0x81 * 2 ^ 64 + 4095 * 2 ^ 48 + 7), m0, s18.seen 5, rfl, rfl, by decide +kernel, takesB_sound (by decide +kernel), by decide +kernel⟩,
   ⟨s18, 5, ((2 ^ 156 + 7) * 2 ^ 80), m0, s18.seen 5, ([.put ((emCands (2 ^ 156 + 7)).headD 0) (2 ^ 255 + (2 ^ 156 + 7) * 2 ^ 80)] : List EmStep), rfl, rfl, by decide +kernel, takesB_sound (by decide +kernel), by decide +kernel⟩,
   ⟨s275, 5, (2 ^ 156 + 7), m0, s275.seen 5, (emCands (2 ^ 156 + 7)).headD 0, rfl, rfl, by decide +kernel, takesB_sound (by decide +kernel), by decide +kernel⟩,
   ⟨s40, 5, ((2 ^ 156 + 7) * 2 ^ 80), m0, s40.seen 5, rfl, rfl, by decide +kernel, takesB_sound (by decide +kernel), by decide +kernel⟩,
   ⟨s40, 5, (2 ^ 156 + 7), m0, s40.seen 5, rfl, rfl, by decide +kernel, takesB_sound (by decide +kernel), by decide +kernel⟩,
   ⟨s40, 5, (2 ^ 156 + 7), m0, s40.seen 5, sp (E.DeepQueryResult / 256) (E.DeepQueryResult % 256), rfl, rfl, by decide +kernel, takesB_sound (by decide +kernel), by decide +kernel⟩,
   ⟨s18, 5, 7, m0, s18.seen 5, (fun i => sp (E.L2QueryResult i / 256) (E.L2QueryResult i % 256)), rfl, rfl, by decide +kernel, takesB_sound (by decide +kernel), by decide +kernel⟩,
   ⟨s18, 5, (2 ^ 156 + 7), m0, s18.seen 5, sp (E.EmQueryResult / 256) (E.EmQueryResult % 256), rfl, rfl, by decide +kernel, takesB_sound (by decide +kernel), by decide +kernel⟩⟩

theorem witness_PaddockOperations :
    (∃ (s : State) (x : Nat) (n : Nat) (d : Dev) (k : _) (key : _), s.Runs ∧ d = s.seen x ∧ n < 4096 ∧ (d.slot n).kind = 1 ∧ d.mayEnd n = true ∧ (d.slot n).keys = [(k, key)]) ∧
    (∃ (s : State) (x : Nat) (n : Nat) (d : Dev) (k : _) (key : _), s.Runs ∧ d = s.seen x ∧ n < 4096 ∧ (d.slot n).kind = 1 ∧ d.mayEnd n = true ∧ (d.slot n).keys = [(k, key)]) ∧
    (∃ (s : State) (x : Nat) (n : Nat) (d : Dev) (q : LearnReq) (e : _), s.Runs ∧ d = s.seen x ∧ n < 4096 ∧ (d.slot n).kind = 2 ∧ d.mayEnd n = true ∧ (d.slot n).learn = some q ∧ (d.deepFind (deepL2Key (d.slot n).pl q.fid q.mac)).1 = some e ∧ fld (d.net.deep.getD e 0) 79 64 = q.dest) ∧
    (∃ (s : State) (x : Nat) (n : Nat) (d : Dev), s.Runs ∧ d = s.seen x ∧ n < 4096 ∧ (d.slot n).kind = 5 ∧ d.mayEnd n = true) ∧
    (∃ (s : State) (x : Nat) (n : Nat) (d : Dev), s.Runs ∧ d = s.seen x ∧ n < 4096 ∧ (d.slot n).kind = 4 ∧ d.mayEnd n = true ∧ (d.slot n).data < 2 ^ 256 ∧ (d.deepFind ((d.slot n).data / 2 ^ 80)).1 = none ∧ (d.deepInsert ((d.slot n).data / 2 ^ 80) ((d.slot n).data % 2 ^ 80)).1 = true) ∧
    (∃ (s : State) (x : Nat) (n : Nat) (d : Dev), s.Runs ∧ d = s.seen x ∧ n < 4096 ∧ ((d.slot n).kind = 4 ∨ (d.slot n).kind = 5) ∧ d.mayEnd n = true) ∧
    (∃ (s : State) (x : Nat) (n : Nat) (d : Dev), s.Runs ∧ d = s.seen x ∧ n < 4096 ∧ ((d.slot n).kind = 4 ∨ (d.slot n).kind = 5) ∧ d.mayEnd n = true) :=
  ⟨⟨s276, 5, 4095, s276.seen 5, 1, (2 ^ 156 + 7), rfl, rfl, by decide +kernel⟩,
   ⟨s277, 5, 4095, s277.seen 5, 1, (2 ^ 156 + 7), rfl, rfl, by decide +kernel⟩,
   ⟨s278, 5, 4095, s278.seen 5, ({ fid := 5, mac := 7, dest := 9, old := none, port := 95, tc := 0 } : LearnReq), (bucketSlots (deepPrimary (deepL2Key 0 5 7))).headD 0, rfl, rfl, by decide +kernel⟩,
   ⟨s279, 5, 4095, s279.seen 5, rfl, rfl, by decide +kernel⟩,
   ⟨s280, 5, 4095, s280.seen 5, rfl, rfl, by decide +kernel⟩,
   ⟨s280, 5, 4095, s280.seen 5, rfl, rfl, by decide +kernel⟩,
   ⟨s279, 5, 4095, s279.seen 5, rfl, rfl, by decide +kernel⟩⟩

theorem witness_PaddockOperations_2 :
    (∃ (s : State) (x : Nat) (n : Nat) (d : Dev) (w : WaitOp), s.Runs ∧ d = s.seen x ∧ n < 4096 ∧ d.net.waiting = [w] ∧ 3 < w.kind ∧ d.net.slots = [] ∧ 1 ≤ d.get E.SourceSlotLimit) ∧
    (∃ (s : State) (x : Nat) (n : Nat) (d : Dev) (w : WaitOp), s.Runs ∧ d = s.seen x ∧ n < 4096 ∧ d.net.waiting = [w] ∧ 3 < w.kind ∧ d.net.slots = [] ∧ 1 ≤ d.get E.SourceSlotLimit) ∧
    (∃ (s : State) (x : Nat) (n : Nat) (d : Dev) (w : WaitOp), s.Runs ∧ d = s.seen x ∧ n < 4096 ∧ d.net.waiting = [w] ∧ w.ticket = none ∧ w.x + 8000 * d.get E.OpTimeoutUs ≤ d.now) ∧
    (∃ (s : State) (x : Nat) (n : Nat) (d : Dev), s.Runs ∧ d = s.seen x ∧ n < 4096 ∧ (d.slot n).state = 1 ∧ (d.slot n).x + (d.slot n).limit < d.now ∧ d.net.timedOut = false) ∧
    (∃ (s : State) (x : Nat) (n : Nat) (d : Dev) (u : Slot), s.Runs ∧ d = s.seen x ∧ n < 4096 ∧ d.net.slots = [(n, u)] ∧ u.state = 2 ∧ u.frame = none ∧ u.ticket = none) ∧
    (∃ (s : State) (x : Nat) (n : Nat) (r : Requester) (d : Dev) (data : _), s.Runs ∧ d = s.seen x ∧ n < 4096 ∧ d.acceptsDom r E.PaddockComplete (toBE 8 data) ∧ data < 2 ^ 64 ∧ fld data 63 52 = n ∧ (d.slot n).gen = fld data 51 48 ∧ (d.slot n).kind = 3 ∧ (d.slot n).state = 1 ∧ d.overdue n = false ∧ fld data 47 40 = 0 ∧ fld data 38 36 = 0 ∧ fld data 15 12 = 0) ∧
    (∃ (s : State) (x : Nat) (n : Nat) (r : Requester) (d : Dev) (data : _), s.Runs ∧ d = s.seen x ∧ n < 4096 ∧ d.acceptsDom r E.PaddockComplete (toBE 8 data) ∧ data < 2 ^ 64 ∧ fld data 63 52 = n ∧ (d.slot n).gen ≠ fld data 51 48) :=
  ⟨⟨s281, 5, 4095, s281.seen 5, ({ kind := 5, who := m0, data := 7, x := 0, ticket := none } : WaitOp), rfl, rfl, by decide +kernel⟩,
   ⟨s282, 5, 4095, s282.seen 5, ({ kind := 5, who := m0, data := 7, x := 0, ticket := none } : WaitOp), rfl, rfl, by decide +kernel⟩,
   ⟨s283, 8000 * 100, 4095, s283.seen (8000 * 100), ({ kind := 5, who := m0, data := 7, x := 0, ticket := none } : WaitOp), rfl, rfl, by decide +kernel⟩,
   ⟨s284, 5, 4095, s284.seen 5, rfl, rfl, by decide +kernel⟩,
   ⟨s285, 5, 4095, s285.seen 5, ({ state := 2, gen := 15, kind := 5 } : Slot), rfl, rfl, by decide +kernel⟩,
   ⟨s286, 5, 4095, m0, s286.seen 5, (4095 * 2 ^ 52 + 5 * 2 ^ 48), rfl, rfl, by decide +kernel, takesB_sound (by decide +kernel), by decide +kernel⟩,
   ⟨s287, 5, 4095, m0, s287.seen 5, (4095 * 2 ^ 52 + 5 * 2 ^ 48), rfl, rfl, by decide +kernel, takesB_sound (by decide +kernel), by decide +kernel⟩⟩

theorem witness_HbmTraining :
    (∃ (s : State) (x : Nat) (d : Dev), s.Runs ∧ d = s.seen x ∧ d.hbmUp = false ∧ d.get E.HbmState = 1 ∧ d.hbm.session = none ∧ d.repairPending = []) ∧
    (∃ (s : State) (x : Nat) (d : Dev), s.Runs ∧ d = s.seen x ∧ d.hbmUp = false ∧ d.get E.HbmState = 1 ∧ d.hbm.session = none ∧ d.repairPending = []) ∧
    (∃ (s : State) (x : Nat) (d : Dev), s.Runs ∧ d = s.seen x ∧ d.hbmUp = false ∧ d.get E.HbmState = 1 ∧ d.hbm.session = none ∧ d.repairPending = []) ∧
    (∃ (s : State) (x : Nat) (d : Dev) (x0 : _) (pc : _), s.Runs ∧ d = s.seen x ∧ d.hbmUp = false ∧ d.hbm.session = some x0 ∧ x0 + 8000000000 ≤ d.now ∧ (List.range 64).find? (fun k => Row.HbmTraining.valid (d.row T.HbmTraining k) == 0) = some pc) ∧
    (∃ (s : State) (x : Nat) (d : Dev) (x0 : _), s.Runs ∧ d = s.seen x ∧ d.hbmUp = false ∧ d.hbm.session = some x0 ∧ x0 + 8000000000 ≤ d.now ∧ (List.range 64).find? (fun k => Row.HbmTraining.valid (d.row T.HbmTraining k) == 0) = none) ∧
    (∃ (s : State) (x : Nat) (r : Requester) (cmd : BitVec 192) (d : Dev) (n : _), s.Runs ∧ d = s.seen x ∧ d.hbmUp = false ∧ n = setFld cmd.toNat 191 184 1 ∧ d.acceptsDom r E.HbmTrainCommand (trainBytes 1 cmd) ∧ trainCommandOk 1 n = true ∧ d.get E.HbmState = 0) ∧
    (∃ (s : State) (x : Nat) (r : Requester) (cmd : BitVec 192) (d : Dev) (n : _), s.Runs ∧ d = s.seen x ∧ d.hbmUp = false ∧ n = setFld cmd.toNat 191 184 2 ∧ d.acceptsDom r E.HbmTrainCommand (trainBytes 2 cmd) ∧ trainCommandOk 2 n = true ∧ d.get E.HbmState = 0) ∧
    (∃ (s : State) (x : Nat) (r : Requester) (cmd : BitVec 192) (d : Dev) (n : _), s.Runs ∧ d = s.seen x ∧ d.hbmUp = false ∧ n = setFld cmd.toNat 191 184 3 ∧ d.acceptsDom r E.HbmTrainCommand (trainBytes 3 cmd) ∧ trainCommandOk 3 n = true ∧ d.get E.HbmState = 0) ∧
    (∃ (s : State) (x : Nat) (r : Requester) (cmd : BitVec 192) (d : Dev) (n : _), s.Runs ∧ d = s.seen x ∧ d.hbmUp = false ∧ n = setFld cmd.toNat 191 184 4 ∧ d.acceptsDom r E.HbmTrainCommand (trainBytes 4 cmd) ∧ trainCommandOk 4 n = true ∧ d.get E.HbmState = 0) ∧
    (∃ (s : State) (x : Nat) (r : Requester) (cmd : BitVec 192) (d : Dev) (n : _) (pc : _), s.Runs ∧ d = s.seen x ∧ d.hbmUp = false ∧ n = setFld cmd.toNat 191 184 5 ∧ d.acceptsDom r E.HbmTrainCommand (trainBytes 5 cmd) ∧ trainCommandOk 5 n = true ∧ d.get E.HbmState = 0 ∧ (List.range 64).find? (fun k => Row.HbmTraining.valid (d.row T.HbmTraining k) == 0) = some pc) :=
  ⟨⟨s288, 5, s288.seen 5, rfl, rfl, by decide +kernel⟩,
   ⟨s289, 5, s289.seen 5, rfl, rfl, by decide +kernel⟩,
   ⟨s41, 5, s41.seen 5, rfl, rfl, by decide +kernel⟩,
   ⟨s290, 8000000000, s290.seen 8000000000, 0, 0, rfl, rfl, by decide +kernel⟩,
   ⟨s291, 8000000000, s291.seen 8000000000, 0, rfl, rfl, by decide +kernel⟩,
   ⟨s18, 5, m0, (BitVec.ofNat 192 (63 * 2 ^ 176 + 5 * 2 ^ 168 + 0 * 2 ^ 96 + 0 * 2 ^ 64 + (2 ^ 56 - 1))), s18.seen 5, setFld (BitVec.ofNat 192 (63 * 2 ^ 176 + 5 * 2 ^ 168 + 0 * 2 ^ 96 + 0 * 2 ^ 64 + (2 ^ 56 - 1))).toNat 191 184 1, rfl, rfl, by decide +kernel, by decide +kernel, takesB_sound (by decide +kernel), by decide +kernel⟩,
   ⟨s18, 5, m0, (BitVec.ofNat 192 (63 * 2 ^ 176 + 5 * 2 ^ 168 + 2097151 * 2 ^ 96 + 1 * 2 ^ 64 + 0)), s18.seen 5, setFld (BitVec.ofNat 192 (63 * 2 ^ 176 + 5 * 2 ^ 168 + 2097151 * 2 ^ 96 + 1 * 2 ^ 64 + 0)).toNat 191 184 2, rfl, rfl, by decide +kernel, by decide +kernel, takesB_sound (by decide +kernel), by decide +kernel⟩,
   ⟨s18, 5, m0, (BitVec.ofNat 192 (63 * 2 ^ 176 + 5 * 2 ^ 168 + 2097151 * 2 ^ 96 + 1 * 2 ^ 64 + 0)), s18.seen 5, setFld (BitVec.ofNat 192 (63 * 2 ^ 176 + 5 * 2 ^ 168 + 2097151 * 2 ^ 96 + 1 * 2 ^ 64 + 0)).toNat 191 184 3, rfl, rfl, by decide +kernel, by decide +kernel, takesB_sound (by decide +kernel), by decide +kernel⟩,
   ⟨s18, 5, m0, (BitVec.ofNat 192 (63 * 2 ^ 176 + 5 * 2 ^ 168 + 0 * 2 ^ 96 + 2097152 * 2 ^ 64 + 0)), s18.seen 5, setFld (BitVec.ofNat 192 (63 * 2 ^ 176 + 5 * 2 ^ 168 + 0 * 2 ^ 96 + 2097152 * 2 ^ 64 + 0)).toNat 191 184 4, rfl, rfl, by decide +kernel, by decide +kernel, takesB_sound (by decide +kernel), by decide +kernel⟩,
   ⟨s18, 5, m0, (BitVec.ofNat 192 (63 * 2 ^ 176 + 5 * 2 ^ 168 + 0 * 2 ^ 96 + 0 * 2 ^ 64 + 0)), s18.seen 5, setFld (BitVec.ofNat 192 (63 * 2 ^ 176 + 5 * 2 ^ 168 + 0 * 2 ^ 96 + 0 * 2 ^ 64 + 0)).toNat 191 184 5, 0, rfl, rfl, by decide +kernel, by decide +kernel, takesB_sound (by decide +kernel), by decide +kernel⟩⟩

theorem witness_HbmInService :
    (∃ (s : State) (x : Nat) (pc : Nat) (d : Dev) (rd : _) (wr : _) (q : _), s.Runs ∧ d = s.seen x ∧ pc < 64 ∧ d.hbmUp = true ∧ 16 ≤ rd ∧ 16 ≤ wr ∧ q = setFld (setFld (d.row T.HbmTraining pc) 87 80 rd) 79 72 wr) ∧
    (∃ (s : State) (x : Nat) (pc : Nat) (d : Dev), s.Runs ∧ d = s.seen x ∧ pc < 64 ∧ d.hbmUp = true) ∧
    (∃ (s : State) (x : Nat) (pc : Nat) (d : Dev), s.Runs ∧ d = s.seen x ∧ pc < 64 ∧ d.hbmUp = true ∧ d.hbm.asleep.contains pc = false ∧ d.get E.HbmRefreshMode = 1) ∧
    (∃ (s : State) (x : Nat) (pc : Nat) (d : Dev) (bank : _), s.Runs ∧ d = s.seen x ∧ pc < 64 ∧ d.hbmUp = true ∧ d.hbm.asleep.contains pc = false ∧ d.get E.HbmRefreshMode = 1 ∧ d.hbm.postponed.getD (pc * 32 + bank) 0 < d.get E.HbmRefreshPostponeMax) ∧
    (∃ (s : State) (x : Nat) (pc : Nat) (d : Dev), s.Runs ∧ d = s.seen x ∧ pc < 64 ∧ d.hbmUp = true ∧ d.get E.HbmIdleSelfRefreshUs ≠ 0) ∧
    (∃ (s : State) (x : Nat) (pc : Nat) (d : Dev), s.Runs ∧ d = s.seen x ∧ pc < 64 ∧ d.hbmUp = true ∧ d.get E.HbmIdleSelfRefreshUs = 0) ∧
    (∃ (s : State) (x : Nat) (pc : Nat) (d : Dev), s.Runs ∧ d = s.seen x ∧ pc < 64 ∧ d.hbmUp = true) :=
  ⟨⟨s40, 5, 63, s40.seen 5, 16, 255, setFld (setFld (((s40).seen 5).row T.HbmTraining 63) 87 80 16) 79 72 255, rfl, rfl, by decide +kernel⟩,
   ⟨s40, 5, 63, s40.seen 5, rfl, rfl, by decide +kernel⟩,
   ⟨s292, 5, 63, s292.seen 5, rfl, rfl, by decide +kernel⟩,
   ⟨s293, 5, 63, s293.seen 5, 31, rfl, rfl, by decide +kernel⟩,
   ⟨s294, 5, 63, s294.seen 5, rfl, rfl, by decide +kernel⟩,
   ⟨s295, 5, 63, s295.seen 5, rfl, rfl, by decide +kernel⟩,
   ⟨s296, 5, 63, s296.seen 5, rfl, rfl, by decide +kernel⟩⟩

theorem witness_HbmInService_2 :
    (∃ (s : State) (x : Nat) (pc : Nat) (d : Dev), s.Runs ∧ d = s.seen x ∧ pc < 64 ∧ d.hbmUp = true ∧ d.get E.ThrottleLevel = 0) ∧
    (∃ (s : State) (x : Nat) (pc : Nat) (d : Dev), s.Runs ∧ d = s.seen x ∧ pc < 64 ∧ d.hbmUp = true ∧ d.get E.ThrottleLevel = 0) ∧
    (∃ (s : State) (x : Nat) (pc : Nat) (d : Dev) (a : _), s.Runs ∧ d = s.seen x ∧ pc < 64 ∧ d.hbmUp = true ∧ d.get E.ThrottleLevel = 0 ∧ hbmRegion a = 3 ∧ bufferAt a = none) ∧
    (∃ (s : State) (x : Nat) (pc : Nat) (d : Dev) (bank : _) (row : _) (k : _), s.Runs ∧ d = s.seen x ∧ pc < 64 ∧ d.hbmUp = true ∧ bank < 32 ∧ row < 2 ^ 14 ∧ k = (pc * 32 + bank) * 2 ^ 14 + row ∧ d.get E.RowRepairThreshold ≤ d.hbm.errs.getD k 0 ∧ d.hbm.soft.contains k = false) ∧
    (∃ (s : State) (x : Nat) (pc : Nat) (d : Dev), s.Runs ∧ d = s.seen x ∧ pc < 64 ∧ d.hbmUp = true ∧ d.get E.BufferCellsReplaced < 1024) ∧
    (∃ (s : State) (x : Nat) (pc : Nat) (d : Dev) (lane : _), s.Runs ∧ d = s.seen x ∧ pc < 64 ∧ d.hbmUp = true ∧ lane < 96) :=
  ⟨⟨s40, 5, 63, s40.seen 5, rfl, rfl, by decide +kernel⟩,
   ⟨s297, 5, 63, s297.seen 5, rfl, rfl, by decide +kernel⟩,
   ⟨s40, 5, 63, s40.seen 5, 0xB8000000, rfl, rfl, by decide +kernel⟩,
   ⟨s298, 5, 63, s298.seen 5, 31, 16383, (63 * 32 + 31) * 2 ^ 14 + 16383, rfl, rfl, by decide +kernel⟩,
   ⟨s299, 5, 63, s299.seen 5, rfl, rfl, by decide +kernel⟩,
   ⟨s40, 5, 63, s40.seen 5, 95, rfl, rfl, by decide +kernel⟩⟩

theorem witness_PoolCommands :
    (∃ (s : State) (x : Nat) (h : Nat) (r : Requester) (d : Dev) (size : _) (p : _) (b : _), s.Runs ∧ d = s.seen x ∧ r.master < 64 ∧ h < 2 ^ 32 ∧ d.hbmUp = true ∧ d.acceptsDom r E.PoolCommand (poolBytes 1 0 size 0) ∧ 1 ≤ size ∧ size ≤ 65536 ∧ allocPools size false = [p] ∧ d.freeBuf p = some b ∧ d.holding r.master p < d.quota r.master p) ∧
    (∃ (s : State) (x : Nat) (h : Nat) (r : Requester) (d : Dev) (size : _) (p : _) (b : _), s.Runs ∧ d = s.seen x ∧ r.master < 64 ∧ h < 2 ^ 32 ∧ d.hbmUp = true ∧ d.acceptsDom r E.PoolCommand (poolBytes 1 0 size 0) ∧ 1 ≤ size ∧ size ≤ 65536 ∧ allocPools size false = [p] ∧ d.freeBuf p = some b ∧ d.holding r.master p < d.quota r.master p) ∧
    (∃ (s : State) (x : Nat) (h : Nat) (r : Requester) (d : Dev) (size : _) (p : _), s.Runs ∧ d = s.seen x ∧ r.master < 64 ∧ h < 2 ^ 32 ∧ d.hbmUp = true ∧ d.acceptsDom r E.PoolCommand (poolBytes 1 0 size 0) ∧ 1 ≤ size ∧ size ≤ 65536 ∧ allocPools size false = [p] ∧ d.freeBuf p = none) ∧
    (∃ (s : State) (x : Nat) (h : Nat) (r : Requester) (d : Dev) (b : _) (v : PoolBuf), s.Runs ∧ d = s.seen x ∧ r.master < 64 ∧ h < 2 ^ 32 ∧ d.hbmUp = true ∧ d.acceptsDom r E.PoolCommand (poolBytes 2 0 h 0) ∧ d.named h true = (0, some (b, v)) ∧ bit v.owners r.master = true ∧ v.last = r.master ∧ v.shared = false) ∧
    (∃ (s : State) (x : Nat) (h : Nat) (r : Requester) (d : Dev) (b : _) (v : PoolBuf) (owners : _), s.Runs ∧ d = s.seen x ∧ r.master < 64 ∧ h < 2 ^ 32 ∧ d.hbmUp = true ∧ d.acceptsDom r E.PoolCommand (poolBytes 3 0 h owners) ∧ owners < 2 ^ 64 ∧ d.named h false = (0, some (b, v)) ∧ bit v.owners r.master = true ∧ v.last = r.master ∧ ((ownersOf owners).any fun k => !listedMasters.contains k) = false ∧ bit owners r.master = true ∧ (d.hbm.bufs.filter fun e => e.1 != b && e.2.shared).length < 16384) ∧
    (∃ (s : State) (x : Nat) (h : Nat) (r : Requester) (d : Dev) (b : _) (v : PoolBuf), s.Runs ∧ d = s.seen x ∧ r.master < 64 ∧ h < 2 ^ 32 ∧ d.hbmUp = true ∧ d.acceptsDom r E.PoolCommand (poolBytes 4 0 h 0) ∧ d.named h false = (0, some (b, v)) ∧ bit v.owners r.master = true ∧ v.last ≠ r.master) ∧
    (∃ (s : State) (x : Nat) (h : Nat) (r : Requester) (d : Dev) (b : _) (v : PoolBuf), s.Runs ∧ d = s.seen x ∧ r.master < 64 ∧ h < 2 ^ 32 ∧ d.hbmUp = true ∧ d.acceptsDom r E.PoolCommand (poolBytes 5 0 h 0) ∧ d.named h false = (0, some (b, v))) ∧
    (∃ (s : State) (x : Nat) (h : Nat) (r : Requester) (d : Dev) (m : _) (b : _) (v : PoolBuf), s.Runs ∧ d = s.seen x ∧ r.master < 64 ∧ h < 2 ^ 32 ∧ d.hbmUp = true ∧ d.acceptsDom r E.PoolCommand (poolBytes 6 0 0 (m * 2 ^ 56)) ∧ m < 64 ∧ (r.master = 0x10 ∨ (1 ≤ r.master ∧ r.master ≤ 4)) ∧ d.hbm.bufs = [(b, v)] ∧ bit v.owners m = true ∧ ownersOf (setBit v.owners m false) = []) :=
  ⟨⟨s300, 5, 0, m0, s300.seen 5, 65536, 3, 3 * 2 ^ 20, rfl, rfl, by decide +kernel, by decide +kernel, by decide +kernel, takesB_sound (by decide +kernel), by decide +kernel⟩,
   ⟨s301, 5, 0, m0, s301.seen 5, 1, 0, 1, rfl, rfl, by decide +kernel, by decide +kernel, by decide +kernel, takesB_sound (by decide +kernel), by decide +kernel⟩,
   ⟨s302, 5, 0, m0, s302.seen 5, 65536, 3, rfl, rfl, by decide +kernel, by decide +kernel, by decide +kernel, takesB_sound (by decide +kernel), by decide +kernel⟩,
   ⟨s303, 5, 0, m0, s303.seen 5, 0, ({ owners := 2, last := 1 } : PoolBuf), rfl, rfl, by decide +kernel, by decide +kernel, by decide +kernel, takesB_sound (by decide +kernel), by decide +kernel⟩,
   ⟨s303, 5, 0, m0, s303.seen 5, 0, ({ owners := 2, last := 1 } : PoolBuf), 6, rfl, rfl, by decide +kernel, by decide +kernel, by decide +kernel, takesB_sound (by decide +kernel), by decide +kernel⟩,
   ⟨s304, 5, 0, m0, s304.seen 5, 0, ({ owners := 6, last := 2 } : PoolBuf), rfl, rfl, by decide +kernel, by decide +kernel, by decide +kernel, takesB_sound (by decide +kernel), by decide +kernel⟩,
   ⟨s305, 5, 0, m0, s305.seen 5, 0, ({ owners := 6, last := 2, poisoned := true } : PoolBuf), rfl, rfl, by decide +kernel, by decide +kernel, by decide +kernel, takesB_sound (by decide +kernel), by decide +kernel⟩,
   ⟨s306, 5, 0, m0, s306.seen 5, 63, 5, ({ owners := 2 ^ 63, last := 63 } : PoolBuf), rfl, rfl, by decide +kernel, by decide +kernel, by decide +kernel, takesB_sound (by decide +kernel), by decide +kernel⟩⟩

theorem witness_DictionaryActionsFrame :
    (∃ (s : State) (x : Nat) (i : Nat) (v : Nat) (r : Requester) (d : Dev) (c : _) (k : _), s.Runs ∧ d = s.seen x ∧ i < 2 ∧ (c, k) ∈ [(Instr.setTime x r i v, E.SetTime i), (.reacquire x r i v, E.Reacquire i), (.outputDomainWrite x r v, E.OutputDomain)] ∧ d.accepts r k v) ∧
    (∃ (s : State) (x : Nat) (i : Nat) (v : Nat) (r : Requester) (d : Dev) (c : _) (k : _), s.Runs ∧ d = s.seen x ∧ i < 2 ∧ (c, k) ∈ [(Instr.setTime x r i v, E.SetTime i), (.reacquire x r i v, E.Reacquire i), (.outputDomainWrite x r v, E.OutputDomain)] ∧ d.accepts r k v) ∧
    (∃ (s : State) (x : Nat) (i : Nat) (v : Nat) (r : Requester) (d : Dev) (c : _) (k : _), s.Runs ∧ d = s.seen x ∧ i < 2 ∧ (c, k) ∈ [(Instr.setTime x r i v, E.SetTime i), (.reacquire x r i v, E.Reacquire i), (.outputDomainWrite x r v, E.OutputDomain)] ∧ d.accepts r k v) ∧
    (∃ (s : State) (x : Nat) (i : Nat) (r : Requester) (d : Dev) (c : _) (b : _) (size : _) (h : _) (o : _), s.Runs ∧ d = s.seen x ∧ i < 2 ∧ (c, b) ∈ [(Instr.alloc x r 0 size, poolBytes 1 0 size 0), (.free x r h, poolBytes 2 0 h 0), (.share x r h o, poolBytes 3 0 h o), (.release x r h, poolBytes 4 0 h 0), (.query x r h, poolBytes 5 0 h 0)] ∧ d.acceptsDom r E.PoolCommand b) ∧
    (∃ (s : State) (x : Nat) (i : Nat) (r : Requester) (d : Dev) (c : _) (b : _) (size : _) (h : _) (o : _), s.Runs ∧ d = s.seen x ∧ i < 2 ∧ (c, b) ∈ [(Instr.alloc x r 0 size, poolBytes 1 0 size 0), (.free x r h, poolBytes 2 0 h 0), (.share x r h o, poolBytes 3 0 h o), (.release x r h, poolBytes 4 0 h 0), (.query x r h, poolBytes 5 0 h 0)] ∧ d.acceptsDom r E.PoolCommand b) ∧
    (∃ (s : State) (x : Nat) (i : Nat) (v : Nat) (r : Requester) (d : Dev), s.Runs ∧ d = s.seen x ∧ i < 2 ∧ d.accepts r E.TakeoverArm v) ∧
    (∃ (s : State) (x : Nat) (i : Nat) (v : Nat) (r : Requester) (d : Dev), s.Runs ∧ d = s.seen x ∧ i < 2 ∧ d.accepts r E.TakeoverArm v) :=
  ⟨⟨s18, 5, 1, 5, m0, s18.seen 5, Instr.setTime 5 m0 1 5, E.SetTime 1, rfl, rfl, by decide +kernel, by decide +kernel, takesB_sound (by decide +kernel)⟩,
   ⟨s18, 5, 1, 1, m0, s18.seen 5, Instr.reacquire 5 m0 1 1, E.Reacquire 1, rfl, rfl, by decide +kernel, by decide +kernel, takesB_sound (by decide +kernel)⟩,
   ⟨s18, 5, 1, 1, m0, s18.seen 5, Instr.outputDomainWrite 5 m0 1, E.OutputDomain, rfl, rfl, by decide +kernel, by decide +kernel, takesB_sound (by decide +kernel)⟩,
   ⟨s18, 5, 1, m0, s18.seen 5, Instr.alloc 5 m0 0 65536, poolBytes 1 0 65536 0, 65536, 0, 0, rfl, rfl, by decide +kernel, by decide +kernel, takesB_sound (by decide +kernel)⟩,
   ⟨s18, 5, 1, m0, s18.seen 5, Instr.share 5 m0 5 (2 ^ 63), poolBytes 3 0 5 (2 ^ 63), 0, 5, 2 ^ 63, rfl, rfl, by decide +kernel, by decide +kernel, takesB_sound (by decide +kernel)⟩,
   ⟨s18, 5, 1, 1, m0, s18.seen 5, rfl, rfl, by decide +kernel, takesB_sound (by decide +kernel)⟩,
   ⟨s252, 5, 1, 0, m0, s252.seen 5, rfl, rfl, by decide +kernel, takesB_sound (by decide +kernel)⟩⟩

/-! ### Statements about any command -/

theorem witness_StepRunsTheFrontCommand : ∃ s : State, s.pending = [] := ⟨.reset, rfl⟩

theorem witness_EveryRunIsSafe : ∃ (k : Nat) (s t : State), s.pending ≠ [] ∧ runsTo k s = some t :=
  ⟨1, { base with pending := [.signalDetect 5 0] }, _, by decide, rfl⟩

theorem witness_TimeNeverGoesBack :
    (∃ (c : Instr) (s t : State), (∀ x, c ≠ .railLoss x true) ∧ exec c s = .next t) ∧
    (∃ (x p : Nat) (s t : State), exec (.signalDetect x p) s = .next t) ∧
    (∃ (k : Nat) (s t : State), (∀ c ∈ s.pending, ∀ x, c ≠ .railLoss x true) ∧ runsTo k s = some t) :=
  ⟨⟨.railLoss 5 false, base, _, by simp, rfl⟩, ⟨5, 0, base, _, rfl⟩, ⟨1, { base with pending := [.signalDetect 5 0] }, _, by simp, rfl⟩⟩

theorem witness_DarkBlockOnlyPassesTime : ∃ (c : Instr) (s : State), ¬ s.Runs ∧ c.alwaysOn = false :=
  ⟨.signalDetect 5 0, wk fun d => { d with power := { d.power with phase := .stabled } }, by show ¬ (_ = true); decide, rfl⟩

theorem witness_EveryStepKeepsTapWidths : ∃ s t : State, s.dev.tap.InWidth ∧ step s = .next t :=
  ⟨{ base with pending := [.tapClock true true true true 0] }, _, by refine ⟨?_, ?_, ?_, ?_⟩ <;> decide +kernel, rfl⟩

theorem witness_EveryStepKeepsCanonicalForms :
    ∃ s t : State, step s = .next t ∧ Memory.wf s.dev.hbm.mem = true ∧ FMap.wf s.dev.commit.stage.scal = true ∧
      ∀ b ∈ s.dev.commit.batches, FMap.wf b.st.scal = true :=
  ⟨{ wk (fun d => { d with hbm := { d.hbm with mem := [(5, 1), (6, 2)] }, commit := { d.commit with stage := { scal := [(E.TickPhase, 7)], rows := [] } } }) with
      pending := [.signalDetect 5 0] }, _, rfl, rfl, rfl, fun _ h => nomatch h⟩

theorem witness_PacketPathFrame : ∃ (c : Instr) (s t : State), c.onPackets = true ∧ exec c s = .next t :=
  ⟨.cellRelease 5 1, base, _, rfl, rfl⟩

theorem witness_PortTimeYardAndPairFrame :
    (∃ (c : Instr) (s t : State), exec c s = .next t ∧ c.onPorts = true) ∧
    (∃ (c : Instr) (s t : State), exec c s = .next t ∧ c.onClocks = true) ∧
    (∃ (c : Instr) (s t : State), exec c s = .next t ∧ c.onYard = true) ∧
    (∃ (c : Instr) (s t : State), exec c s = .next t ∧ c.onPair = true) :=
  ⟨⟨.signalDetect 5 0, base, _, rfl, rfl⟩, ⟨.pllRefLoss 5, base, _, rfl, rfl⟩, ⟨.pulseEnd 5 55, base, _, rfl, rfl⟩, ⟨.ownGntLow 5, base, _, rfl, rfl⟩⟩

theorem witness_HostFirmwareAndAccessFrame :
    (∃ (c : Instr) (s t : State), exec c s = .next t ∧ c.onHost = true) ∧
    (∃ (c : Instr) (s t : State), exec c s = .next t ∧ c.onResets = true) ∧
    (∃ (c : Instr) (s t : State), exec c s = .next t ∧ c.onFirmware = true) ∧
    (∃ (c : Instr) (s t : State), exec c s = .next t ∧ c.onAccess = true) :=
  ⟨⟨.capRearm 5 16, base, _, rfl, rfl⟩, ⟨.flr 5, base, _, rfl, rfl⟩, ⟨.swapExecute 5, base, _, rfl, rfl⟩, ⟨.windowDone 5, base, _, rfl, rfl⟩⟩

theorem witness_HbmPaddockAndTelemetryFrame :
    (∃ (c : Instr) (s t : State), exec c s = .next t ∧ c.onHbm = true ∧ (∀ a b e f g, c ≠ .hbmTrainingDone a b e f g) ∧
      (∀ a, c ≠ .hbmTrainSessionTimeout a) ∧ (∀ a b e, c ≠ .bar2Write a b e)) ∧
    (∃ (c : Instr) (s t : State), exec c s = .next t ∧ c.onPaddock = true) ∧
    (∃ (c : Instr) (s t : State), exec c s = .next t ∧ c.onTelemetry = true) :=
  ⟨⟨.hbmTempRead 5 40 41, base, _, rfl, rfl, by simp, by simp, by simp⟩, ⟨.paddockRelease 5, base, _, rfl, rfl⟩, ⟨.sweepDue 5, base, _, rfl, rfl⟩⟩

/-! ### Well-formedness: an ill-formed command for each check -/

theorem test_ill_formed_commands :
    ([.copyAdmission 5 8, .signalDetect 5 96, .egressSelect 5 101 .clean, .servoTimeout 5 2, .pulseEnd 5 56, .setpointStoreClose 5 8, .tcLoopWord 5 4 0,
      .capRearm 5 256, .echo 5 ⟨256, 0⟩ [], .echo 5 ⟨0x20, 2 ^ 32⟩ [], .echo 5 ⟨1, 7⟩ [], .hbmSelfRefreshEntry 5 64, .hbRegisterRead 5 1 0 3,
      .hbRegisterRead 5 1 (2 ^ 20) 4, .msixMessage 5 38, .frameIngress 5 0 0 (List.replicate 13 0) false false, .injectDescriptor 5 0 0 (some []),
      .cascadeTestDone 5 [2 ^ 32], .rateWord 5 m0 0 (2 ^ 63), .rateWord 5 m0 0 (-2 ^ 63 - 1), .refOffsetMeasurement 5 (2 ^ 31), .setTime 5 m0 0 (2 ^ 96),
      .hbmTrainingDone 5 (List.replicate 64 0) (some 64) false 0, .hbmTrainingDone 5 [] none false 0, .enum 5 ⟨256, 0, 1, 0, 0, [], 0⟩,
      .faultRaise 5 (some ⟨4096, 0, 0, 0⟩), .firmwareLoad 5 none none (some ⟨0, 2, none⟩), .read 5 m0 65536 0, .read 5 m0 0 256, .hbSemAcquire 5 1 64,
      .mbxTx 5 1 16 0, .ringDisable 5 17, .wake 5 6, .pathSilent 5 3, .generatorFire 5 16, .recoveryResetExpiry 5 16384, .staleTicksExpiry 5 512,
      .spillWrite 5 1616, .sessionOpen 5 0 [] true, .thermalSample 5 [], .deepSearchComplete 5 4096 .clean, .hbmRefresh 5 0 32 false,
      .aonComparatorSample 5 4 0] : List Instr).all (fun c => !c.wf) = true := by decide +kernel

/-! ### The spec's worked examples -/

/-- R500's buffer: index 1,234 of pool 2 with GEN 5. -/
theorem test_buffer_handle_and_address :
    (wk fun d => { d with hbm := { d.hbm with gens := [(2 * 2 ^ 20 + 1234, 5)] } }).dev.bufHandle (2 * 2 ^ 20 + 1234) = 0x850004D2 ∧
      bufAddr (2 * 2 ^ 20 + 1234) = 0x70C0D000 := by decide +kernel

/-- R521's window: 6,000 frames of 1,518 bytes in 32 ticks at 100 Gb/s. -/
theorem test_bandwidth_example :
    bwKbps (6000 * 1518) (1000000 * 65536) = 72864000 ∧ bwLoad (6000 * 1518) 6000 (1000000 * 65536) 100000 = 738240 := by decide +kernel

/-- R449's record: 9,046 bytes take five buffers of 2,048. -/
theorem test_punt_record_needs : ({ units := 8 } : Ring).need 9046 = 5 := by decide +kernel

/-- R27's transfers: 64 words each way at 20 ns fit a tick of 31,250 ns on two lines, and do not on one. -/
theorem test_transfer_times :
    ppTransferNs 0xc1020014003e80000000000000000000 = 20640 ∧ ppFits 0xc1020014003e80000000000000000000 31250 = true ∧ ppFits 0xc1020014003e80000000000000000000 21139 = false ∧
      ppTransferNs 0x81020014003e80000000000000000000 = 41120 ∧ ppFits 0x81020014003e80000000000000000000 31250 = false := by decide +kernel

/-- R93's example: the tick of 1,700,000,000 s + 12,345 ns at a TickPeriod of 31,250 ns. -/
theorem test_tick_number : base.dev.tickStart 54400000000000 = 1700000000000000000 := by decide +kernel

end Sys2Proof.Tests
end

section
/-!
PROOF. Writes of the time entries that the block refuses (R82). A WRITE of a scalar entry reads back the value that it was given; steps 1 to 6 of R36 on such a
WRITE come down to the entry's own check; and a WRITE that one of them refuses changes nothing but the block's bookkeeping.
-/
namespace Sys2Proof.Machine

/-! ### The bytes of a number -/

/-- Reading bytes on from a prefix that spells a. -/
theorem foldl_toBE (len n a : Nat) : (toBE len n).foldl (fun a x => a * 256 + x.toNat) a = a * 256 ^ len + n % 256 ^ len := by
  induction len generalizing a with
  | zero => simp [toBE, Nat.mod_one]
  | succ len ih =>
    have digit : (BitVec.ofNat 8 (n / 256 ^ len)).toNat = n / 256 ^ len % 256 := BitVec.toNat_ofNat ..
    rw [toBE, List.foldl_cons, ih, digit, Nat.mod_pow_succ, Nat.add_mul, Nat.pow_succ, Nat.mul_comm (256 ^ len) 256, Nat.mul_assoc,
      Nat.mul_comm (256 ^ len) (_ % 256), Nat.add_assoc, Nat.add_comm (n % 256 ^ len)]

@[simp] theorem fromBE_toBE (len n : Nat) : fromBE (toBE len n) = n % 256 ^ len := by simp [fromBE, foldl_toBE]

@[simp] theorem toBE_length (len n : Nat) : (toBE len n).length = len := by
  induction len with
  | zero => rfl
  | succ len ih => simp [toBE, ih]

/-- A number read in its low bits does not see the bits above. -/
theorem sgn_mod (w n : Nat) : sgn w (n % 2 ^ w) = sgn w n := by simp [sgn]

/-! ### Steps 1 to 6 of R36 on a WRITE of a scalar entry -/

/-- A place that is always RO is no entry. -/
theorem fixedAt_ne_entry (q : Nat) (l : List (Ty × Nat)) (n : Nat) (e : EntrySpec) : fixedAt q l n ≠ .ok (.entry e) := by
  unfold fixedAt; split <;> simp

/-- An entry at index:sub is the one that the entry tables list there: locate answers an entry in its last branch only (R36 steps 1 and 2). -/
theorem specOf_of_locate {d : Dev} {idx sub : Nat} {e : EntrySpec} (h : d.locate idx sub = .ok (.entry e)) : specOf idx sub = some e := by
  unfold Dev.locate at h
  grind [fixedAt_ne_entry]

/-- An entry that steps 1 to 3 of R36 lead to is the one that the entry tables list there. -/
theorem specOf_of_reach {d : Dev} {r : Requester} {o : Op} {e : EntrySpec} (h : d.reach r o = .ok (.entry e)) : specOf o.idx o.sub = some e := by
  unfold Dev.reach at h
  split at h
  · cases h
  · next p hp =>
    split at h
    · cases h; exact specOf_of_locate hp
    · cases h

/-- A number WRITTEN to a scalar entry that a requester reaches, and that the halter does not hold: only the entry's own check can refuse it. -/
theorem planWrite_putOp {d v0 : Dev} {r : Requester} {k v : Nat} {e : EntrySpec} (hr : d.reach r (putOp k v) = .ok (.entry e))
    (hb : e.ty.bytes ≠ 0) (hw : e.writable false k = true) (hh : ∀ old new, scalHeld k old new = false) :
    d.planWrite r false v0 (putOp k v) =
      if scalValid e k (v % 256 ^ e.ty.bytes) then .ok [.scal k (v % 256 ^ e.ty.bytes)] else .error ⟨Status.invalidValue, false⟩ := by
  have hs : specOf (k / 256) (k % 256) = some e := specOf_of_reach hr
  have hk : entryKey (putOp k v).idx (putOp k v).sub = k := Nat.div_add_mod' k 256
  have hty : (putOp k v).ty = e.ty.code := by simp [putOp, hs]
  have hdata : (putOp k v).data = toBE e.ty.bytes v := by simp [putOp, hs]
  have hlen : e.lenOk e.ty.bytes = true := by simp [EntrySpec.lenOk, hb]
  have hput : entryPut e k (toBE e.ty.bytes v) = .scal k (v % 256 ^ e.ty.bytes) := by simp [entryPut, hb]
  have hop : (putOp k v).opcode = 2 := rfl
  simp [Dev.planWrite, hr, hk, hop, hty, hdata, hlen, hput, hw, putHeld, hh, putValid, hs]

/-- A value that fails the check of its entry's table line is not valid (R36 step 6). -/
theorem scalValid_of_chk {e : EntrySpec} {k v : Nat} (h : e.chk.ok (e.num v) = false) : scalValid e k v = false := by
  simp [scalValid, h]

/-! ### A WRITE that is refused -/

/-- A WRITE by itself that stands clear and that one of steps 1 to 6 refuses: no effect, and the refusal as its answer. -/
theorem direct_refused {r : Requester} {o : Op} {a : Aside} {d : Dev} {st : Nat} (h2 : o.opcode = 2) (h : d.refuses r o st = true) :
    Closes (d.posed r o) (d.execRequest r .direct false a [o]) ∧
      (d.execRequest r .direct false a [o]).out = .response d.now r 2 st o.idx o.sub 0 [] :: d.out := by
  simp only [Dev.refuses, Bool.and_eq_true] at h
  obtain ⟨hc, hp⟩ := h
  have he : (d.posed r o).execKind r .direct Path.direct.space (some (d.access.nextTag, 0)) a o = (.done st 0 [], d.posed r o) := by
    unfold Dev.execKind Dev.writeOp
    simp only [h2]
    split at hp
    · cases hp
    · next f hf =>
      simp only [Bool.and_eq_true, beq_iff_eq, Bool.not_eq_true'] at hp
      simp [hf, hp.1, hp.2, Dev.cond, ansOf, Ans.fail]
  have := direct_done hc he rfl (.inr rfl)
  rwa [h2] at this

/-- What a refused WRITE of k shows of itself: its answer. The clocks and every entry but the counts of accesses and of the trace, and the mark of R70, stand. -/
def Dev.RefusedWrite (r : Requester) (k status : Nat) (d t : Dev) : Prop :=
  WriteAnswered r k status t ∧ t.time = d.time ∧ ∀ j, j ≠ E.AccessErrors → j ≠ E.EventTraceCount → j ≠ E.Modified → t.get j = d.get j

/-- A command that is a WRITE of k by itself, whose record leaves the block as it met it but for its answer. -/
theorem completes_refusedWrite {c : Instr} {s : State} {x k v st : Nat} {r : Requester} (e : exec c s = s.dict x r (putOp k v)) (h : s.Runs)
    (hf : Closes ((s.seen x).posed r (putOp k v)) ((s.seen x).execDirect r (putOp k v)) ∧
      ((s.seen x).execDirect r (putOp k v)).out = .response (s.seen x).now r 2 st (k / 256) (k % 256) 0 [] :: (s.seen x).out) :
    Completes c s ((s.seen x).RefusedWrite r k st) := by
  obtain ⟨closes, out⟩ := hf
  refine completes_live e h ⟨?_, ?_, fun j h1 h2 h3 => ?_⟩
  · show (s.dev.lived x _).out.head? = _
    rw [Dev.lived_out]
    exact congrArg List.head? out
  · rw [Dev.lived_time]; exact closes.time
  · rw [Dev.get_eq, Dev.lived_dict]; exact closes.get j h1 h2 h3

/-! ### The two entries of R82 -/

/-- The domains are A and B (R79). -/
theorem domain_cases {i : Nat} (hi : i < 2) : i = 0 ∨ i = 1 := by omega

/-- SetTime outside ACQUIRE, with no Reacquire waiting, is refused and writes nothing (R82, R85). -/
theorem Dev.setTime_refused {d : Dev} {i : Nat} (v : Nat) (hs : d.get (E.DomainState i) ≠ 0) (hp : (d.domainSt i).pend.reacquire = false) :
    d.setTime i v = (Status.invalidValue, d) := by
  simp only [Dev.setTime, hp]
  exact if_pos ⟨hs, rfl⟩

/-- A WRITE of SetTime acts as setTime. -/
theorem scalAct_setTime {i : Nat} (hi : i < 2) (r : Requester) (boot : Bool) (b : Option Bytes) (v : Nat) (d : Dev) :
    d.scalAct r boot b (E.SetTime i) v = d.setTime i v := by
  have hin : (E.SetTime i - E.DomainState 0) / 256 = i := by simp only [E.SetTime, E.DomainState]; omega
  have hlo : E.DomainState 0 ≤ E.SetTime i := by simp only [E.SetTime, E.DomainState]; omega
  simp [Dev.scalAct, Dev.timeAct, hin, hlo, hi]

/-- What the entry tables say of RateWord: an I64 within the range of R82 that may be written. -/
theorem specOf_rateWord {i : Nat} (hi : i < 2) :
    specOf (E.RateWord i / 256) (E.RateWord i % 256) = some ⟨0x2010, 2, 1, 4, 4, .i64, .rw, 2, 0, 0, false, .rng (-281474976710) 281474976710⟩ := by
  obtain rfl | rfl := domain_cases hi <;> decide

/-- The halter holds nothing of RateWord from firmware (R462). -/
theorem scalHeld_rateWord {i : Nat} (hi : i < 2) (old new : Nat) : scalHeld (E.RateWord i) old new = false := by
  obtain rfl | rfl := domain_cases hi <;> rfl

/-- A WRITE of a RateWord out of its range is refused by step 6 of R36 (R82). -/
theorem refuses_rateWord {d : Dev} {r : Requester} {i v : Nat} {e : EntrySpec} (hi : i < 2) (h : d.finds r (putOp (E.RateWord i) v) (.entry e) = true)
    (hv : sgn 64 v < -281474976710 ∨ 281474976710 < sgn 64 v) : d.refuses r (putOp (E.RateWord i) v) Status.invalidValue = true := by
  simp only [Dev.finds, Bool.and_eq_true] at h
  obtain ⟨hc, hf⟩ := h
  have hr : (d.posed r (putOp (E.RateWord i) v)).reach r (putOp (E.RateWord i) v) = .ok (.entry e) := by
    split at hf
    · next q hq => rw [hq, beq_iff_eq.1 hf]
    · cases hf
  obtain rfl := Option.some.inj ((specOf_of_reach hr).symm.trans (specOf_rateWord hi))
  have hchk : (Chk.rng (-281474976710) 281474976710).ok (sgn 64 (v % 2 ^ 64)) = false := by
    rw [sgn_mod]
    simp only [Chk.ok, Bool.and_eq_false_iff, decide_eq_false_iff_not]; omega
  simp only [Dev.refuses, hc, Bool.true_and]
  rw [planWrite_putOp hr (by decide) rfl (scalHeld_rateWord hi), scalValid_of_chk hchk]
  rfl

/-- Settles O8: SetTime is refused by its own action, a RateWord out of range by the entry's check. -/
theorem timeWritesRefused : Obligations.TimeWritesRefused := by
  rintro s x i r _ hruns rfl hi
  refine ⟨fun v hacc hstate hpend => ?_, fun w e hfinds hrange => ?_⟩
  · have hact : ((s.seen x).posed r (putOp (E.SetTime i) v)).scalAct r false none (E.SetTime i) v = (Status.invalidValue, _) :=
      (scalAct_setTime hi ..).trans (Dev.setTime_refused v hstate hpend)
    have hkey : E.SetTime i ≠ E.L2Flush := by simp only [E.SetTime, E.L2Flush]; omega
    have hstage : (Put.scal (E.SetTime i) v).stages = false := by obtain rfl | rfl := domain_cases hi <;> rfl
    exact completes_refusedWrite rfl hruns (direct_write hacc hkey hstage hact rfl (.inr rfl))
  · exact completes_refusedWrite rfl hruns (direct_refused rfl (refuses_rateWord hi hfinds hrange))

end Sys2Proof.Machine
end

section
/-!
PROOF. Stream gates (R308). One lemma says when a gate is open: it is valid, it is not latched, and the tick lies in the open part of the gate's cycle; the
clauses of R308 follow, since the place of a tick in its cycle lies between 0 and CYCLE_TICKS.
-/
namespace Sys2Proof.Machine

/-- What gateOpen asks of a gate, at a row whose CYCLE_TICKS is in range (R308). -/
theorem Dev.gateOpen_iff (d : Dev) {row : Nat} (g n : Nat) (hcycle : 1 ≤ Row.StreamGates.cycleTicks row) :
    d.gateOpen row g n = true ↔
      Row.StreamGates.valid row = 1 ∧ bit (d.row T.GateLatched g) 7 = false ∧
        ((n : Int) - Row.StreamGates.offset row) % Row.StreamGates.cycleTicks row < Row.StreamGates.openLen row := by
  simp only [Dev.gateOpen, Nat.max_eq_right hcycle, Bool.and_eq_true, beq_iff_eq, Bool.not_eq_true', decide_eq_true_eq, and_assoc]

/-- Settles O10: each clause is a case of gateOpen_iff, with the bounds of the integer remainder. -/
theorem gatesOpenByTheirTick : Obligations.GatesOpenByTheirTick := by
  rintro d g row n _ rfl hcycle
  have hpos : (0 : Int) < Row.StreamGates.cycleTicks row := by exact_mod_cast hcycle
  have hopen := d.gateOpen_iff g n hcycle
  refine ⟨fun hvalid hlatch => ?iff, fun hvalid hlatch hfull => ?full, fun hempty => ?empty, fun hinvalid => ?invalid, fun hlatched => ?latched⟩
  case iff => exact hopen.trans ⟨fun ⟨_, _, hlt⟩ => hlt, fun hlt => ⟨hvalid, hlatch, hlt⟩⟩
  case full =>
    have hlt := Int.emod_lt_of_pos ((n : Int) - Row.StreamGates.offset row) hpos
    exact hopen.2 ⟨hvalid, hlatch, by rwa [hfull]⟩
  case empty =>
    refine Bool.eq_false_iff.2 fun h => ?_
    obtain ⟨-, -, hlt⟩ := hopen.1 h
    have hnonneg := Int.emod_nonneg ((n : Int) - Row.StreamGates.offset row) (Int.ne_of_gt hpos)
    omega
  case invalid =>
    refine Bool.eq_false_iff.2 fun h => ?_
    obtain ⟨hvalid, -, -⟩ := hopen.1 h
    omega
  case latched =>
    refine Bool.eq_false_iff.2 fun h => ?_
    obtain ⟨-, hlatch, -⟩ := hopen.1 h
    exact Bool.false_ne_true (hlatch.symm.trans hlatched)

end Sys2Proof.Machine
end

section
/-!
PROOF. Reads of scalar RWT entries (R325). Values laid over the dictionary in turn read as the last of them that holds the key, so the staged view reads
as R325 orders it; the device computes no RWT entry at a read, so its value is the stored one; and a read that stands clear is answered at once.
-/
namespace Sys2Proof.FMap

/-- A map in canonical form holds no key at or below its first one further on. -/
theorem get?_tail_eq_none {α : Type} {j k : Nat} {v : α} {m : FMap α} (h : wf ((k, v) :: m) = true) (hj : j ≤ k) : get? j m = none := by
  cases m with
  | nil => rfl
  | cons e m =>
    simp only [FMap.wf, Bool.and_eq_true, decide_eq_true_eq] at h
    obtain ⟨hlt, -⟩ := h
    rw [FMap.get?, if_neg (by omega), if_pos (by omega)]

/-- A map s in canonical form laid over m: what s does not hold reads as in m. -/
theorem get?_foldl_set {α : Type} (k : Nat) {s : FMap α} (h : wf s = true) (m : FMap α) :
    get? k (s.foldl (fun m e => set e.1 e.2 m) m) = (get? k s).or (get? k m) := by
  induction s generalizing m with
  | nil => rfl
  | cons e s ih =>
    obtain ⟨k', v'⟩ := e
    rw [List.foldl_cons, ih (wf_tail h), get?_set, FMap.get?]
    obtain hlt | rfl | hgt := Nat.lt_trichotomy k k'
    · have hne : k ≠ k' := Nat.ne_of_lt hlt
      rw [get?_tail_eq_none h (Nat.le_of_lt hlt), if_neg hne, if_neg hne, if_pos hlt]
    · rw [get?_tail_eq_none h (Nat.le_refl k), if_pos rfl, if_pos rfl, Option.none_or, Option.some_or]
    · have hne : k ≠ k' := Nat.ne_of_gt hgt
      rw [if_neg hne, if_neg hne, if_neg (Nat.lt_asymm hgt)]

end Sys2Proof.FMap

namespace Sys2Proof.Machine

/-! ### The staged view (R325) -/

/-- Entry k with staged values laid over the block. -/
theorem Dev.get_over {st : Staged} (h : FMap.wf st.scal = true) (k : Nat) (d : Dev) : (d.over st).get k = (st.scal.get? k).getD (d.get k) := by
  simp only [Dev.over, Dev.get, Dict.get, Dict.overlay, FMap.get?_foldl_set k h]
  cases FMap.get? k st.scal <;> rfl

theorem Dev.viewOf_append (l m : List Batch) (d : Dev) : d.viewOf (l ++ m) = (d.viewOf l).viewOf m := List.foldl_append

theorem Dev.viewOf_cons (b : Batch) (m : List Batch) (d : Dev) : d.viewOf (b :: m) = (d.over b.st).viewOf m := rfl

/-- Batches that do not hold entry k leave it as it is. -/
theorem Dev.get_viewOf_of_absent {k : Nat} {l : List Batch} (hwf : ∀ b ∈ l, FMap.wf b.st.scal = true)
    (h : ∀ b ∈ l, b.st.scal.get? k = none) (d : Dev) : (d.viewOf l).get k = d.get k := by
  induction l generalizing d with
  | nil => rfl
  | cons b l ih =>
    rw [List.forall_mem_cons] at hwf h
    rw [Dev.viewOf_cons, ih hwf.2 h.2, Dev.get_over hwf.1, h.1, Option.getD_none]

/-- The staged view is the batches, and over them the open stage. -/
theorem Dev.get_staged {d : Dev} (h : FMap.wf d.commit.stage.scal = true) (k : Nat) :
    d.staged.get k = (d.commit.stage.scal.get? k).getD ((d.viewOf d.commit.batches).get k) := Dev.get_over h k _

/-- The open stage comes first. -/
theorem Dev.get_staged_of_stage {d : Dev} {k v : Nat} (hwf : FMap.wf d.commit.stage.scal = true) (h : d.commit.stage.scal.get? k = some v) :
    d.staged.get k = v := by
  rw [Dev.get_staged hwf, h, Option.getD_some]

/-- The batch that holds k and that none behind it outdoes comes next. -/
theorem Dev.get_staged_of_batch {d : Dev} {k v : Nat} {l m : List Batch} {b : Batch} (hwf : FMap.wf d.commit.stage.scal = true)
    (hwfs : ∀ b ∈ d.commit.batches, FMap.wf b.st.scal = true) (hstage : d.commit.stage.scal.get? k = none) (hl : d.commit.batches = l ++ b :: m)
    (hb : b.st.scal.get? k = some v) (hm : ∀ a ∈ m, a.st.scal.get? k = none) : d.staged.get k = v := by
  rw [hl, List.forall_mem_append, List.forall_mem_cons] at hwfs
  obtain ⟨-, hwfb, hwfm⟩ := hwfs
  rw [Dev.get_staged hwf, hstage, Option.getD_none, hl, Dev.viewOf_append, Dev.viewOf_cons, Dev.get_viewOf_of_absent hwfm hm,
    Dev.get_over hwfb, hb, Option.getD_some]

/-- The active value comes last. -/
theorem Dev.get_staged_of_absent {d : Dev} {k : Nat} (hwf : FMap.wf d.commit.stage.scal = true)
    (hwfs : ∀ b ∈ d.commit.batches, FMap.wf b.st.scal = true) (hstage : d.commit.stage.scal.get? k = none)
    (h : ∀ b ∈ d.commit.batches, b.st.scal.get? k = none) : d.staged.get k = d.get k := by
  rw [Dev.get_staged hwf, hstage, Option.getD_none, Dev.get_viewOf_of_absent hwfs h]

/-! ### The scalar RWT entries -/

/-- Where scalar RWT entries stand: hop launch and preemption of the ports, the tick, UdfDef, the Weave. -/
def rwtPlace (idx sub : Nat) : Prop :=
  (0x1002 ≤ idx ∧ idx < 0x1602 ∧ idx % 16 = 2) ∨ (idx = 0x2030 ∧ sub ≤ 2) ∨ idx = 0x3002 ∨ (0x4410 ≤ idx ∧ idx < 0x4470 ∧ sub ≤ 4)

/-- Whether a line of the entry tables stands for entries in the places of rwtPlace only. -/
def EntrySpec.rwtLine (e : EntrySpec) : Bool :=
  decide ((e.idx = 0x1002 ∧ e.n = 96 ∧ e.step = 16) ∨ (e.idx = 0x2030 ∧ e.n = 1 ∧ e.step = 1 ∧ e.subHi ≤ 2) ∨ (e.idx = 0x3002 ∧ e.n = 1 ∧ e.step = 1) ∨
    (e.idx = 0x4410 ∧ e.n = 96 ∧ e.step = 1 ∧ e.subHi ≤ 4))

/-- The entry tables mark no other scalar line RWT, in any area. -/
theorem rwtLine_of_specsNear {idx : Nat} : ∀ e ∈ specsNear idx, e.acc = .rwt → e.ty.bytes ≠ 0 → e.rwtLine = true := by
  unfold specsNear
  repeat' split
  all_goals decide

/-- What such a line covers. -/
theorem rwtPlace_of_covers {e : EntrySpec} {idx sub : Nat} (hl : e.rwtLine = true) (hc : e.covers idx sub = true) : rwtPlace idx sub := by
  simp only [EntrySpec.covers, Bool.and_eq_true, decide_eq_true_eq, beq_iff_eq] at hc
  obtain ⟨⟨⟨⟨hidx, hmod⟩, hn⟩, -⟩, hhi⟩ := hc
  unfold rwtPlace
  obtain ⟨h, hnum, hstep⟩ | ⟨h, hnum, hstep, hsub⟩ | ⟨h, hnum, hstep⟩ | ⟨h, hnum, hstep, hsub⟩ := of_decide_eq_true hl
  all_goals
    rw [h, hstep] at hmod hn
    omega

/-- A scalar RWT entry stands in one of those places. -/
theorem rwtPlace_of_specOf {idx sub : Nat} {e : EntrySpec} (h : specOf idx sub = some e) (hacc : e.acc = .rwt) (hb : e.ty.bytes ≠ 0) : rwtPlace idx sub :=
  rwtPlace_of_covers (rwtLine_of_specsNear e (List.mem_of_find?_eq_some h) hacc hb) (List.find?_some (p := (EntrySpec.covers · idx sub)) h)

/-- The device computes no RWT entry at a read: it reads as it is stored. -/
theorem Dev.scalNow_of_rwtPlace {idx sub : Nat} (h : rwtPlace idx sub) (hs : sub < 256) (d : Dev) :
    d.scalNow (entryKey idx sub) = d.get (entryKey idx sub) := by
  unfold rwtPlace at h
  generalize hk : entryKey idx sub = k
  unfold entryKey at hk
  simp only [Dev.scalNow, E.RawCount, E.DomainTime, E.OutputTime, E.TickNumber, E.HbmBytes, E.ReservedCells, E.FreeCells, E.FreeShared, E.InFlightCells,
    E.QueuedCells, E.ResidueCells, E.ReleasingCells, E.ResidueInUse, E.SpillQueues, E.SpillCells, E.WeavePosition, E.LaunchSlotsInUse,
    E.SweepBanksInUse, E.SweepWordsSelected, E.FecMode, E.BankState]
  iterate 23 refine (if_neg (by omega)).trans ?_
  rfl

/-! ### A read of a scalar RWT entry (R36, R37, R325) -/

/-- No RWT entry is the deep query's result, which a read waits for. -/
theorem ne_deepQueryResult_of_rwtPlace {idx sub : Nat} (h : rwtPlace idx sub) (hs : sub < 256) : entryKey idx sub ≠ E.DeepQueryResult := by
  unfold rwtPlace at h
  simp only [entryKey, E.DeepQueryResult]; omega

/-- No RWT entry is read from a row whose storage could fail. -/
theorem Dev.entryBad_of_rwtPlace {idx sub : Nat} (h : rwtPlace idx sub) (hs : sub < 256) (d : Dev) : d.entryBad (entryKey idx sub) = false := by
  unfold rwtPlace at h
  have hem : entryKey idx sub ≠ E.EmQueryResult := by simp only [entryKey, E.EmQueryResult]; omega
  have hl2 : entryKey idx sub / 256 ≠ E.L2QueryResult 0 / 256 := by simp only [entryKey, E.L2QueryResult]; omega
  rw [Dev.entryBad, if_neg hem, if_neg hl2]

/-- A read of an RWT entry changes nothing. -/
theorem Dev.readEffect_of_rwtPlace {e : EntrySpec} {idx sub : Nat} (h : rwtPlace idx sub) (hs : sub < 256) (hacc : e.acc = .rwt) (d : Dev) :
    d.readEffect e (entryKey idx sub) = d := by
  unfold rwtPlace at h
  have hlow : entryKey idx sub ≠ E.FreeCellsLow := by simp only [entryKey, E.FreeCellsLow]; omega
  have hem : entryKey idx sub ≠ E.EmQueryResult := by simp only [entryKey, E.EmQueryResult]; omega
  have hrc : e.acc ≠ .rc := by simp [hacc]
  rw [Dev.readEffect, if_neg hlow, if_neg hem, if_neg hrc]

/-- A number fits in the answer to a record presented by itself. -/
theorem fitAns_toBE (ty : Ty) (v : Nat) : fitAns Path.direct.space ty.code (toBE ty.bytes v) = .done Status.ok ty.code (toBE ty.bytes v) := by
  have hfits : ty.bytes ≤ roomIn Path.direct.space := by cases ty <;> decide
  exact if_pos (by rwa [toBE_length])

/-- The view that a read looks at: READ_STAGED (3) the staged one, READ the active one. -/
def Dev.readView (op : Nat) (d : Dev) : Dev := if op == 3 then d.staged else d

/-- A read of a scalar RWT entry by itself: the value stored in the view that it looks at, and no effect. -/
theorem Dev.readEntry_rwt {d : Dev} {r : Requester} {tk : Option (Nat × Nat)} {e : EntrySpec} {o : Op} (hty : o.ty = 0) (hdata : o.data = [])
    (hsub : o.sub < 256) (hplace : rwtPlace o.idx o.sub) (hacc : e.acc = .rwt) (hb : e.ty.bytes ≠ 0) :
    d.readEntry r Path.direct.space tk (o.opcode == 3) e o =
      (.done Status.ok e.ty.code (toBE e.ty.bytes ((d.readView o.opcode).get o.key)), d) := by
  have hdeep : o.key ≠ E.DeepQueryResult := ne_deepQueryResult_of_rwtPlace hplace hsub
  have hbad : d.entryBad o.key = false := d.entryBad_of_rwtPlace hplace hsub
  have heffect : d.readEffect e o.key = d := d.readEffect_of_rwtPlace hplace hsub hacc
  have hvalue (v : Dev) : v.valueNow e o.key r.master = toBE e.ty.bytes (v.get o.key) := by
    rw [Dev.valueNow, if_neg hb]
    exact congrArg _ (v.scalNow_of_rwtPlace hplace hsub)
  unfold Dev.readView
  cases o.opcode == 3 <;> simp [Dev.readEntry, hty, hdata, hacc, hdeep, hbad, hvalue, fitAns_toBE, heffect, Dev.cond]

/-- A record that finds its place stands clear, and steps 1 to 3 of R36 lead there. -/
theorem Dev.finds_iff {d : Dev} {r : Requester} {o : Op} {p : Place} :
    d.finds r o p = true ↔ d.clear r o = true ∧ (d.posed r o).reach r o = .ok p := by
  unfold Dev.finds
  cases (d.posed r o).reach r o <;> simp

/-- What execKind makes of a READ or READ_STAGED that leads to a scalar RWT entry. -/
theorem Dev.execKind_rwtRead {d : Dev} {r : Requester} {tk : Option (Nat × Nat)} {e : EntrySpec} {o : Op} (hop : o.opcode = 1 ∨ o.opcode = 3)
    (hty : o.ty = 0) (hdata : o.data = []) (hsub : o.sub < 256) (hreach : d.reach r o = .ok (.entry e)) (hacc : e.acc = .rwt) (hb : e.ty.bytes ≠ 0) :
    d.execKind r .direct Path.direct.space tk {} o = (.done Status.ok e.ty.code (toBE e.ty.bytes ((d.readView o.opcode).get o.key)), d) := by
  have hplace : rwtPlace o.idx o.sub := rwtPlace_of_specOf (specOf_of_reach hreach) hacc hb
  have hkind : d.execKind r .direct Path.direct.space tk {} o = d.readOp r Path.direct.space tk o := by
    obtain h | h := hop <;> simp only [Dev.execKind, h]
  rw [hkind, Dev.readOp, hreach]
  exact Dev.readEntry_rwt hty hdata hsub hplace hacc hb

/-- A command that is a READ or READ_STAGED of a scalar RWT entry by itself: it answers the value v of the view that it looks at. -/
theorem completes_rwtRead {c : Instr} {s : State} {x v : Nat} {r : Requester} {e : EntrySpec} {o : Op} (hexec : exec c s = s.dict x r o)
    (hop : o.opcode = 1 ∨ o.opcode = 3) (hty : o.ty = 0) (hdata : o.data = []) (hsub : o.sub < 256) (hruns : s.Runs)
    (hfinds : (s.seen x).finds r o (.entry e) = true) (hacc : e.acc = .rwt) (hb : e.ty.bytes ≠ 0)
    (hv : (((s.seen x).posed r o).readView o.opcode).get o.key = v) :
    Completes c s fun t => Answered r o.opcode o.key Status.ok e.ty.code (toBE e.ty.bytes v) t := by
  obtain ⟨hclear, hreach⟩ := Dev.finds_iff.1 hfinds
  obtain ⟨-, hout⟩ := direct_done hclear (Dev.execKind_rwtRead hop hty hdata hsub hreach hacc hb) rfl (.inr rfl)
  have hidx : o.key / 256 = o.idx := by simp only [Op.key, entryKey]; omega
  have hkeysub : o.key % 256 = o.sub := by simp only [Op.key, entryKey]; omega
  refine completes_live hexec hruns ?_
  rw [Answered, Dev.lived_out, hidx, hkeysub, ← hv]
  exact congrArg List.head? hout

/-- Settles O9: READ answers the stored value, READ_STAGED that of the staged view, which reads in the order of R325. -/
theorem stagedReads : Obligations.StagedReads := by
  rintro s x idx sub _ v r e _ hruns rfl - hsub rfl hfinds hacc hb hwf hwfs
  have staged {v : Nat} (hv : ((s.seen x).posed r { opcode := 3, idx, sub }).staged.get (entryKey idx sub) = v) :=
    completes_rwtRead (c := .readStaged x r idx sub) rfl (.inr rfl) rfl rfl hsub hruns hfinds hacc hb hv
  refine ⟨fun hread => ?active, fun hstage => ?stage, fun l b m hstage hl hbatch hlater => ?batch, fun hstage hnone => ?absent⟩
  case active => exact completes_rwtRead (o := { opcode := 1, idx, sub }) rfl (.inl rfl) rfl rfl hsub hruns hread hacc hb rfl
  case stage => exact staged (Dev.get_staged_of_stage hwf hstage)
  case batch => exact staged (Dev.get_staged_of_batch hwf hwfs hstage hl hbatch fun a ha => (hlater a ha).2)
  case absent => exact staged (Dev.get_staged_of_absent hwf hwfs hstage hnone)

end Sys2Proof.Machine
end
